-- ==== Sys2Proof/Word.lean ====
section
/-! DEFINITION. The byte of a telegram. Every other quantity of the manual is a number or a name. -/

namespace Sys2Proof

/-- One byte of a frame on the host link or on a crane port (R173). -/
abbrev Byte := BitVec 8

end Sys2Proof
end

