-- ==== Sys2Proof/Config.lean ====
section
/-! DEFINITION. What the part's release fixes and the manual leaves open. -/

namespace Sys2Proof.Config

/-- The free value behind the revision number: nothing constrains it but R183's range. -/
opaque revisionChoice : Fin 255

end Sys2Proof.Config
end

