-- ==== Sys2Proof/Syntax.lean ====
section
/-! DEFINITION. The commands of the JD12: one constructor of `Instr` per row of spec/opcode_table.json.
The fields of a request are the raw numbers its telegram carries (R184, R185), so that every value
the manual refuses can be written down. -/

namespace Sys2Proof

/-- A location address field of a request: five bytes (R184). -/
structure LocFields where
  aisle : Nat
  side : Nat
  column : Nat
  level : Nat
  depth : Nat
  deriving DecidableEq, Repr

/-- A column address field of a request: four bytes (R184). -/
structure ColFields where
  aisle : Nat
  side : Nat
  column : Nat
  depth : Nat
  deriving DecidableEq, Repr

/-- A filter field: code, then mask, two bytes each (R184). -/
structure FilterFields where
  code : Nat
  mask : Nat
  deriving DecidableEq, Repr

/-- The motion figures block: twelve two-byte fields (R50, R185). -/
structure FigureFields where
  nvx : Nat
  nax : Nat
  nvy : Nat
  nay : Nat
  evx : Nat
  eax : Nat
  evy : Nat
  eay : Nat
  ts : Nat
  tf : Nat
  tp : Nat
  td : Nat
  deriving DecidableEq, Repr

/-- The two reach filters and the enable of filter B (R97, R119). -/
structure ReachFields where
  filterA : FilterFields
  filterB : FilterFields
  bEnable : Nat
  deriving DecidableEq, Repr

/-- SET_AISLE (R1). -/
structure AisleFields where
  aisle : Nat
  columns : Nat
  levels : Nat
  depth : Nat
  x1 : Nat
  px : Nat
  y1 : Nat
  py : Nat
  twin : Nat
  deriving DecidableEq, Repr

/-- SET_CRANE (R97). -/
structure CraneFields where
  crane : Nat
  aisle : Nat
  role : Nat
  endX : Nat
  endY : Nat
  gap : Nat
  reach : ReachFields
  figures : FigureFields
  deriving DecidableEq, Repr

/-- SET_STATION (R138). -/
structure StationFields where
  station : Nat
  aisle : Nat
  railEnd : Nat
  kind : Nat
  x : Nat
  y : Nat
  capacity : Nat
  deriving DecidableEq, Repr

/-- The policy block as SET_POLICY carries it (R169, R185). -/
structure PolicyFields where
  offset0 : Nat
  offset1 : Nat
  offset2 : Nat
  offset3 : Nat
  aging : Nat
  pairing : Nat
  minSaving : Nat
  window : Nat
  holdTime : Nat
  marginTens : Nat
  parkHold : Nat
  deriving DecidableEq, Repr

/-- One level entry of LOAD_MAP (R15, R185). -/
structure LevelFields where
  occupancy : Nat
  pallet : Nat
  height : Nat
  deriving DecidableEq, Repr

/-- STORE (R30). -/
structure StoreFields where
  job : Nat
  cls : Nat
  pallet : Nat
  height : Nat
  station : Nat
  form : Nat
  target : LocFields
  zone : FilterFields
  originator : Nat
  deriving DecidableEq, Repr

/-- RETRIEVE (R34). -/
structure RetrieveFields where
  job : Nat
  cls : Nat
  form : Nat
  pallet : Nat
  location : LocFields
  station : Nat
  group : Nat
  position : Nat
  delay : Nat
  originator : Nat
  deriving DecidableEq, Repr

/-- RECOVER (R114). -/
structure RecoverFields where
  crane : Nat
  form : Nat
  location : LocFields
  station : Nat
  deriving DecidableEq, Repr

/-- SET_LOC (R14). -/
structure SetLocFields where
  location : LocFields
  occupancy : Nat
  pallet : Nat
  height : Nat
  deriving DecidableEq, Repr

/-- The commands. `tag` is a request's tag (R173); `port` is 0 for the host link and 1..12 for a
crane port. A request command stands for a good frame of that request on the host link (entry 3). -/
inductive Instr where
  /-- POWER_ON (R168). -/
  | powerOn
  /-- HOST_FRAME (R174): the bytes that arrive on the host link and complete a frame. -/
  | hostFrame (bytes : List Byte)
  /-- FRAME_GAP_TIMEOUT (R174): bytes that arrive on a line, then more than 20 ms without a byte. -/
  | frameGapTimeout (port : Nat) (bytes : List Byte)
  /-- HOST_READY_CHANGE (R171). -/
  | hostReadyChange (ready : Bool)
  /-- TELEGRAM_SENT (R178). -/
  | telegramSent
  /-- UNKNOWN_CODE (R176). -/
  | unknownCode (tag : Nat) (code : Nat) (fields : List Byte)
  /-- IDENTIFY (R183). -/
  | identify (tag : Nat)
  /-- STATUS (R182). -/
  | status (tag : Nat) (clear : Nat)
  /-- QUERY_JOB (R48). -/
  | queryJob (tag : Nat) (job : Nat)
  /-- QUERY_LOC (R21). -/
  | queryLoc (tag : Nat) (location : LocFields)
  /-- QUERY_CRANE (R122). -/
  | queryCrane (tag : Nat) (crane : Nat)
  /-- QUERY_GROUP (R154). -/
  | queryGroup (tag : Nat) (group : Nat)
  /-- QUERY_POLICY (R170). -/
  | queryPolicy (tag : Nat)
  /-- SET_AISLE (R1). -/
  | setAisle (tag : Nat) (q : AisleFields)
  /-- SET_CRANE (R97). -/
  | setCrane (tag : Nat) (q : CraneFields)
  /-- SET_STATION (R138). -/
  | setStation (tag : Nat) (q : StationFields)
  /-- SET_POLICY (R169). -/
  | setPolicy (tag : Nat) (q : PolicyFields)
  /-- SET_ORIGINATOR (R16). -/
  | setOriginator (tag : Nat) (originator : Nat) (aisle : Nat) (mask : Nat) (preset : Nat)
  /-- LOAD_MAP (R15). -/
  | loadMap (tag : Nat) (column : ColFields) (entries : List LevelFields)
  /-- START (R162). -/
  | start (tag : Nat)
  /-- STORE (R30). -/
  | store (tag : Nat) (q : StoreFields)
  /-- RETRIEVE (R34). -/
  | retrieve (tag : Nat) (q : RetrieveFields)
  /-- CANCEL (R43). -/
  | cancel (tag : Nat) (job : Nat)
  /-- RECOVER (R114). -/
  | recover (tag : Nat) (q : RecoverFields)
  /-- GROUP_OPEN (R141). -/
  | groupOpen (tag : Nat) (group : Nat) (first : Nat)
  /-- GROUP_CLOSE (R145). -/
  | groupClose (tag : Nat) (group : Nat)
  /-- GROUP_SKIP (R144). -/
  | groupSkip (tag : Nat) (group : Nat) (position : Nat)
  /-- STATION_CLEAR (R140). -/
  | stationClear (tag : Nat) (station : Nat) (count : Nat)
  /-- SET_LOC (R14). -/
  | setLoc (tag : Nat) (q : SetLocFields)
  /-- SET_ATTR (R17). -/
  | setAttr (tag : Nat) (originator : Nat) (location : LocFields) (attrs : Nat)
  /-- MARK (R18). -/
  | mark (tag : Nat) (originator : Nat) (column : ColFields) (levels : Nat)
  /-- SET_MODE (R159). -/
  | setMode (tag : Nat) (run : Nat) (speed : Nat) (active : Nat)
  /-- CRANE_CTL RESUME (R117). -/
  | craneCtlResume (tag : Nat) (crane : Nat)
  /-- CRANE_CTL PARK (R118). -/
  | craneCtlPark (tag : Nat) (crane : Nat)
  /-- CRANE_CTL PROFILE (R58). -/
  | craneCtlProfile (tag : Nat) (crane : Nat) (figures : FigureFields)
  /-- CRANE_CTL REACH (R119). -/
  | craneCtlReach (tag : Nat) (crane : Nat) (reach : ReachFields)
  /-- RESTART (R167). -/
  | restart (tag : Nat)
  /-- STOP_INPUT_CHANGE (R163): the contact's new state has stood for 10 ms. -/
  | stopInputChange (asserted : Bool)
  /-- RESUME_CHECK_EXPIRY (R166). -/
  | resumeCheckExpiry
  /-- TAKEN (R102). -/
  | taken (crane : Nat) (legId : Nat)
  /-- DONE (R105). -/
  | done (crane : Nat) (legId : Nat) (x : Nat) (y : Nat) (load : Nat)
  /-- FAILED (R106). -/
  | failed (crane : Nat) (legId : Nat) (reason : Nat) (x : Nat) (y : Nat) (load : Nat)
  /-- STATE (R100). -/
  | state (crane : Nat) (mode : Nat) (flags : Nat) (x : Nat) (y : Nat) (load : Nat)
  /-- CRANE_BAD_FRAME (R92). -/
  | craneBadFrame (crane : Nat)
  /-- CRANE_TELEGRAM_DISCARDED (R92). -/
  | craneTelegramDiscarded (crane : Nat)
  /-- TAKEN_TIMER_EXPIRY (R102). -/
  | takenTimerExpiry (crane : Nat)
  /-- LEG_TIMER_EXPIRY (R102). -/
  | legTimerExpiry (crane : Nat)
  /-- SILENCE_TIMEOUT (R94). -/
  | silenceTimeout (crane : Nat)
  /-- PARKING_HOLD_EXPIRY (R118). -/
  | parkingHoldExpiry (crane : Nat)
  /-- EARLIEST_START_EXPIRY (R36). -/
  | earliestStartExpiry (job : Nat)
  /-- HOLD_EXPIRY (R152). -/
  | holdExpiry (crane : Nat)
  /-- STOP_INPUT_SETTLED (R172): 10 ms after power-on, with the state the contact has held. -/
  | stopInputSettled (asserted : Bool)
  /-- BODY_LENGTH_OUT_OF_RANGE (R174): the bytes that arrive on a line, the second length byte last. -/
  | bodyLengthOutOfRange (port : Nat) (bytes : List Byte)
  deriving DecidableEq, Repr

end Sys2Proof
end

