-- ==== Sys2Proof/WellFormed.lean ====
section
/-! DEFINITION. When a command's fields fit the telegram that carries them (R173, R184, R185, R188).
A value that fits but lies outside its range of meaning is well formed: the command's own checks refuse it. -/

namespace Sys2Proof

/-- A one-byte field. -/
abbrev fits1 (n : Nat) : Bool := decide (n < 256)
/-- A two-byte field. -/
abbrev fits2 (n : Nat) : Bool := decide (n < 65536)
/-- A four-byte field. -/
abbrev fits4 (n : Nat) : Bool := decide (n < 4294967296)

/-- The request codes of R185, CRANE_CTL's one code among them. -/
def requestCodes : List Nat :=
  [0x01, 0x02, 0x03, 0x04, 0x05, 0x06, 0x07, 0x10, 0x11, 0x12, 0x13, 0x14, 0x15, 0x16, 0x20, 0x21, 0x22, 0x23,
   0x28, 0x29, 0x2A, 0x2B, 0x30, 0x31, 0x32, 0x38, 0x39, 0x3F]

def LocFields.wf (l : LocFields) : Bool :=
  fits1 l.aisle && fits1 l.side && fits1 l.column && fits1 l.level && fits1 l.depth

def ColFields.wf (l : ColFields) : Bool :=
  fits1 l.aisle && fits1 l.side && fits1 l.column && fits1 l.depth

def FilterFields.wf (f : FilterFields) : Bool := fits2 f.code && fits2 f.mask

def FigureFields.wf (f : FigureFields) : Bool :=
  fits2 f.nvx && fits2 f.nax && fits2 f.nvy && fits2 f.nay && fits2 f.evx && fits2 f.eax && fits2 f.evy && fits2 f.eay &&
    fits2 f.ts && fits2 f.tf && fits2 f.tp && fits2 f.td

def ReachFields.wf (r : ReachFields) : Bool := r.filterA.wf && r.filterB.wf && fits1 r.bEnable

def AisleFields.wf (q : AisleFields) : Bool :=
  fits1 q.aisle && fits1 q.columns && fits1 q.levels && fits1 q.depth && fits4 q.x1 && fits2 q.px && fits2 q.y1 &&
    fits2 q.py && fits1 q.twin

def CraneFields.wf (q : CraneFields) : Bool :=
  fits1 q.crane && fits1 q.aisle && fits1 q.role && fits4 q.endX && fits2 q.endY && fits2 q.gap && q.reach.wf && q.figures.wf

def StationFields.wf (q : StationFields) : Bool :=
  fits1 q.station && fits1 q.aisle && fits1 q.railEnd && fits1 q.kind && fits4 q.x && fits2 q.y && fits1 q.capacity

def PolicyFields.wf (q : PolicyFields) : Bool :=
  fits4 q.offset0 && fits4 q.offset1 && fits4 q.offset2 && fits4 q.offset3 && fits1 q.aging && fits1 q.pairing &&
    fits2 q.minSaving && fits1 q.window && fits2 q.holdTime && fits2 q.marginTens && fits2 q.parkHold

def LevelFields.wf (e : LevelFields) : Bool := fits1 e.occupancy && fits4 e.pallet && fits1 e.height

def StoreFields.wf (q : StoreFields) : Bool :=
  fits4 q.job && fits1 q.cls && fits4 q.pallet && fits1 q.height && fits1 q.station && fits1 q.form && q.target.wf &&
    q.zone.wf && fits1 q.originator

def RetrieveFields.wf (q : RetrieveFields) : Bool :=
  fits4 q.job && fits1 q.cls && fits1 q.form && fits4 q.pallet && q.location.wf && fits1 q.station && fits2 q.group &&
    fits1 q.position && fits2 q.delay && fits1 q.originator

def RecoverFields.wf (q : RecoverFields) : Bool := fits1 q.crane && fits1 q.form && q.location.wf && fits1 q.station

def SetLocFields.wf (q : SetLocFields) : Bool := q.location.wf && fits1 q.occupancy && fits4 q.pallet && fits1 q.height

/-- A crane port number (R92). -/
def portOk (k : Nat) : Bool := decide (1 ≤ k) && decide (k ≤ 12)

/-- A command whose fields fit their telegram. -/
def Instr.wf : Instr → Bool
  | .powerOn => true
  | .hostFrame _ => true
  | .frameGapTimeout port _ => decide (port ≤ 12)
  | .hostReadyChange _ => true
  | .telegramSent => true
  | .unknownCode tag code fields => fits2 tag && fits1 code && !requestCodes.contains code && decide (fields.length ≤ 1021)
  | .identify tag => fits2 tag
  | .status tag clear => fits2 tag && fits1 clear
  | .queryJob tag job => fits2 tag && fits4 job
  | .queryLoc tag location => fits2 tag && location.wf
  | .queryCrane tag crane => fits2 tag && fits1 crane
  | .queryGroup tag group => fits2 tag && fits2 group
  | .queryPolicy tag => fits2 tag
  | .setAisle tag q => fits2 tag && q.wf
  | .setCrane tag q => fits2 tag && q.wf
  | .setStation tag q => fits2 tag && q.wf
  | .setPolicy tag q => fits2 tag && q.wf
  | .setOriginator tag originator aisle mask preset =>
    fits2 tag && fits1 originator && fits1 aisle && fits1 mask && fits1 preset
  | .loadMap tag column entries => fits2 tag && column.wf && decide (entries.length ≤ 32) && entries.all LevelFields.wf
  | .start tag => fits2 tag
  | .store tag q => fits2 tag && q.wf
  | .retrieve tag q => fits2 tag && q.wf
  | .cancel tag job => fits2 tag && fits4 job
  | .recover tag q => fits2 tag && q.wf
  | .groupOpen tag group first => fits2 tag && fits2 group && fits1 first
  | .groupClose tag group => fits2 tag && fits2 group
  | .groupSkip tag group position => fits2 tag && fits2 group && fits1 position
  | .stationClear tag station count => fits2 tag && fits1 station && fits1 count
  | .setLoc tag q => fits2 tag && q.wf
  | .setAttr tag originator location attrs => fits2 tag && fits1 originator && location.wf && fits1 attrs
  | .mark tag originator column levels => fits2 tag && fits1 originator && column.wf && fits4 levels
  | .setMode tag run speed active => fits2 tag && fits1 run && fits1 speed && fits1 active
  | .craneCtlResume tag crane => fits2 tag && fits1 crane
  | .craneCtlPark tag crane => fits2 tag && fits1 crane
  | .craneCtlProfile tag crane figures => fits2 tag && fits1 crane && figures.wf
  | .craneCtlReach tag crane reach => fits2 tag && fits1 crane && reach.wf
  | .restart tag => fits2 tag
  | .stopInputChange _ => true
  | .resumeCheckExpiry => true
  | .taken crane legId => portOk crane && fits1 legId
  | .done crane legId x y load => portOk crane && fits1 legId && fits4 x && fits2 y && fits4 load
  | .failed crane legId reason x y load => portOk crane && fits1 legId && fits1 reason && fits4 x && fits2 y && fits4 load
  | .state crane mode flags x y load => portOk crane && fits1 mode && fits1 flags && fits4 x && fits2 y && fits4 load
  | .craneBadFrame crane => portOk crane
  | .craneTelegramDiscarded crane => portOk crane
  | .takenTimerExpiry crane => portOk crane
  | .legTimerExpiry crane => portOk crane
  | .silenceTimeout crane => portOk crane
  | .parkingHoldExpiry crane => portOk crane
  | .earliestStartExpiry job => fits4 job
  | .holdExpiry crane => portOk crane
  | .stopInputSettled _ => true
  | .bodyLengthOutOfRange port _ => decide (port ≤ 12)

/-- The commands that are requests on the host link (R185). -/
def Instr.isRequest : Instr → Bool
  | .powerOn | .hostFrame _ | .frameGapTimeout _ _ | .hostReadyChange _ | .telegramSent => false
  | .stopInputChange _ | .resumeCheckExpiry | .taken _ _ | .done _ _ _ _ _ | .failed _ _ _ _ _ _ => false
  | .state _ _ _ _ _ _ | .craneBadFrame _ | .craneTelegramDiscarded _ | .takenTimerExpiry _ => false
  | .legTimerExpiry _ | .silenceTimeout _ | .parkingHoldExpiry _ | .earliestStartExpiry _ | .holdExpiry _ => false
  | .stopInputSettled _ | .bodyLengthOutOfRange _ _ => false
  | .unknownCode _ _ _ | .identify _ | .status _ _ | .queryJob _ _ | .queryLoc _ _ | .queryCrane _ _ => true
  | .queryGroup _ _ | .queryPolicy _ | .setAisle _ _ | .setCrane _ _ | .setStation _ _ | .setPolicy _ _ => true
  | .setOriginator _ _ _ _ _ | .loadMap _ _ _ | .start _ | .store _ _ | .retrieve _ _ | .cancel _ _ => true
  | .recover _ _ | .groupOpen _ _ _ | .groupClose _ _ | .groupSkip _ _ _ | .stationClear _ _ _ => true
  | .setLoc _ _ | .setAttr _ _ _ _ | .mark _ _ _ _ | .setMode _ _ _ _ | .craneCtlResume _ _ => true
  | .craneCtlPark _ _ | .craneCtlProfile _ _ _ | .craneCtlReach _ _ _ | .restart _ => true

end Sys2Proof
end

