-- ==== Sys2Proof/Decode.lean ====
section
/-! DEFINITION. The byte layouts of what arrives: host requests (R184, R185) and crane telegrams (R188),
read and written. No row of spec/opcode_table.json has bits, so `decodeTableWord` spells no command. -/

namespace Sys2Proof

/-- The command a table word spells: no row of the table gives bits, so none. -/
def decodeTableWord (_nbits _w : Nat) : Option Instr := none

/-- `v` as `n` bytes, most significant byte first (00 section 5). -/
def beBytes : Nat → Nat → List Byte
  | 0, _ => []
  | n + 1, v => BitVec.ofNat 8 (v / 256 ^ n) :: beBytes n v

/-- The number that bytes spell, most significant byte first. -/
def beNat (bs : List Byte) : Nat := bs.foldl (fun acc b => acc * 256 + b.toNat) 0

/-- A field of `n` bytes at the head of `bs`, and the bytes behind it. -/
def readBe (n : Nat) (bs : List Byte) : Nat × List Byte := (beNat (bs.take n), bs.drop n)

def readLoc (bs : List Byte) : LocFields × List Byte :=
  let (aisle, bs) := readBe 1 bs
  let (side, bs) := readBe 1 bs
  let (column, bs) := readBe 1 bs
  let (level, bs) := readBe 1 bs
  let (depth, bs) := readBe 1 bs
  ({ aisle, side, column, level, depth }, bs)

def readCol (bs : List Byte) : ColFields × List Byte :=
  let (aisle, bs) := readBe 1 bs
  let (side, bs) := readBe 1 bs
  let (column, bs) := readBe 1 bs
  let (depth, bs) := readBe 1 bs
  ({ aisle, side, column, depth }, bs)

def readFilter (bs : List Byte) : FilterFields × List Byte :=
  let (code, bs) := readBe 2 bs
  let (mask, bs) := readBe 2 bs
  ({ code, mask }, bs)

def readReach (bs : List Byte) : ReachFields × List Byte :=
  let (filterA, bs) := readFilter bs
  let (filterB, bs) := readFilter bs
  let (bEnable, bs) := readBe 1 bs
  ({ filterA, filterB, bEnable }, bs)

def readFigures (bs : List Byte) : FigureFields × List Byte :=
  let (nvx, bs) := readBe 2 bs
  let (nax, bs) := readBe 2 bs
  let (nvy, bs) := readBe 2 bs
  let (nay, bs) := readBe 2 bs
  let (evx, bs) := readBe 2 bs
  let (eax, bs) := readBe 2 bs
  let (evy, bs) := readBe 2 bs
  let (eay, bs) := readBe 2 bs
  let (ts, bs) := readBe 2 bs
  let (tf, bs) := readBe 2 bs
  let (tp, bs) := readBe 2 bs
  let (td, bs) := readBe 2 bs
  ({ nvx, nax, nvy, nay, evx, eax, evy, eay, ts, tf, tp, td }, bs)

def readAisle (bs : List Byte) : AisleFields :=
  let (aisle, bs) := readBe 1 bs
  let (columns, bs) := readBe 1 bs
  let (levels, bs) := readBe 1 bs
  let (depth, bs) := readBe 1 bs
  let (x1, bs) := readBe 4 bs
  let (px, bs) := readBe 2 bs
  let (y1, bs) := readBe 2 bs
  let (py, bs) := readBe 2 bs
  let (twin, _) := readBe 1 bs
  { aisle, columns, levels, depth, x1, px, y1, py, twin }

def readCrane (bs : List Byte) : CraneFields :=
  let (crane, bs) := readBe 1 bs
  let (aisle, bs) := readBe 1 bs
  let (role, bs) := readBe 1 bs
  let (endX, bs) := readBe 4 bs
  let (endY, bs) := readBe 2 bs
  let (gap, bs) := readBe 2 bs
  let (reach, bs) := readReach bs
  let (figures, _) := readFigures bs
  { crane, aisle, role, endX, endY, gap, reach, figures }

def readStation (bs : List Byte) : StationFields :=
  let (station, bs) := readBe 1 bs
  let (aisle, bs) := readBe 1 bs
  let (railEnd, bs) := readBe 1 bs
  let (kind, bs) := readBe 1 bs
  let (x, bs) := readBe 4 bs
  let (y, bs) := readBe 2 bs
  let (capacity, _) := readBe 1 bs
  { station, aisle, railEnd, kind, x, y, capacity }

def readPolicy (bs : List Byte) : PolicyFields :=
  let (offset0, bs) := readBe 4 bs
  let (offset1, bs) := readBe 4 bs
  let (offset2, bs) := readBe 4 bs
  let (offset3, bs) := readBe 4 bs
  let (aging, bs) := readBe 1 bs
  let (pairing, bs) := readBe 1 bs
  let (minSaving, bs) := readBe 2 bs
  let (window, bs) := readBe 1 bs
  let (holdTime, bs) := readBe 2 bs
  let (marginTens, bs) := readBe 2 bs
  let (parkHold, _) := readBe 2 bs
  { offset0, offset1, offset2, offset3, aging, pairing, minSaving, window, holdTime, marginTens, parkHold }

/-- The level entries of a LOAD_MAP, `n` of them, six bytes each. -/
def readLevels : Nat → List Byte → List LevelFields
  | 0, _ => []
  | n + 1, bs =>
    let (occupancy, bs) := readBe 1 bs
    let (pallet, bs) := readBe 4 bs
    let (height, bs) := readBe 1 bs
    { occupancy, pallet, height } :: readLevels n bs

def readStore (bs : List Byte) : StoreFields :=
  let (job, bs) := readBe 4 bs
  let (cls, bs) := readBe 1 bs
  let (pallet, bs) := readBe 4 bs
  let (height, bs) := readBe 1 bs
  let (station, bs) := readBe 1 bs
  let (form, bs) := readBe 1 bs
  let (target, bs) := readLoc bs
  let (zone, bs) := readFilter bs
  let (originator, _) := readBe 1 bs
  { job, cls, pallet, height, station, form, target, zone, originator }

def readRetrieve (bs : List Byte) : RetrieveFields :=
  let (job, bs) := readBe 4 bs
  let (cls, bs) := readBe 1 bs
  let (form, bs) := readBe 1 bs
  let (pallet, bs) := readBe 4 bs
  let (location, bs) := readLoc bs
  let (station, bs) := readBe 1 bs
  let (group, bs) := readBe 2 bs
  let (position, bs) := readBe 1 bs
  let (delay, bs) := readBe 2 bs
  let (originator, _) := readBe 1 bs
  { job, cls, form, pallet, location, station, group, position, delay, originator }

def readRecover (bs : List Byte) : RecoverFields :=
  let (crane, bs) := readBe 1 bs
  let (form, bs) := readBe 1 bs
  let (location, bs) := readLoc bs
  let (station, _) := readBe 1 bs
  { crane, form, location, station }

def readSetLoc (bs : List Byte) : SetLocFields :=
  let (location, bs) := readLoc bs
  let (occupancy, bs) := readBe 1 bs
  let (pallet, bs) := readBe 4 bs
  let (height, _) := readBe 1 bs
  { location, occupancy, pallet, height }

def readSetAttr (tag : Nat) (bs : List Byte) : Instr :=
  let (originator, bs) := readBe 1 bs
  let (location, bs) := readLoc bs
  let (attrs, _) := readBe 1 bs
  .setAttr tag originator location attrs

def readMark (tag : Nat) (bs : List Byte) : Instr :=
  let (originator, bs) := readBe 1 bs
  let (column, bs) := readCol bs
  let (levels, _) := readBe 4 bs
  .mark tag originator column levels

def readSetMode (tag : Nat) (bs : List Byte) : Instr :=
  let (run, bs) := readBe 1 bs
  let (speed, bs) := readBe 1 bs
  let (active, _) := readBe 1 bs
  .setMode tag run speed active

def readOriginator (tag : Nat) (bs : List Byte) : Instr :=
  let (originator, bs) := readBe 1 bs
  let (aisle, bs) := readBe 1 bs
  let (mask, bs) := readBe 1 bs
  let (preset, _) := readBe 1 bs
  .setOriginator tag originator aisle mask preset

def readLoadMap (tag : Nat) (bs : List Byte) : Instr :=
  let (column, rest) := readCol bs
  .loadMap tag column (readLevels ((bs.length - 4) / 6) rest)

/-- What the link unit makes of a waiting request's body (R176, R185). -/
inductive Decoded where
  /-- A request of a row of the table, every field read. -/
  | command (i : Instr)
  /-- A known code with a body length it does not allow (R176, R185). -/
  | badLength (code : Nat) (tag : Nat)
  /-- A CRANE_CTL with an action other than the four, or with a length that does not fit its action (R116, R185). -/
  | badAction (tag : Nat)
  deriving DecidableEq, Repr

/-- A body of exactly the length its code requires, or BAD_FIELD (R185). `n` counts the bytes behind the tag. -/
def exactly (n : Nat) (code tag : Nat) (bs : List Byte) (i : Instr) : Decoded :=
  if bs.length = n then .command i else .badLength code tag

/-- CRANE_CTL's actions and their lengths (R185, R189). -/
def decodeCraneCtl (tag : Nat) (bs : List Byte) : Decoded :=
  if bs.length = 2 ∨ bs.length = 11 ∨ bs.length = 26 then
    let (crane, bs) := readBe 1 bs
    let (action, bs) := readBe 1 bs
    if action = 1 ∧ bs.length = 0 then .command (.craneCtlResume tag crane)
    else if action = 2 ∧ bs.length = 0 then .command (.craneCtlPark tag crane)
    else if action = 3 ∧ bs.length = 24 then .command (.craneCtlProfile tag crane (readFigures bs).1)
    else if action = 4 ∧ bs.length = 9 then .command (.craneCtlReach tag crane (readReach bs).1)
    else .badAction tag
  else .badLength 0x39 tag

/-- The fields behind code and tag, by the table of R185. -/
def decodeFields (code tag : Nat) (bs : List Byte) : Decoded :=
  if code = 0x01 then exactly 0 code tag bs (.identify tag)
  else if code = 0x02 then exactly 1 code tag bs (.status tag (readBe 1 bs).1)
  else if code = 0x03 then exactly 4 code tag bs (.queryJob tag (readBe 4 bs).1)
  else if code = 0x04 then exactly 5 code tag bs (.queryLoc tag (readLoc bs).1)
  else if code = 0x05 then exactly 1 code tag bs (.queryCrane tag (readBe 1 bs).1)
  else if code = 0x06 then exactly 2 code tag bs (.queryGroup tag (readBe 2 bs).1)
  else if code = 0x07 then exactly 0 code tag bs (.queryPolicy tag)
  else if code = 0x10 then exactly 15 code tag bs (.setAisle tag (readAisle bs))
  else if code = 0x11 then exactly 44 code tag bs (.setCrane tag (readCrane bs))
  else if code = 0x12 then exactly 11 code tag bs (.setStation tag (readStation bs))
  else if code = 0x13 then exactly 27 code tag bs (.setPolicy tag (readPolicy bs))
  else if code = 0x14 then exactly 4 code tag bs (readOriginator tag bs)
  else if code = 0x15 then
    if 4 ≤ bs.length ∧ bs.length ≤ 196 ∧ (bs.length - 4) % 6 = 0 then .command (readLoadMap tag bs) else .badLength code tag
  else if code = 0x16 then exactly 0 code tag bs (.start tag)
  else if code = 0x20 then exactly 22 code tag bs (.store tag (readStore bs))
  else if code = 0x21 then exactly 22 code tag bs (.retrieve tag (readRetrieve bs))
  else if code = 0x22 then exactly 4 code tag bs (.cancel tag (readBe 4 bs).1)
  else if code = 0x23 then exactly 8 code tag bs (.recover tag (readRecover bs))
  else if code = 0x28 then exactly 3 code tag bs (.groupOpen tag (readBe 2 bs).1 (readBe 1 (readBe 2 bs).2).1)
  else if code = 0x29 then exactly 2 code tag bs (.groupClose tag (readBe 2 bs).1)
  else if code = 0x2A then exactly 3 code tag bs (.groupSkip tag (readBe 2 bs).1 (readBe 1 (readBe 2 bs).2).1)
  else if code = 0x2B then exactly 2 code tag bs (.stationClear tag (readBe 1 bs).1 (readBe 1 (readBe 1 bs).2).1)
  else if code = 0x30 then exactly 11 code tag bs (.setLoc tag (readSetLoc bs))
  else if code = 0x31 then exactly 7 code tag bs (readSetAttr tag bs)
  else if code = 0x32 then exactly 9 code tag bs (readMark tag bs)
  else if code = 0x38 then exactly 3 code tag bs (readSetMode tag bs)
  else if code = 0x39 then decodeCraneCtl tag bs
  else if code = 0x3F then exactly 0 code tag bs (.restart tag)
  else .command (.unknownCode tag code bs)

/-- A waiting request's body: code, tag, fields (R173, R185). -/
def decodeRequest (body : List Byte) : Decoded :=
  let (code, bs) := readBe 1 body
  let (tag, bs) := readBe 2 bs
  decodeFields code tag bs

def LocFields.bytes (l : LocFields) : List Byte :=
  beBytes 1 l.aisle ++ (beBytes 1 l.side ++ (beBytes 1 l.column ++ (beBytes 1 l.level ++ beBytes 1 l.depth)))

def ColFields.bytes (l : ColFields) : List Byte :=
  beBytes 1 l.aisle ++ (beBytes 1 l.side ++ (beBytes 1 l.column ++ beBytes 1 l.depth))

def FilterFields.bytes (f : FilterFields) : List Byte := beBytes 2 f.code ++ beBytes 2 f.mask

def ReachFields.bytes (r : ReachFields) : List Byte := r.filterA.bytes ++ (r.filterB.bytes ++ beBytes 1 r.bEnable)

def FigureFields.bytes (f : FigureFields) : List Byte :=
  beBytes 2 f.nvx ++ (beBytes 2 f.nax ++ (beBytes 2 f.nvy ++ (beBytes 2 f.nay ++ (beBytes 2 f.evx ++ (beBytes 2 f.eax ++
    (beBytes 2 f.evy ++ (beBytes 2 f.eay ++ (beBytes 2 f.ts ++ (beBytes 2 f.tf ++ (beBytes 2 f.tp ++ beBytes 2 f.td))))))))))

def AisleFields.bytes (q : AisleFields) : List Byte :=
  beBytes 1 q.aisle ++ (beBytes 1 q.columns ++ (beBytes 1 q.levels ++ (beBytes 1 q.depth ++ (beBytes 4 q.x1 ++
    (beBytes 2 q.px ++ (beBytes 2 q.y1 ++ (beBytes 2 q.py ++ beBytes 1 q.twin)))))))

def CraneFields.bytes (q : CraneFields) : List Byte :=
  beBytes 1 q.crane ++ (beBytes 1 q.aisle ++ (beBytes 1 q.role ++ (beBytes 4 q.endX ++ (beBytes 2 q.endY ++
    (beBytes 2 q.gap ++ (q.reach.bytes ++ q.figures.bytes))))))

def StationFields.bytes (q : StationFields) : List Byte :=
  beBytes 1 q.station ++ (beBytes 1 q.aisle ++ (beBytes 1 q.railEnd ++ (beBytes 1 q.kind ++ (beBytes 4 q.x ++
    (beBytes 2 q.y ++ beBytes 1 q.capacity)))))

def PolicyFields.bytes (q : PolicyFields) : List Byte :=
  beBytes 4 q.offset0 ++ (beBytes 4 q.offset1 ++ (beBytes 4 q.offset2 ++ (beBytes 4 q.offset3 ++ (beBytes 1 q.aging ++
    (beBytes 1 q.pairing ++ (beBytes 2 q.minSaving ++ (beBytes 1 q.window ++ (beBytes 2 q.holdTime ++
      (beBytes 2 q.marginTens ++ beBytes 2 q.parkHold)))))))))

/-- The level entries of a LOAD_MAP one behind the other. -/
def levelBytes : List LevelFields → List Byte
  | [] => []
  | e :: es => beBytes 1 e.occupancy ++ (beBytes 4 e.pallet ++ (beBytes 1 e.height ++ levelBytes es))

def StoreFields.bytes (q : StoreFields) : List Byte :=
  beBytes 4 q.job ++ (beBytes 1 q.cls ++ (beBytes 4 q.pallet ++ (beBytes 1 q.height ++ (beBytes 1 q.station ++
    (beBytes 1 q.form ++ (q.target.bytes ++ (q.zone.bytes ++ beBytes 1 q.originator)))))))

def RetrieveFields.bytes (q : RetrieveFields) : List Byte :=
  beBytes 4 q.job ++ (beBytes 1 q.cls ++ (beBytes 1 q.form ++ (beBytes 4 q.pallet ++ (q.location.bytes ++
    (beBytes 1 q.station ++ (beBytes 2 q.group ++ (beBytes 1 q.position ++ (beBytes 2 q.delay ++ beBytes 1 q.originator))))))))

def RecoverFields.bytes (q : RecoverFields) : List Byte :=
  beBytes 1 q.crane ++ (beBytes 1 q.form ++ (q.location.bytes ++ beBytes 1 q.station))

def SetLocFields.bytes (q : SetLocFields) : List Byte :=
  q.location.bytes ++ (beBytes 1 q.occupancy ++ (beBytes 4 q.pallet ++ beBytes 1 q.height))

/-- A request's code, tag and fields (R185). A command that is no request has none. -/
def requestParts : Instr → Option (Nat × Nat × List Byte)
  | .unknownCode tag code fields => some (code, tag, fields)
  | .identify tag => some (0x01, tag, [])
  | .status tag clear => some (0x02, tag, beBytes 1 clear)
  | .queryJob tag job => some (0x03, tag, beBytes 4 job)
  | .queryLoc tag location => some (0x04, tag, location.bytes)
  | .queryCrane tag crane => some (0x05, tag, beBytes 1 crane)
  | .queryGroup tag group => some (0x06, tag, beBytes 2 group)
  | .queryPolicy tag => some (0x07, tag, [])
  | .setAisle tag q => some (0x10, tag, q.bytes)
  | .setCrane tag q => some (0x11, tag, q.bytes)
  | .setStation tag q => some (0x12, tag, q.bytes)
  | .setPolicy tag q => some (0x13, tag, q.bytes)
  | .setOriginator tag originator aisle mask preset =>
    some (0x14, tag, beBytes 1 originator ++ (beBytes 1 aisle ++ (beBytes 1 mask ++ beBytes 1 preset)))
  | .loadMap tag column entries => some (0x15, tag, column.bytes ++ levelBytes entries)
  | .start tag => some (0x16, tag, [])
  | .store tag q => some (0x20, tag, q.bytes)
  | .retrieve tag q => some (0x21, tag, q.bytes)
  | .cancel tag job => some (0x22, tag, beBytes 4 job)
  | .recover tag q => some (0x23, tag, q.bytes)
  | .groupOpen tag group first => some (0x28, tag, beBytes 2 group ++ beBytes 1 first)
  | .groupClose tag group => some (0x29, tag, beBytes 2 group)
  | .groupSkip tag group position => some (0x2A, tag, beBytes 2 group ++ beBytes 1 position)
  | .stationClear tag station count => some (0x2B, tag, beBytes 1 station ++ beBytes 1 count)
  | .setLoc tag q => some (0x30, tag, q.bytes)
  | .setAttr tag originator location attrs =>
    some (0x31, tag, beBytes 1 originator ++ (location.bytes ++ beBytes 1 attrs))
  | .mark tag originator column levels => some (0x32, tag, beBytes 1 originator ++ (column.bytes ++ beBytes 4 levels))
  | .setMode tag run speed active => some (0x38, tag, beBytes 1 run ++ (beBytes 1 speed ++ beBytes 1 active))
  | .craneCtlResume tag crane => some (0x39, tag, beBytes 1 crane ++ beBytes 1 1)
  | .craneCtlPark tag crane => some (0x39, tag, beBytes 1 crane ++ beBytes 1 2)
  | .craneCtlProfile tag crane figures => some (0x39, tag, beBytes 1 crane ++ (beBytes 1 3 ++ figures.bytes))
  | .craneCtlReach tag crane reach => some (0x39, tag, beBytes 1 crane ++ (beBytes 1 4 ++ reach.bytes))
  | .restart tag => some (0x3F, tag, [])
  | .powerOn | .hostFrame _ | .frameGapTimeout _ _ | .hostReadyChange _ | .telegramSent => none
  | .stopInputChange _ | .resumeCheckExpiry | .taken _ _ | .done _ _ _ _ _ | .failed _ _ _ _ _ _ => none
  | .state _ _ _ _ _ _ | .craneBadFrame _ | .craneTelegramDiscarded _ | .takenTimerExpiry _ => none
  | .legTimerExpiry _ | .silenceTimeout _ | .parkingHoldExpiry _ | .earliestStartExpiry _ | .holdExpiry _ => none
  | .stopInputSettled _ | .bodyLengthOutOfRange _ _ => none

/-- A request's body (R173): code, tag, fields. -/
def encodeRequest (i : Instr) : List Byte :=
  match requestParts i with
  | some (code, tag, fields) => beBytes 1 code ++ (beBytes 2 tag ++ fields)
  | none => []

/-- The sum of the body bytes modulo 65,536 (R173). -/
def checkSum (body : List Byte) : Nat := (body.foldl (fun acc b => acc + b.toNat) 0) % 65536

/-- A whole frame: marker, body length, body, check (R173). -/
def frameBytes (body : List Byte) : List Byte :=
  beBytes 1 0xC3 ++ (beBytes 2 body.length ++ (body ++ beBytes 2 (checkSum body)))

/-- A crane telegram's body read on port `crane` (R188): the four codes a crane sends, each with its one length.
Any other code or length is discarded, and so is a STATE with a mode other than 0 or 1 or with a flag bit 1..7 set. -/
def decodeCrane (crane : Nat) (body : List Byte) : Option Instr :=
  let (code, bs) := readBe 1 body
  let (a, bs) := readBe 1 bs
  if code = 0x41 ∧ body.length = 2 then some (.taken crane a)
  else if code = 0x42 ∧ body.length = 12 then
    let (x, bs) := readBe 4 bs
    let (y, bs) := readBe 2 bs
    some (.done crane a x y (readBe 4 bs).1)
  else
    let (b, bs) := readBe 1 bs
    let (x, bs) := readBe 4 bs
    let (y, bs) := readBe 2 bs
    let load := (readBe 4 bs).1
    if code = 0x43 ∧ body.length = 13 then some (.failed crane a b x y load)
    else if code = 0x44 ∧ body.length = 13 ∧ a ≤ 1 ∧ b ≤ 1 then some (.state crane a b x y load)
    else none

end Sys2Proof
end

