-- ==== Sys2Proof/Machine/State.lean ====
section
/-! DEFINITION. The state of the JD12 as plain data, its value after power-on, and the reasons a step can stop. -/

namespace Sys2Proof.Machine

/-- A table: entries with strictly rising keys. -/
abbrev Assoc (α : Type) := List (Nat × α)

/-- The side of an aisle a location stands on (R3). -/
inductive Side where
  | left
  | right
  deriving DecidableEq, Repr

/-- The depth of a location (R3). -/
inductive Depth where
  | front
  | rear
  deriving DecidableEq, Repr

/-- What a location holds or is reserved for (R6, R7). -/
inductive Occupancy where
  | empty
  | full
  | inbound
  | outbound
  | unknown
  deriving DecidableEq, Repr

/-- The marks the host sets on a location (R6). -/
structure Attrs where
  noStore : Bool
  noRetrieve : Bool
  inspect : Bool
  noRelocate : Bool
  deriving DecidableEq, Repr

def Attrs.none : Attrs := { noStore := false, noRetrieve := false, inspect := false, noRelocate := false }
def Attrs.all : Attrs := { noStore := true, noRetrieve := true, inspect := true, noRelocate := true }

/-- A location address that has passed R3. -/
structure Loc where
  aisle : Nat
  side : Side
  column : Nat
  level : Nat
  depth : Depth
  deriving DecidableEq, Repr

/-- A location record (R6). -/
structure LocRec where
  occ : Occupancy
  pallet : Option Nat
  height : Nat
  attrs : Attrs
  deriving DecidableEq, Repr

/-- What a location not listed reads as: the record SET_AISLE creates (R1). -/
def LocRec.created : LocRec := { occ := .unknown, pallet := none, height := 0, attrs := .none }

/-- A point of the rail face: rail position and lift height in mm (R2). -/
structure Point where
  x : Nat
  y : Nat
  deriving DecidableEq, Repr

/-- An aisle's geometry (R1). -/
structure Aisle where
  columns : Nat
  levels : Nat
  double : Bool
  x1 : Nat
  px : Nat
  y1 : Nat
  py : Nat
  twin : Bool
  deriving DecidableEq, Repr

/-- An entry of the originator table (R16). -/
structure OrigEntry where
  mask : Attrs
  preset : Attrs
  deriving DecidableEq, Repr

/-- An entry after power-on: all attributes open, an empty preset (R16). -/
def OrigEntry.reset : OrigEntry := { mask := .all, preset := .none }

/-- A reach filter or zone filter (R5). -/
structure Filter where
  code : Nat
  mask : Nat
  deriving DecidableEq, Repr

/-- A crane's reach filters (R97, R119). -/
structure Reach where
  a : Filter
  b : Filter
  bOn : Bool
  deriving DecidableEq, Repr

/-- One profile of a crane: top speed and acceleration of each axis (R50). -/
structure Profile where
  vx : Nat
  ax : Nat
  vy : Nat
  ay : Nat
  deriving DecidableEq, Repr

/-- A complete set of motion figures (R50). -/
structure Figures where
  normal : Profile
  economy : Profile
  ts : Nat
  tf : Nat
  tp : Nat
  td : Nat
  deriving DecidableEq, Repr

/-- The speed class of a crane or of mode control (R51, R57). -/
inductive SpeedClass where
  | normal
  | economy
  deriving DecidableEq, Repr

/-- The kinds of job (R24). -/
inductive JobKind where
  | store
  | retrieve
  | relocate
  | recover
  deriving DecidableEq, Repr

/-- Why a job waits (R29). -/
inductive WaitReason where
  | notYet
  | queued
  | pairBusy
  | relocating
  | frontFixed
  | blockedOut
  deriving DecidableEq, Repr

/-- The kinds of leg (R86, R93). -/
inductive LegKind where
  | fetch
  | put
  | move
  deriving DecidableEq, Repr

/-- The state of a job (R28). An UNCERTAIN job keeps the kind of the leg that was outstanding (R111). -/
inductive JobState where
  | waiting (reason : WaitReason)
  | ready
  | assigned
  | active
  | carried
  | uncertain (leg : LegKind)
  deriving DecidableEq, Repr

/-- When a reservation was taken (R23). -/
inductive Origin where
  | admission
  | assignment
  deriving DecidableEq, Repr

/-- What a destination reservation is: an INBOUND location or a pending delivery (R23). -/
inductive DstKind where
  | location
  | delivery
  deriving DecidableEq, Repr

/-- A destination reservation (R23). -/
structure DstRes where
  kind : DstKind
  origin : Origin
  deriving DecidableEq, Repr

/-- A job record (R23). `station` is 0 where the record has none. -/
structure Job where
  num : Nat
  kind : JobKind
  originator : Nat
  cls : Nat
  adm : Nat
  pallet : Nat
  height : Nat
  station : Nat
  stationNamed : Bool
  source : Option Loc
  dest : Option Loc
  zone : Option Filter
  group : Nat
  position : Nat
  delay : Option Nat
  linked : Nat
  state : JobState
  bypass : Nat
  crane : Nat
  srcRes : Option Origin
  dstRes : Option DstRes
  inspect : Bool
  holdReleased : Bool
  deriving DecidableEq, Repr

/-- What a leg goes to (R86, R93). -/
inductive Target where
  | location (l : Loc)
  | station (n : Nat)
  | endPos
  deriving DecidableEq, Repr

/-- A leg of a cycle plan or a park leg (R86). `start` is the planned start point (R56, R101). -/
structure Leg where
  kind : LegKind
  target : Target
  job : Option Nat
  pallet : Option Nat
  approach : Bool
  start : Point
  est : Nat
  deriving DecidableEq, Repr

/-- The kinds of cycle (R86). -/
inductive CycleKind where
  | single
  | dual
  | relocation
  | recovery
  | evasion
  | park
  deriving DecidableEq, Repr

/-- The channel states (R96, R98). -/
inductive ChanState where
  | offline
  | listen
  | ready
  | busy
  | parking
  | parked
  | fault
  | manual
  deriving DecidableEq, Repr

/-- The fault reasons (R96, R189). -/
inductive FaultReason where
  | link
  | silent
  | noAnswer
  | timeout
  | drive
  | doubleLoad
  deriving DecidableEq, Repr

/-- The reasons of CRANE_STATE (R99, R189). -/
inductive ChanReason where
  | fault (r : FaultReason)
  | heard
  | powerUp
  | auto
  | stop
  | resume
  | cycleEnd
  | resumeCheck
  | assigned
  | evasion
  | park
  | asleep
  | wake
  | manual
  deriving DecidableEq, Repr

/-- The role of a crane in its aisle (R97, R123). -/
inductive Role where
  | single
  | a
  | b
  deriving DecidableEq, Repr

/-- A crane's configuration (R97). -/
structure CraneCfg where
  aisle : Nat
  role : Role
  endPos : Point
  gap : Nat
  deriving DecidableEq, Repr

/-- A load of record with its resolved mark (R96). -/
structure Load where
  id : Nat
  resolved : Bool
  deriving DecidableEq, Repr

/-- A stretch of rail, lo and hi included (R125). -/
structure Span where
  lo : Nat
  hi : Nat
  deriving DecidableEq, Repr

/-- A receiver of bytes (R174). `marker` has taken the marker, `length` the first length byte, and `body` gathers
the bytes behind the length: `need` more, those `got` so far newest first, or a discarded frame's when not `stored`. -/
inductive Rx where
  | searching
  | marker
  | length (high : Byte)
  | body (need : Nat) (got : List Byte) (stored : Bool)
  deriving DecidableEq, Repr

/-- A crane record (R96), with the channel's timers, the rail arbiter's part (R125) and the port's receiver (R173). -/
structure Crane where
  cfg : Option CraneCfg
  chan : ChanState
  lastFault : Option FaultReason
  powerReturn : Bool
  stopHalted : Bool
  pendingPark : Bool
  pos : Option Point
  load : Option Load
  speed : SpeedClass
  pendSpeed : Option SpeedClass
  figures : Option Figures
  pendFigures : Option Figures
  reach : Option Reach
  pendReach : Option Reach
  plan : List Leg
  cycle : Option CycleKind
  estimate : Nat
  parkLeg : Option Leg
  lastLeg : Nat
  curLeg : Nat
  legEst : Nat
  takenTimer : Option Nat
  legTimer : Option Nat
  parkHold : Option Nat
  silence : Nat
  bad : Nat
  roomWait : Bool
  claim : Option Span
  request : Option Span
  rx : Rx
  deriving DecidableEq, Repr

/-- A crane record after power-on (R96, R125). -/
def Crane.reset : Crane where
  cfg := none
  chan := .offline
  lastFault := none
  powerReturn := false
  stopHalted := false
  pendingPark := false
  pos := none
  load := none
  speed := .normal
  pendSpeed := none
  figures := none
  pendFigures := none
  reach := none
  pendReach := none
  plan := []
  cycle := none
  estimate := 0
  parkLeg := none
  lastLeg := 0
  curLeg := 0
  legEst := 0
  takenTimer := none
  legTimer := none
  parkHold := none
  silence := 0
  bad := 0
  roomWait := false
  claim := none
  request := none
  rx := .searching

/-- The end of the rail a station stands at (R138). -/
inductive RailEnd where
  | front
  | rear
  deriving DecidableEq, Repr

/-- Whether cranes fetch or put at a station (R138). -/
inductive StationKind where
  | infeed
  | outfeed
  deriving DecidableEq, Repr

/-- A station record (R138, R139), with the infeed queue of an INFEED (R32), job numbers head first. -/
structure Station where
  aisle : Nat
  railEnd : RailEnd
  kind : StationKind
  point : Point
  capacity : Nat
  occ : Nat
  pend : Nat
  queue : List Nat
  deriving DecidableEq, Repr

/-- The status of a group (R141). -/
inductive GroupStatus where
  | opened
  | closing
  deriving DecidableEq, Repr

/-- A group entry (R141). `held` is the position map: positions with their job numbers, in position order. -/
structure Group where
  status : GroupStatus
  d : Nat
  held : List (Nat × Nat)
  settled : List Nat
  deriving DecidableEq, Repr

/-- A hold list entry (R149); the crane is its key. -/
structure Hold where
  job : Nat
  group : Nat
  position : Nat
  outfeed : Nat
  timer : Nat
  deriving DecidableEq, Repr

/-- The run states (R157). -/
inductive RunState where
  | config
  | run
  | hold
  | safe
  deriving DecidableEq, Repr

/-- What the resume check has seen of one stop-halted channel (R165). -/
structure Marks where
  auto : Bool
  powerUp : Bool
  manual : Bool
  deriving DecidableEq, Repr

/-- A running resume check (R165). -/
structure Check where
  remaining : Nat
  records : Assoc Marks
  deriving DecidableEq, Repr

/-- Mode control (R156). `settled` says that the stop input has settled after power-on (R172). -/
structure Mode where
  run : RunState
  speed : SpeedClass
  active : List Nat
  stop : Bool
  settled : Bool
  check : Option Check
  snapshot : Option (Assoc (Option Load))
  deriving DecidableEq, Repr

/-- The pairing policies (R83). -/
inductive Pairing where
  | off
  | storeLeads
  | both
  deriving DecidableEq, Repr

/-- The policy in force (R169): offsets, minimum saving and margin in ms, hold times in s. -/
structure Policy where
  offset0 : Nat
  offset1 : Nat
  offset2 : Nat
  offset3 : Nat
  aging : Nat
  pairing : Pairing
  minSaving : Nat
  window : Nat
  holdTime : Nat
  margin : Nat
  parkHold : Nat
  deriving DecidableEq, Repr

/-- The policy after power-on (R169). -/
def Policy.reset : Policy where
  offset0 := 0
  offset1 := 30000
  offset2 := 120000
  offset3 := 600000
  aging := 8
  pairing := .storeLeads
  minSaving := 2000
  window := 3
  holdTime := 120
  margin := 30000
  parkHold := 60

/-- Result codes of a reply (R189). -/
inductive Result where
  | ok
  | unknownCode
  | badField
  | wrongMode
  | poolFull
  | duplicateJob
  | duplicatePallet
  | unknownPallet
  | unknownJob
  | locationUnavailable
  | locationReserved
  | noReach
  | infeedFull
  | noGroup
  | groupTableFull
  | stalePosition
  | duplicatePosition
  | groupClosing
  | inProgress
  | jobUncertain
  | notOwner
  | noLoad
  | collision
  | craneSilent
  | configError
  | stopActive
  | notConfigured
  deriving DecidableEq, Repr

/-- Why a job failed (R189). -/
inductive FailReason where
  | binEmpty
  | loadMismatch
  | noLocation
  | interrupted
  | conflict
  deriving DecidableEq, Repr

/-- The findings of LOCATION_CONFLICT (R189). -/
inductive Finding where
  | binEmpty
  | binOccupied
  | loadMismatch
  | foreignLoad
  deriving DecidableEq, Repr

/-- The causes of MODE_CHANGED (R161). -/
inductive ModeCause where
  | start
  | setMode
  | stop
  | resumeCheck
  deriving DecidableEq, Repr

/-- The results of the resume check (R166). -/
inductive CheckResult where
  | ready
  | loadChanged
  | silent
  | manual
  | powerUp
  | fault
  deriving DecidableEq, Repr

/-- The reports (R187), each with the items its body carries. -/
inductive Report where
  | jobCreated (job : Nat) (kind : JobKind) (pallet linked crane : Nat) (source dest : Option Loc) (station : Nat)
  | jobAssigned (job crane partner : Nat) (dest : Option Loc) (outfeed score saving estimate : Nat)
  | jobDone (job : Nat) (kind : JobKind) (pallet crane : Nat) (outOfSequence lateConfirm inspect : Bool)
  | jobFailed (job : Nat) (kind : JobKind) (pallet crane : Nat) (reason : FailReason)
  | craneState (crane : Nat) (chan : ChanState) (reason : ChanReason) (pos : Option Point)
  | locationConflict (crane : Nat) (location : Loc) (pallet : Nat) (finding : Finding)
  | loadUnresolved (crane pallet : Nat) (pos : Option Point)
  | sequenceHold (crane job group position outfeed d : Nat)
  | modeChanged (cause : ModeCause) (runState : RunState) (speed : SpeedClass) (active : List Nat) (stop : Bool)
  | resumeCheck (entries : List (Nat × CheckResult))
  | reportsLost (count : Nat)
  deriving DecidableEq, Repr

/-- A telegram of the output queue: a reply (R177, R186) or a report (R187). `code` is the reply's own code. -/
inductive Telegram where
  | reply (code tag : Nat) (result : Result) (overrun loss : Bool) (data : List Byte)
  | report (r : Report)
  deriving DecidableEq, Repr

/-- The host link unit (R171, R174, R175, R178). `begun` says that the head telegram's sending has begun. -/
structure Link where
  hostReady : Bool
  begun : Bool
  rx : Rx
  ring : List (List Byte)
  overrun : Bool
  errors : Nat
  lost : Nat
  out : List Telegram
  deriving DecidableEq, Repr

/-- The link unit after power-on (R180), but for the level of the host-ready line (entry 1). -/
def Link.reset : Link where
  hostReady := true
  begun := false
  rx := .searching
  ring := []
  overrun := false
  errors := 0
  lost := 0
  out := []

/-- A running dispatch pass (R70, R71): the cranes of the ready order it has still to visit, head first, and the cranes
it has assigned plans to, in the order of assignment, whose first legs go out when it ends (R91). -/
structure Pass where
  toVisit : List Nat
  assigned : List Nat
  deriving DecidableEq, Repr

/-- What an event has still to re-examine (R38; entry 6): pairs by key, and every PAIR_BUSY retrieve. -/
structure Work where
  pairs : List Nat
  allBusy : Bool
  deriving DecidableEq, Repr

/-- The controller. -/
structure State where
  aisles : Assoc Aisle
  locs : Assoc LocRec
  originators : Assoc OrigEntry
  pool : List Job
  admNext : Nat
  intNext : Nat
  stations : Assoc Station
  groups : Assoc Group
  holds : Assoc Hold
  cranes : Vector Crane 12
  readyOrder : List Nat
  passDue : Bool
  passRun : Option Pass
  mode : Mode
  policy : Policy
  link : Link
  portOut : List (Nat × List Byte)
  hostOut : List (List Byte)
  work : Work
  pending : List Instr
  deriving DecidableEq, Repr

/-- Mode control after power-on (R156, R168, R172). -/
def Mode.reset : Mode where
  run := .config
  speed := .normal
  active := []
  stop := true
  settled := false
  check := none
  snapshot := none

/-- The machine right after power-on (R22, R49, R67, R96, R125, R155, R156, R168, R169, R180). -/
def State.reset : State where
  aisles := []
  locs := []
  originators := []
  pool := []
  admNext := 1
  intNext := 2147483648
  stations := []
  groups := []
  holds := []
  cranes := Vector.replicate 12 Crane.reset
  readyOrder := []
  passDue := false
  passRun := none
  mode := Mode.reset
  policy := Policy.reset
  link := Link.reset
  portOut := []
  hostOut := []
  work := { pairs := [], allBusy := false }
  pending := []

/-- The reasons a step can stop with a fault: the manual stops the controller on nothing, so there is none. -/
inductive Fault where
  deriving DecidableEq, Repr

/-- The reasons a step can refuse a command. -/
inductive Refusal where
  /-- Raised by `exec` for a command whose meaning has not been written yet; safe: nothing is claimed of it. -/
  | notModelled (mnemonic : String)
  deriving DecidableEq, Repr

end Sys2Proof.Machine
end

