-- ==== Sys2Proof/Machine/Ops.lean ====
section
/-! DEFINITION. The named operations over the state's tables, the rack map, the job pool, the crane records and the
output queue. -/

namespace Sys2Proof.Machine

/-- The entry of a table under `k`. -/
def tableGet {α : Type} (k : Nat) : Assoc α → Option α
  | [] => none
  | (j, v) :: t => if j = k then some v else tableGet k t

/-- A table with `v` under `k`, its keys still rising. -/
def tablePut {α : Type} (k : Nat) (v : α) : Assoc α → Assoc α
  | [] => [(k, v)]
  | (j, w) :: t => if k < j then (k, v) :: (j, w) :: t else if k = j then (k, v) :: t else (j, w) :: tablePut k v t

/-- A table without the entry under `k`. -/
def tableDrop {α : Type} (k : Nat) (t : Assoc α) : Assoc α := t.filter (fun e => e.1 != k)

/-- A table whose entry under `k`, if any, is changed by `f`. -/
def tableMod {α : Type} (k : Nat) (f : α → α) (t : Assoc α) : Assoc α :=
  t.map (fun e => if e.1 = k then (e.1, f e.2) else e)

/-- The keys of a table rise strictly. -/
abbrev tableRising {α : Type} (t : Assoc α) : Prop := (t.map Prod.fst).Pairwise (· < ·)

/-- A set of numbers as a rising list with `n` in it. -/
def setPut (n : Nat) : List Nat → List Nat
  | [] => [n]
  | m :: t => if n < m then n :: m :: t else if n = m then m :: t else m :: setPut n t

/-! ## The rack map -/

def Side.code : Side → Nat
  | .left => 0
  | .right => 1

def Depth.code : Depth → Nat
  | .front => 0
  | .rear => 1

/-- The location code (R4). -/
def locCode (l : Loc) : Nat := (l.column - 1) * 128 + (l.level - 1) * 4 + 2 * l.side.code + l.depth.code

/-- The key of a location in the location table: the aisle, then the location code. -/
def locKey (l : Loc) : Nat := l.aisle * 16384 + locCode l

/-- The location a key stands for. -/
def keyLoc (k : Nat) : Loc where
  aisle := k / 16384
  column := k % 16384 / 128 + 1
  level := k % 128 / 4 + 1
  side := if k % 4 / 2 = 0 then .left else .right
  depth := if k % 2 = 0 then .front else .rear

/-- A location matches a filter (R5): equal bits wherever the mask's low 14 bits hold 0. -/
def Filter.hits (f : Filter) (code : Nat) : Bool :=
  (List.range 14).all fun i => f.mask.testBit i || (code.testBit i == f.code.testBit i)

/-- The filter "anywhere" (R5). -/
def Filter.anywhere : Filter := { code := 0, mask := 0x3FFF }

/-- A location is within reach filters (R72). -/
def Reach.hits (r : Reach) (code : Nat) : Bool := r.a.hits code || (r.bOn && r.b.hits code)

/-- The point of a location in an aisle's geometry (R2). -/
def Aisle.point (a : Aisle) (l : Loc) : Point :=
  { x := a.x1 + (l.column - 1) * a.px, y := a.y1 + (l.level - 1) * a.py }

/-- The locations of an aisle's geometry (R1), in rising code order. -/
def Aisle.allLocs (n : Nat) (a : Aisle) : List Loc :=
  (List.range a.columns).flatMap fun c => (List.range a.levels).flatMap fun v =>
    [Side.left, Side.right].flatMap fun side =>
      (if a.double then [Depth.front, Depth.rear] else [Depth.front]).map fun depth =>
        { aisle := n, side, column := c + 1, level := v + 1, depth }

def State.aisle (s : State) (n : Nat) : Option Aisle := tableGet n s.aisles

/-- The point of a location (R2); a location of no defined aisle has none and reads as the origin. -/
def State.locPoint (s : State) (l : Loc) : Point :=
  match s.aisle l.aisle with
  | some a => a.point l
  | none => { x := 0, y := 0 }

/-- A location table with `r` at key `k`, in canonical form: an entry equal to what an unlisted key reads as is
removed. -/
def locsPut (k : Nat) (r : LocRec) (t : Assoc LocRec) : Assoc LocRec :=
  if r = LocRec.created then tableDrop k t else tablePut k r t

/-- The record of a location (R6). -/
def State.loc (s : State) (l : Loc) : LocRec := (tableGet (locKey l) s.locs).getD LocRec.created

/-- The state with a location's record replaced. -/
def State.setLoc (s : State) (l : Loc) (r : LocRec) : State := { s with locs := locsPut (locKey l) r s.locs }

/-- The key of a location's pair (R19): its FRONT's key. -/
def pairKey (l : Loc) : Nat := locKey { l with depth := .front }

/-- A location is reserved (R7). -/
def Occupancy.reserved : Occupancy → Bool
  | .inbound | .outbound => true
  | .empty | .full | .unknown => false

/-- A pair is busy (R19). A SINGLE aisle's missing REAR reads UNKNOWN, which is not reserved. -/
def State.pairBusy (s : State) (l : Loc) : Bool :=
  (s.loc { l with depth := .front }).occ.reserved || (s.loc { l with depth := .rear }).occ.reserved

/-- The pair of `l` is to be re-examined when the event ends (R38; entry 6). -/
def State.touchPair (s : State) (l : Loc) : State :=
  { s with work := { s.work with pairs := if s.work.pairs.contains (pairKey l) then s.work.pairs else pairKey l :: s.work.pairs } }

/-- A change of occupancy: occupancy and pallet id change, height class and attributes stay (R6), and the pair is to
be re-examined (R38). -/
def State.occupy (s : State) (l : Loc) (occ : Occupancy) (pallet : Option Nat) : State :=
  (s.setLoc l { s.loc l with occ := occ, pallet := pallet }).touchPair l

/-- The originator table's entry (R16). -/
def State.origin (s : State) (originator aisle : Nat) : OrigEntry :=
  (tableGet (originator * 16 + aisle) s.originators).getD OrigEntry.reset

/-! ## The dispatch pass and the run state -/

/-- A dispatch-pass trigger (R68): in RUN it makes a pass due. -/
def State.trigger (s : State) : State := if s.mode.run = .run then { s with passDue := true } else s

/-- Crane `k` has left READY, or what a pass assigned to it has ended: a running pass neither visits it (R70) nor sends
its first leg (R91). -/
def Pass.without (p : Pass) (k : Nat) : Pass where
  toVisit := p.toVisit.filter (fun j => j != k)
  assigned := p.assigned.filter (fun j => j != k)

/-- The running pass, if there is one, without crane `k`. -/
def State.passWithout (s : State) (k : Nat) : Option Pass := s.passRun.map (fun p => p.without k)

/-- Crane `k` holds a plan of the running pass: its first leg goes out when the pass ends (R91). -/
def State.withheld (s : State) (k : Nat) : Bool :=
  match s.passRun with
  | some p => p.assigned.contains k
  | none => false

/-- Cranes are commanded in RUN and HOLD (R158, R159; entry 9). -/
def State.commands (s : State) : Bool := s.mode.run == .run || s.mode.run == .hold

/-! ## The output queue (R177, R178) -/

def Telegram.isReply : Telegram → Bool
  | .reply _ _ _ _ _ _ => true
  | .report _ => false

/-- The reports that stand in the queue. -/
def Link.reports (l : Link) : Nat := (l.out.filter (fun t => !t.isReply)).length

/-- The queue holds a reply, sent or unsent (R176). -/
def Link.replyQueued (l : Link) : Bool := l.out.any Telegram.isReply

/-- The head telegram is begun while host-ready is asserted (R171). -/
def Link.start (l : Link) : Link := if l.hostReady && !l.out.isEmpty then { l with begun := true } else l

/-- A telegram enters at the tail (R178). -/
def Link.enqueue (l : Link) (t : Telegram) : Link := { l with out := l.out ++ [t] }.start

/-- A saturating rise by one of a 16-bit count (R174, R178). -/
def countUp (n : Nat) : Nat := if n < 65535 then n + 1 else n

/-- A report is made: queued while fewer than 127 reports wait, counted as lost otherwise (R178). -/
def Link.report (l : Link) (r : Report) : Link :=
  if l.reports < 127 then l.enqueue (.report r) else { l with lost := countUp l.lost }

def State.report (s : State) (r : Report) : State := { s with link := s.link.report r }

/-- A reply is made (R177): it carries the two flags, and carrying the overrun flag clears it. -/
def Link.answer (l : Link) (code tag : Nat) (result : Result) (data : List Byte) : Link :=
  { l with overrun := false }.enqueue (.reply code tag result l.overrun (decide (0 < l.lost)) data)

def State.answer (s : State) (code tag : Nat) (result : Result) (data : List Byte) : State :=
  { s with link := s.link.answer code tag result data }

/-! ## Crane records -/

/-- The crane numbers (R96). -/
def craneNumbers : List Nat := [1, 2, 3, 4, 5, 6, 7, 8, 9, 10, 11, 12]

/-- A crane's record. A number outside 1..12 reads as a record after power-on. -/
def State.crane (s : State) (k : Nat) : Crane :=
  if h : 1 ≤ k ∧ k ≤ 12 then s.cranes[k - 1]'(by omega) else Crane.reset

/-- The state with crane `k`'s record changed by `f`. -/
def State.updCrane (s : State) (k : Nat) (f : Crane → Crane) : State :=
  if h : 1 ≤ k ∧ k ≤ 12 then { s with cranes := s.cranes.set (k - 1) (f (s.cranes[k - 1]'(by omega))) (by omega) } else s

/-- A crane is configured (R96). -/
def Crane.configured (c : Crane) : Bool := c.cfg.isSome

/-- A crane is configured for an aisle. -/
def Crane.inAisle (c : Crane) (n : Nat) : Bool :=
  match c.cfg with
  | some g => g.aisle == n
  | none => false

/-- A crane is configured for an aisle in a role. -/
def Crane.hasRole (c : Crane) (n : Nat) (r : Role) : Bool :=
  match c.cfg with
  | some g => g.aisle == n && g.role == r
  | none => false

/-- An aisle is defined as a twin aisle (R123). -/
def State.twinAisle (s : State) (n : Nat) : Bool :=
  match s.aisle n with
  | some a => a.twin
  | none => false

/-- The other role of a twin aisle. -/
def Role.other : Role → Role
  | .single => .single
  | .a => .b
  | .b => .a

/-- The crane is configured for a twin aisle in role A or B. A crane of role SINGLE in an aisle that a later SET_AISLE
made twin is none of its two cranes (entry 47). -/
def State.inTwin (s : State) (k : Nat) : Bool :=
  match (s.crane k).cfg with
  | some g => s.twinAisle g.aisle && g.role != .single
  | none => false

/-- The other crane of the crane's twin aisle, if configured (R123). -/
def State.twinOf (s : State) (k : Nat) : Option Nat :=
  match (s.crane k).cfg with
  | some g =>
    if s.twinAisle g.aisle && g.role != .single then
      craneNumbers.find? (fun j => (s.crane j).hasRole g.aisle g.role.other)
    else none
  | none => none

/-- A telegram goes out on a crane port (R93; entry 17). -/
def State.portSend (s : State) (k : Nat) (body : List Byte) : State := { s with portOut := s.portOut ++ [(k, body)] }

/-! ## The job pool -/

def State.job (s : State) (n : Nat) : Option Job := s.pool.find? (fun j => j.num == n)

/-- The state with job `n`'s record changed by `f`. -/
def State.updJob (s : State) (n : Nat) (f : Job → Job) : State :=
  { s with pool := s.pool.map (fun j => if j.num = n then f j else j) }

/-- The state without job `n`'s record. -/
def State.freeJob (s : State) (n : Nat) : State := { s with pool := s.pool.filter (fun j => j.num != n) }

/-- Host jobs are STORE and RETRIEVE; RELOCATE and RECOVER are internal (R24). -/
def JobKind.isHost : JobKind → Bool
  | .store | .retrieve => true
  | .relocate | .recover => false

def State.hostJobs (s : State) : Nat := (s.pool.filter (fun j => j.kind.isHost)).length
def State.internalJobs (s : State) : Nat := (s.pool.filter (fun j => !j.kind.isHost)).length

/-- The admission counter has a number left (R26). -/
def State.admFree (s : State) : Bool := decide (s.admNext ≤ 4294967295)

/-- A host place and an admission number are free (R26, R27). -/
def State.hostRoom (s : State) : Bool := decide (s.hostJobs < 496) && s.admFree

/-- An internal place and an admission number are free (R26, R27). -/
def State.internalRoom (s : State) : Bool := decide (s.internalJobs < 16) && s.admFree

/-- A job enters the pool with the next admission number (R26). It joins behind every older job. -/
def State.enroll (s : State) (j : Job) : State :=
  { s with pool := s.pool ++ [{ j with adm := s.admNext }], admNext := s.admNext + 1 }

/-- The internal number after `n` (R25). -/
def nextInternal (n : Nat) : Nat := if n < 4294967295 then n + 1 else 2147483648

/-- The first value from `n` on that no job of the pool carries, within `fuel` tries (R25). -/
def freeInternal : Nat → Nat → List Job → Nat
  | 0, n, _ => n
  | fuel + 1, n, pool => if pool.any (fun j => j.num == n) then freeInternal fuel (nextInternal n) pool else n

/-- The number the next internal job takes (R25): found within 17 steps. -/
def State.internalNumber (s : State) : Nat := freeInternal 17 s.intNext s.pool

/-- A job is UNCERTAIN. -/
def JobState.isUncertain : JobState → Bool
  | .uncertain _ => true
  | _ => false

/-- A job is WAITING. -/
def JobState.isWaiting : JobState → Bool
  | .waiting _ => true
  | _ => false

/-- The UNCERTAIN job of a crane, if any (R111). -/
def State.uncertainJob (s : State) (k : Nat) : Option Job := s.pool.find? (fun j => j.crane == k && j.state.isUncertain)

/-- The RECOVER job of a crane, if any (R114). -/
def State.recoverJob (s : State) (k : Nat) : Option Job := s.pool.find? (fun j => j.crane == k && j.kind == .recover)

/-- A STORE job whose FETCH has not completed still holds its pallet (R8). -/
def Job.storeHolds (j : Job) : Bool :=
  j.kind == .store &&
    match j.state with
    | .waiting _ | .ready | .assigned | .active => true
    | .carried => false
    | .uncertain leg => leg == .fetch

/-- A crane's load of record is this pallet, resolved or not (R8). -/
def State.craneHolds (s : State) (pallet : Nat) : Bool :=
  craneNumbers.any fun k =>
    match (s.crane k).load with
    | some l => l.id == pallet
    | none => false

/-- A job with this pallet that is RELOCATE (R37). -/
def State.relocationOf (s : State) (pallet : Nat) : Option Job :=
  s.pool.find? (fun j => j.kind == .relocate && j.pallet == pallet)

/-! ## Stations -/

def State.station (s : State) (n : Nat) : Option Station := tableGet n s.stations

def State.updStation (s : State) (n : Nat) (f : Station → Station) : State :=
  { s with stations := tableMod n f s.stations }

/-- An outfeed has room (R139). -/
def Station.hasRoom (t : Station) : Bool := decide (t.occ + t.pend < t.capacity)

/-- The point of a station (R138). -/
def State.stationPoint (s : State) (n : Nat) : Point :=
  match s.station n with
  | some t => t.point
  | none => { x := 0, y := 0 }

/-- A crane serves a station (R72). -/
def State.serves (s : State) (k : Nat) (t : Station) : Bool :=
  match (s.crane k).cfg with
  | some g =>
    g.aisle == t.aisle &&
      (if s.twinAisle g.aisle then (g.role == .a && t.railEnd == .front) || (g.role == .b && t.railEnd == .rear) else true)
  | none => false

/-- The crane that serves a station (R30). -/
def State.servingCrane (s : State) (t : Station) : Option Nat := craneNumbers.find? (fun k => s.serves k t)

/-- A location code is within crane `k`'s applied reach filters (R72). -/
def State.inReach (s : State) (k : Nat) (l : Loc) : Bool :=
  match (s.crane k).reach with
  | some r => r.hits (locCode l)
  | none => false

/-! ## Reservations (R7, R23) -/

/-- FULL becomes OUTBOUND for job `n` (R37, R40). -/
def State.reserveSource (s : State) (n : Nat) (l : Loc) (origin : Origin) : State :=
  (s.occupy l .outbound (s.loc l).pallet).updJob n (fun j => { j with srcRes := some origin })

/-- An OUTBOUND source returns to FULL and keeps its pallet id (R44). -/
def State.freeSource (s : State) (n : Nat) : State :=
  match s.job n with
  | some j =>
    match j.srcRes, j.source with
    | some _, some l => (s.occupy l .full (s.loc l).pallet).updJob n (fun j => { j with srcRes := none })
    | _, _ => s
  | none => s

/-- EMPTY becomes INBOUND with job `n`'s pallet id (R31, R89, R24). -/
def State.reserveDest (s : State) (n : Nat) (l : Loc) (pallet : Nat) (origin : Origin) : State :=
  (s.occupy l .inbound (some pallet)).updJob n
    (fun j => { j with dest := some l, dstRes := some { kind := .location, origin := origin } })

end Sys2Proof.Machine
end

