-- ==== Sys2Proof/Machine/Operands.lean ====
section
/-! DEFINITION. The operand forms of the requests: the raw fields of a telegram read as the values they stand for, or
refused (R3, R50, R184, R189). -/

namespace Sys2Proof.Machine

def sideOf : Nat → Option Side
  | 0 => some .left
  | 1 => some .right
  | _ => none

def depthOf : Nat → Option Depth
  | 0 => some .front
  | 1 => some .rear
  | _ => none

/-- A flag byte or a two-valued enumeration (R184; entry 14). -/
def flagOf : Nat → Option Bool
  | 0 => some false
  | 1 => some true
  | _ => none

def roleOf : Nat → Option Role
  | 0 => some .single
  | 1 => some .a
  | 2 => some .b
  | _ => none

def railEndOf : Nat → Option RailEnd
  | 0 => some .front
  | 1 => some .rear
  | _ => none

def stationKindOf : Nat → Option StationKind
  | 0 => some .infeed
  | 1 => some .outfeed
  | _ => none

def pairingOf : Nat → Option Pairing
  | 0 => some .off
  | 1 => some .storeLeads
  | 2 => some .both
  | _ => none

/-- The run states SET_MODE may name (R159). -/
def modeRunOf : Nat → Option RunState
  | 1 => some .run
  | 2 => some .hold
  | _ => none

def speedOf : Nat → Option SpeedClass
  | 0 => some .normal
  | 1 => some .economy
  | _ => none

/-- The occupancies a host correction may write (R14). -/
def hostOccOf : Nat → Option Occupancy
  | 0 => some .empty
  | 1 => some .full
  | 4 => some .unknown
  | _ => none

/-- A class byte above 3 is taken as 3 (R30, R34, R184). -/
def classOf (n : Nat) : Nat := min n 3

/-- A pallet id field: 0 is none (R184). -/
def palletOf (n : Nat) : Option Nat := if n = 0 then none else some n

/-- An attribute set: bits 4..7 must be clear (R184). -/
def attrsOf (n : Nat) : Option Attrs :=
  if n < 16 then
    some { noStore := n.testBit 0, noRetrieve := n.testBit 1, inspect := n.testBit 2, noRelocate := n.testBit 3 }
  else none

/-- A filter: code and mask of 14 bits each (R184). -/
def filterOf (f : FilterFields) : Option Filter :=
  if f.code ≤ 0x3FFF ∧ f.mask ≤ 0x3FFF then some { code := f.code, mask := f.mask } else none

/-- Two reach filters with the enable of filter B (R97, R119). -/
def reachOf (r : ReachFields) : Option Reach :=
  match filterOf r.filterA, filterOf r.filterB, flagOf r.bEnable with
  | some a, some b, some on => some { a := a, b := b, bOn := on }
  | _, _, _ => none

/-- A top speed lies in its range (R50). -/
def speedOk (v : Nat) : Bool := decide (100 ≤ v) && decide (v ≤ 8000)

/-- An acceleration lies in its range (R50). -/
def accelOk (a : Nat) : Bool := decide (100 ≤ a) && decide (a ≤ 5000)

/-- A fetch or put time lies in its range (R50). -/
def forkOk (t : Nat) : Bool := decide (1000 ≤ t) && decide (t ≤ 30000)

/-- Every figure lies in its range (R50). -/
def figuresOk (f : FigureFields) : Bool :=
  speedOk f.nvx && accelOk f.nax && speedOk f.nvy && accelOk f.nay && speedOk f.evx && accelOk f.eax && speedOk f.evy &&
    accelOk f.eay && decide (f.ts ≤ 5000) && forkOk f.tf && forkOk f.tp && decide (f.td ≤ 10000)

/-- A complete set of motion figures; one figure out of range refuses it whole (R50). -/
def figuresOf (f : FigureFields) : Option Figures :=
  if figuresOk f then
    some { normal := { vx := f.nvx, ax := f.nax, vy := f.nvy, ay := f.nay },
           economy := { vx := f.evx, ax := f.eax, vy := f.evy, ay := f.eay },
           ts := f.ts, tf := f.tf, tp := f.tp, td := f.td }
  else none

/-- A location address by R3, in an aisle's geometry. -/
def locIn (n : Nat) (a : Aisle) (side column level depth : Nat) : Except Result Loc :=
  match sideOf side, depthOf depth with
  | some sd, some dp =>
    if 1 ≤ column ∧ column ≤ a.columns ∧ 1 ≤ level ∧ level ≤ a.levels ∧ (dp = .rear → a.double = true) then
      .ok { aisle := n, side := sd, column := column, level := level, depth := dp }
    else .error .badField
  | _, _ => .error .badField

/-- A location address checked by R3. -/
def State.checkLoc (s : State) (q : LocFields) : Except Result Loc :=
  match s.aisle q.aisle with
  | none => .error .notConfigured
  | some a => locIn q.aisle a q.side q.column q.level q.depth

/-- A column address checked by R3; the answer is the column's location at level 1. -/
def State.checkCol (s : State) (q : ColFields) : Except Result Loc :=
  match s.aisle q.aisle with
  | none => .error .notConfigured
  | some a => locIn q.aisle a q.side q.column 1 q.depth

/-- The first failing check of an ordered list, each with the result it gives. -/
def firstFail : List (Bool × Result) → Result
  | [] => .ok
  | (failed, r) :: t => if failed then r else firstFail t

/-- The result of an address check: OK where it passes. -/
def exceptResult {α : Type} : Except Result α → Result
  | .ok _ => .ok
  | .error r => r

/-- The first of two checks that fails. -/
def Result.orElse (a b : Result) : Result := if a = .ok then b else a

end Sys2Proof.Machine
end

