-- ==== Sys2Proof/Machine/Flags.lean ====
section
/-! DEFINITION. The flag bytes and bit sets of telegrams (R184, R185, R186, R187) and the attribute rules over sets
(R16, R17). -/

namespace Sys2Proof.Machine

def bit (b : Bool) (i : Nat) : Nat := if b then 2 ^ i else 0

/-- The attribute set byte (R184). -/
def Attrs.byte (a : Attrs) : Nat := bit a.noStore 0 + bit a.noRetrieve 1 + bit a.inspect 2 + bit a.noRelocate 3

/-- The flags byte of a reply (R186). -/
def replyFlags (overrun loss : Bool) : Nat := bit overrun 0 + bit loss 1

/-- The done flags of JOB_DONE (R187). -/
def doneFlags (outOfSequence lateConfirm inspect : Bool) : Nat := bit outOfSequence 0 + bit lateConfirm 1 + bit inspect 2

/-- The aisle numbers (R1). -/
def aisleNumbers : List Nat := [1, 2, 3, 4, 5, 6, 7, 8]

/-- The active aisle set byte: bit 0 for aisle 1 (R185). -/
def aislesByte (l : List Nat) : Nat := (aisleNumbers.map (fun n => bit (l.contains n) (n - 1))).sum

/-- The aisles an active aisle set byte names, rising (R185). -/
def aislesOf (b : Nat) : List Nat := aisleNumbers.filter (fun n => b.testBit (n - 1))

/-- The attributes open in `mask` take the value of `want`; the closed ones keep theirs (R17, R18). -/
def Attrs.write (old mask want : Attrs) : Attrs where
  noStore := if mask.noStore then want.noStore else old.noStore
  noRetrieve := if mask.noRetrieve then want.noRetrieve else old.noRetrieve
  inspect := if mask.inspect then want.inspect else old.inspect
  noRelocate := if mask.noRelocate then want.noRelocate else old.noRelocate

/-- Some attribute of `old` is clear in `new` (R13). -/
def Attrs.clearedBy (old new : Attrs) : Bool :=
  (old.noStore && !new.noStore) || (old.noRetrieve && !new.noRetrieve) || (old.inspect && !new.inspect) ||
    (old.noRelocate && !new.noRelocate)

/-- A level word selects a level when the level's bit is clear (R18). -/
def levelSelected (word level : Nat) : Bool := !word.testBit (level - 1)

/-- The status byte of a crane: configured in bit 7, the channel state in bits 0..2 (R186). -/
def craneStatusByte (configured : Bool) (chan : Nat) : Nat := bit configured 7 + chan

end Sys2Proof.Machine
end

