-- ==== Sys2Proof/Machine/Travel.lean ====
section
/-! DEFINITION. Travel time and cost (chapter 03): axis times, moves, legs, cycles, scores and the pairing saving. All
in whole mm and ms. -/

namespace Sys2Proof.Machine

/-- From `t`, the largest number below `t + 2 ^ bits` whose square times `a` is below `n`, bit by bit. -/
def rootBelow : Nat → Nat → Nat → Nat → Nat
  | 0, _, _, t => t
  | bits + 1, a, n, t =>
    if (t + 2 ^ bits) * (t + 2 ^ bits) * a < n then rootBelow bits a n (t + 2 ^ bits) else rootBelow bits a n t

/-- A quotient rounded up (R53). -/
def divUp (n d : Nat) : Nat := (n + d - 1) / d

/-- The axis time for a distance `d` at top speed `v` and acceleration `a` (R52). In the third case the time is below
2,000 v / a, at most 160,000 ms for the figures of R50, so 18 bits hold it. -/
def axisTime (v a d : Nat) : Nat :=
  if d = 0 then 0
  else if v * v ≤ d * a then divUp (1000 * (d * a + v * v)) (v * a)
  else rootBelow 18 a (4000000 * d) 0 + 1

/-- The distance between two coordinates, taken as at most the axis's span (R52). -/
def distance (span p q : Nat) : Nat := min span (if p ≤ q then q - p else p - q)

/-- The move time from one point to another (R54). -/
def moveTime (f : Profile) (p q : Point) : Nat :=
  max (axisTime f.vx f.ax (distance 200000 p.x q.x)) (axisTime f.vy f.ay (distance 50000 p.y q.y))

/-- A crane with no figures has none to estimate with; a configured crane always has a set (R50). -/
def Figures.absent : Figures where
  normal := { vx := 0, ax := 0, vy := 0, ay := 0 }
  economy := { vx := 0, ax := 0, vy := 0, ay := 0 }
  ts := 0
  tf := 0
  tp := 0
  td := 0

/-- The crane's applied figures. -/
def Crane.applied (c : Crane) : Figures := c.figures.getD Figures.absent

/-- The profile of the applied speed class (R51). -/
def Crane.profile (c : Crane) : Profile :=
  match c.speed with
  | .normal => c.applied.normal
  | .economy => c.applied.economy

/-- T(P→Q) of R65: the move time, plus Ts when it is above 0. -/
def Crane.travel (c : Crane) (p q : Point) : Nat :=
  if moveTime c.profile p q = 0 then 0 else moveTime c.profile p q + c.applied.ts

/-- The target is a REAR location (R55). -/
def Target.rear : Target → Bool
  | .location l => l.depth == .rear
  | .station _ => false
  | .endPos => false

/-- The handling time of a leg (R55). -/
def Crane.handling (c : Crane) (kind : LegKind) (rear : Bool) : Nat :=
  match kind with
  | .fetch => c.applied.tf + if rear then c.applied.td else 0
  | .put => c.applied.tp + if rear then c.applied.td else 0
  | .move => 0

/-- The leg estimate (R55). -/
def Crane.legEstimate (c : Crane) (kind : LegKind) (rear : Bool) (p q : Point) : Nat :=
  c.travel p q + c.handling kind rear

/-- The point of a target of crane `k` (R54). -/
def State.targetPoint (s : State) (k : Nat) : Target → Point
  | .location l => s.locPoint l
  | .station n => s.stationPoint n
  | .endPos =>
    match (s.crane k).cfg with
    | some g => g.endPos
    | none => { x := 0, y := 0 }

/-- A leg of crane `k` from `start`, with its planned estimate (R86). -/
def State.mkLeg (s : State) (k : Nat) (kind : LegKind) (target : Target) (job pallet : Option Nat) (approach : Bool)
    (start : Point) : Leg where
  kind := kind
  target := target
  job := job
  pallet := pallet
  approach := approach
  start := start
  est := (s.crane k).legEstimate kind target.rear start (s.targetPoint k target)

/-- What a leg of a plan is before it has a start point. -/
structure LegSpec where
  kind : LegKind
  target : Target
  job : Nat
  pallet : Nat
  approach : Bool
  deriving DecidableEq, Repr

/-- The legs of a plan in order, each from the target of the one before it (R56, R88). -/
def State.mkPlan (s : State) (k : Nat) : Point → List LegSpec → List Leg
  | _, [] => []
  | start, q :: t =>
    s.mkLeg k q.kind q.target (some q.job) (some q.pallet) q.approach start :: s.mkPlan k (s.targetPoint k q.target) t

/-- The sum of the planned estimates (R56). -/
def planEstimate (legs : List Leg) : Nat := (legs.map Leg.est).sum

/-- The class offset of the policy (R61). -/
def Policy.offset (p : Policy) : Nat → Nat
  | 0 => p.offset0
  | 1 => p.offset1
  | 2 => p.offset2
  | _ => p.offset3

/-- The pairing saving (R65): T(Ls→O) + T(O→Lr) − T(Ls→Lr). -/
def Crane.saving (c : Crane) (ls lr o : Point) : Nat := c.travel ls o + c.travel o lr - c.travel ls lr

end Sys2Proof.Machine
end

