-- ==== Sys2Proof/Machine/Telegrams.lean ====
section
/-! DEFINITION. The telegrams the controller sends, byte by byte: code tables (R189), field encodings (R184), replies
(R186), reports (R187) and crane-port telegrams (R188). -/

namespace Sys2Proof.Machine

def Occupancy.code : Occupancy → Nat
  | .empty => 0
  | .full => 1
  | .inbound => 2
  | .outbound => 3
  | .unknown => 4

def JobKind.code : JobKind → Nat
  | .store => 1
  | .retrieve => 2
  | .relocate => 3
  | .recover => 4

def JobState.code : JobState → Nat
  | .waiting _ => 1
  | .ready => 2
  | .assigned => 3
  | .active => 4
  | .carried => 5
  | .uncertain _ => 6

def WaitReason.code : WaitReason → Nat
  | .notYet => 1
  | .queued => 2
  | .pairBusy => 3
  | .relocating => 4
  | .frontFixed => 5
  | .blockedOut => 6

/-- The waiting reason byte: 0 when the job is not WAITING (R186). -/
def JobState.waitCode : JobState → Nat
  | .waiting r => r.code
  | .ready | .assigned | .active | .carried | .uncertain _ => 0

def RunState.code : RunState → Nat
  | .config => 0
  | .run => 1
  | .hold => 2
  | .safe => 3

def SpeedClass.code : SpeedClass → Nat
  | .normal => 0
  | .economy => 1

def Pairing.code : Pairing → Nat
  | .off => 0
  | .storeLeads => 1
  | .both => 2

def ChanState.code : ChanState → Nat
  | .offline => 0
  | .listen => 1
  | .ready => 2
  | .busy => 3
  | .parking => 4
  | .parked => 5
  | .fault => 6
  | .manual => 7

def Role.code : Role → Nat
  | .single => 0
  | .a => 1
  | .b => 2

def LegKind.code : LegKind → Nat
  | .fetch => 1
  | .put => 2
  | .move => 3

def Target.code : Target → Nat
  | .location _ => 1
  | .station _ => 2
  | .endPos => 3

def CycleKind.code : CycleKind → Nat
  | .single => 1
  | .dual => 2
  | .relocation => 3
  | .recovery => 4
  | .evasion => 5
  | .park => 6

def GroupStatus.code : GroupStatus → Nat
  | .opened => 1
  | .closing => 2

def Origin.code : Origin → Nat
  | .admission => 1
  | .assignment => 2

def FaultReason.code : FaultReason → Nat
  | .link => 1
  | .silent => 2
  | .noAnswer => 3
  | .timeout => 4
  | .drive => 5
  | .doubleLoad => 6

def ChanReason.code : ChanReason → Nat
  | .fault r => r.code
  | .heard => 16
  | .powerUp => 17
  | .auto => 18
  | .stop => 19
  | .resume => 21
  | .cycleEnd => 22
  | .resumeCheck => 23
  | .assigned => 24
  | .evasion => 25
  | .park => 26
  | .asleep => 27
  | .wake => 28
  | .manual => 29

def Result.code : Result → Nat
  | .ok => 0
  | .unknownCode => 1
  | .badField => 2
  | .wrongMode => 3
  | .poolFull => 4
  | .duplicateJob => 5
  | .duplicatePallet => 6
  | .unknownPallet => 7
  | .unknownJob => 8
  | .locationUnavailable => 9
  | .locationReserved => 10
  | .noReach => 11
  | .infeedFull => 12
  | .noGroup => 13
  | .groupTableFull => 14
  | .stalePosition => 15
  | .duplicatePosition => 16
  | .groupClosing => 17
  | .inProgress => 18
  | .jobUncertain => 19
  | .notOwner => 20
  | .noLoad => 21
  | .collision => 22
  | .craneSilent => 23
  | .configError => 24
  | .stopActive => 25
  | .notConfigured => 26

def FailReason.code : FailReason → Nat
  | .binEmpty => 1
  | .loadMismatch => 2
  | .noLocation => 3
  | .interrupted => 4
  | .conflict => 5

def Finding.code : Finding → Nat
  | .binEmpty => 1
  | .binOccupied => 2
  | .loadMismatch => 3
  | .foreignLoad => 4

def ModeCause.code : ModeCause → Nat
  | .start => 1
  | .setMode => 2
  | .stop => 3
  | .resumeCheck => 4

def CheckResult.code : CheckResult → Nat
  | .ready => 0
  | .loadChanged => 1
  | .silent => 2
  | .manual => 3
  | .powerUp => 4
  | .fault => 5

/-- A flag byte (R184). -/
def flagByte (b : Bool) : List Byte := beBytes 1 (bit b 0)

/-- A location address; five zero bytes where there is none (R184). -/
def locBytes : Option Loc → List Byte
  | none => beBytes 5 0
  | some l => beBytes 1 l.aisle ++ beBytes 1 l.side.code ++ beBytes 1 l.column ++ beBytes 1 l.level ++ beBytes 1 l.depth.code

/-- A point with its presence byte (R184). -/
def pointBytes : Option Point → List Byte
  | none => beBytes 7 0
  | some p => beBytes 1 1 ++ beBytes 4 p.x ++ beBytes 2 p.y

/-- An interval with its presence byte (R184). -/
def spanBytes : Option Span → List Byte
  | none => beBytes 9 0
  | some v => beBytes 1 1 ++ beBytes 4 v.lo ++ beBytes 4 v.hi

def filterBytes (f : Filter) : List Byte := beBytes 2 f.code ++ beBytes 2 f.mask

/-- A target's location address, zero where it is none. -/
def Target.loc : Target → Option Loc
  | .location l => some l
  | .station _ => none
  | .endPos => none

/-- A target's station number, zero where it is none. -/
def Target.stationNo : Target → Nat
  | .location _ => 0
  | .station n => n
  | .endPos => 0

/-- A leg of a plan (R184). -/
def legBytes (g : Leg) : List Byte :=
  beBytes 1 g.kind.code ++ beBytes 1 g.target.code ++ locBytes g.target.loc ++ beBytes 1 g.target.stationNo ++
    beBytes 4 (g.job.getD 0) ++ beBytes 4 g.est ++ flagByte g.approach

/-- A list: a count byte, then the elements (R186). -/
def listBytes {α : Type} (f : α → List Byte) (l : List α) : List Byte := beBytes 1 l.length ++ l.flatMap f

/-- A time in seconds, rounded up (R48, R154). -/
def secondsUp (ms : Nat) : Nat := (ms + 999) / 1000

/-- A report's body (R187). -/
def Report.body : Report → List Byte
  | .jobCreated job kind pallet linked crane source dest station =>
    beBytes 1 0xC0 ++ beBytes 2 0 ++ beBytes 4 job ++ beBytes 1 kind.code ++ beBytes 4 pallet ++ beBytes 4 linked ++
      beBytes 1 crane ++ locBytes source ++ locBytes dest ++ beBytes 1 station
  | .jobAssigned job crane partner dest outfeed score saving estimate =>
    beBytes 1 0xC1 ++ beBytes 2 0 ++ beBytes 4 job ++ beBytes 1 crane ++ beBytes 4 partner ++ locBytes dest ++
      beBytes 1 outfeed ++ beBytes 4 score ++ beBytes 4 saving ++ beBytes 4 estimate
  | .jobDone job kind pallet crane outOfSequence lateConfirm inspect =>
    beBytes 1 0xC2 ++ beBytes 2 0 ++ beBytes 4 job ++ beBytes 1 kind.code ++ beBytes 4 pallet ++ beBytes 1 crane ++
      beBytes 1 (doneFlags outOfSequence lateConfirm inspect)
  | .jobFailed job kind pallet crane reason =>
    beBytes 1 0xC3 ++ beBytes 2 0 ++ beBytes 4 job ++ beBytes 1 kind.code ++ beBytes 4 pallet ++ beBytes 1 crane ++
      beBytes 1 reason.code
  | .craneState crane chan reason pos =>
    beBytes 1 0xC4 ++ beBytes 2 0 ++ beBytes 1 crane ++ beBytes 1 chan.code ++ beBytes 1 reason.code ++ pointBytes pos
  | .locationConflict crane location pallet finding =>
    beBytes 1 0xC5 ++ beBytes 2 0 ++ beBytes 1 crane ++ locBytes (some location) ++ beBytes 4 pallet ++ beBytes 1 finding.code
  | .loadUnresolved crane pallet pos =>
    beBytes 1 0xC6 ++ beBytes 2 0 ++ beBytes 1 crane ++ beBytes 4 pallet ++ pointBytes pos
  | .sequenceHold crane job group position outfeed d =>
    beBytes 1 0xC7 ++ beBytes 2 0 ++ beBytes 1 crane ++ beBytes 4 job ++ beBytes 2 group ++ beBytes 1 position ++
      beBytes 1 outfeed ++ beBytes 2 d
  | .modeChanged cause runState speed active stop =>
    beBytes 1 0xC8 ++ beBytes 2 0 ++ beBytes 1 cause.code ++ beBytes 1 runState.code ++ beBytes 1 speed.code ++
      beBytes 1 (aislesByte active) ++ flagByte stop
  | .resumeCheck entries =>
    beBytes 1 0xC9 ++ beBytes 2 0 ++ listBytes (fun e => beBytes 1 e.1 ++ beBytes 1 e.2.code) entries
  | .reportsLost count => beBytes 1 0xCA ++ beBytes 2 0 ++ beBytes 2 count

/-- A telegram's body (R186, R187). -/
def Telegram.body : Telegram → List Byte
  | .reply code tag result overrun loss data =>
    beBytes 1 code ++ beBytes 2 tag ++ beBytes 1 result.code ++ beBytes 1 (replyFlags overrun loss) ++ data
  | .report r => r.body

/-- A LEG telegram's body (R93, R188). -/
def legTelegram (id : Nat) (kind : LegKind) (target : Target) (p : Point) (speed : SpeedClass) (pallet : Option Nat) :
    List Byte :=
  let sideOrStation := match target with
    | .location l => l.side.code
    | .station n => n
    | .endPos => 0
  beBytes 1 0x01 ++ beBytes 1 id ++ beBytes 1 kind.code ++ beBytes 1 target.code ++ beBytes 4 p.x ++ beBytes 2 p.y ++
    beBytes 1 sideOrStation ++ beBytes 1 (bit target.rear 0) ++ beBytes 1 speed.code ++ beBytes 4 (pallet.getD 0)

/-- STOP, SLEEP and WAKE carry the port's number (R188). -/
def stopTelegram (k : Nat) : List Byte := beBytes 1 0x02 ++ beBytes 1 k
def sleepTelegram (k : Nat) : List Byte := beBytes 1 0x03 ++ beBytes 1 k
def wakeTelegram (k : Nat) : List Byte := beBytes 1 0x04 ++ beBytes 1 k

/-- The policy block in its carried form (R169, R185). -/
def policyBytes (p : Policy) : List Byte :=
  beBytes 4 p.offset0 ++ beBytes 4 p.offset1 ++ beBytes 4 p.offset2 ++ beBytes 4 p.offset3 ++ beBytes 1 p.aging ++
    beBytes 1 p.pairing.code ++ beBytes 2 p.minSaving ++ beBytes 1 p.window ++ beBytes 2 p.holdTime ++
    beBytes 2 (p.margin / 10) ++ beBytes 2 p.parkHold

end Sys2Proof.Machine
end

