-- ==== Sys2Proof/Machine/Rail.lean ====
section
/-! DEFINITION. Channel state changes (R98, R99), the sending of legs (R101) and the rail arbiter (chapter 06). -/

namespace Sys2Proof.Machine

def Crane.role (c : Crane) : Role :=
  match c.cfg with
  | some g => g.role
  | none => .single

def Crane.gap (c : Crane) : Nat :=
  match c.cfg with
  | some g => g.gap
  | none => 0

def Crane.endPoint (c : Crane) : Point :=
  match c.cfg with
  | some g => g.endPos
  | none => { x := 0, y := 0 }

/-- The rail span: the smallest interval with the claim and the recorded position in it (R125). -/
def Crane.railSpan (c : Crane) : Option Span :=
  match c.claim, c.pos with
  | some v, some p => some { lo := min v.lo p.x, hi := max v.hi p.x }
  | some v, none => some v
  | none, some p => some { lo := p.x, hi := p.x }
  | none, none => none

/-- The two gaps of a crane and its twin, added (R123). -/
def State.gaps (s : State) (k t : Nat) : Nat := (s.crane k).gap + (s.crane t).gap

/-- A new interval `v` of a crane in `role` keeps clear of its twin's interval `w` (R127). -/
def keepsClear (role : Role) (gaps : Nat) (v w : Span) : Bool :=
  match role with
  | .a => decide (v.hi + gaps ≤ w.lo)
  | .b => decide (w.hi + gaps ≤ v.lo)
  | .single => true

/-- The grant test of crane `k`'s interval `v` against its twin's rail span; it fails while the twin has none (R127). -/
def State.grantTest (s : State) (k : Nat) (v : Span) : Bool :=
  match s.twinOf k with
  | none => false
  | some t =>
    match (s.crane t).railSpan with
    | none => false
    | some w => keepsClear (s.crane k).role (s.gaps k t) v w

/-- The twin has no rail span (R128). -/
def State.twinUnknown (s : State) (k : Nat) : Bool :=
  match s.twinOf k with
  | none => true
  | some t => (s.crane t).railSpan.isNone

/-! ## Ranges (R123, R134) -/

/-- The rail positions from `lo` to `hi`; none where there are none. -/
def spanOf (lo hi : Nat) : Option Span := if lo ≤ hi then some { lo := lo, hi := hi } else none

/-- The configured range of a crane (R123); the whole rail in a single-crane aisle. A twin-aisle crane whose twin is not
configured has none (entry 46). -/
def State.configuredRange (s : State) (k : Nat) : Option Span :=
  if s.inTwin k then
    match s.twinOf k with
    | none => none
    | some t =>
      match (s.crane k).role with
      | .a =>
        if s.gaps k t ≤ (s.crane t).endPoint.x then spanOf 0 ((s.crane t).endPoint.x - s.gaps k t) else none
      | .b => spanOf ((s.crane t).endPoint.x + s.gaps k t) 200000
      | .single => none
  else spanOf 0 200000

/-- A crane in this state can be moved (06 section 6.5). -/
def ChanState.movable : ChanState → Bool
  | .ready | .busy | .parking | .parked => true
  | .offline | .listen | .fault | .manual => false

/-- A range limited by the grant test against the twin's rail span (R134). -/
def limitRange (role : Role) (gaps : Nat) (v w : Span) : Option Span :=
  match role with
  | .a => if gaps ≤ w.lo then spanOf v.lo (min v.hi (w.lo - gaps)) else none
  | .b => spanOf (max v.lo (w.hi + gaps)) v.hi
  | .single => some v

/-- The effective range of a twin-aisle crane (R134). -/
def State.effectiveRange (s : State) (k : Nat) : Option Span :=
  match s.configuredRange k, s.twinOf k with
  | none, _ => none
  | some v, none => some v
  | some v, some t =>
    if (s.crane t).chan.movable then some v
    else
      match (s.crane t).railSpan with
      | none => none
      | some w => limitRange (s.crane k).role (s.gaps k t) v w

/-- A rail position is within crane `k`'s range (R72). -/
def State.inRange (s : State) (k : Nat) (x : Nat) : Bool :=
  if s.inTwin k then
    match s.effectiveRange k with
    | none => false
    | some v => decide (v.lo ≤ x) && decide (x ≤ v.hi)
  else true

/-! ## Channel state changes -/

/-- A crane record as its channel enters a state (R98, R99). -/
def Crane.entering (c : Crane) (st : ChanState) (r : ChanReason) : Crane :=
  match st with
  | .ready => { c with chan := .ready, powerReturn := false, stopHalted := false, lastFault := none, bad := 0 }
  | .fault =>
    match r with
    | .fault f => { c with chan := .fault, lastFault := some f }
    | _ => { c with chan := .fault }
  | .offline => { c with chan := .offline }
  | .listen => { c with chan := .listen }
  | .busy => { c with chan := .busy }
  | .parking => { c with chan := .parking }
  | .parked => { c with chan := .parked }
  | .manual => { c with chan := .manual }

/-- The ready order after crane `k` enters a state (R67). -/
def readyAfter (order : List Nat) (k : Nat) (st : ChanState) : List Nat :=
  if st = .ready then order.filter (fun j => j != k) ++ [k] else order.filter (fun j => j != k)

/-- A change of channel state is a trigger: entering READY, and in a twin aisle every change (R69, R99), but for the
assignment of a pass (R68). -/
def State.chanTriggers (s : State) (k : Nat) (st : ChanState) (r : ChanReason) : Bool :=
  st == .ready || (s.inTwin k && r != .assigned)

/-- A change of channel state with its report (R99), without what the rail arbiter makes of it. A crane that leaves READY
is no longer visited by a running pass, and one that enters it is not visited by that pass (R67, R70). -/
def State.chanTo (s : State) (k : Nat) (st : ChanState) (r : ChanReason) : State :=
  let s := { s.updCrane k (fun c => c.entering st r) with
    readyOrder := readyAfter s.readyOrder k st, passRun := s.passWithout k }
  let s := s.report (.craneState k st r (s.crane k).pos)
  if s.chanTriggers k st r then s.trigger else s

/-! ## Sending a leg (R101) -/

/-- The leg that is next to be sent: the park leg while PARKING, else the head of the plan. -/
def Crane.nextLeg (c : Crane) : Option Leg := if c.chan = .parking then c.parkLeg else c.plan.head?

/-- The next leg id (R95). -/
def nextLegId (n : Nat) : Nat := if n < 255 then n + 1 else 1

/-- The expected pallet id of a leg (R93). -/
def Crane.expected (c : Crane) (g : Leg) : Option Nat :=
  match g.kind with
  | .move => c.load.map Load.id
  | .fetch | .put => g.pallet

/-- Sending this leg makes this job ACTIVE (R101): a job's FETCH, a RECOVER job's PUT. -/
def Leg.activates (g : Leg) (j : Job) : Bool :=
  match g.kind with
  | .fetch => true
  | .put => j.kind == .recover
  | .move => false

/-- The leg's job becomes ACTIVE where its sending makes it so. -/
def State.activate (s : State) (g : Leg) : State :=
  match g.job with
  | none => s
  | some n => s.updJob n (fun j => if g.activates j then { j with state := .active } else j)

/-- A crane record as its leg `id` is sent, with the leg's estimate at sending (R56, R95, R101). -/
def Crane.sent (c : Crane) (id est : Nat) : Crane :=
  { c with lastLeg := id, curLeg := id, legEst := est, takenTimer := some 1000, legTimer := none, request := none }

/-- The next leg is sent (R101). -/
def State.sendLeg (s : State) (k : Nat) : State :=
  match (s.crane k).nextLeg with
  | none => s
  | some g =>
    let c := s.crane k
    let p := s.targetPoint k g.target
    let id := nextLegId c.lastLeg
    let est := c.legEstimate g.kind g.target.rear (c.pos.getD g.start) p
    ((s.updCrane k (fun c => c.sent id est)).portSend k
      (legTelegram id g.kind g.target p c.speed (c.expected g))).activate g

/-! ## The rail arbiter -/

/-- What the arbiter has still to do within an event: a leg asks, or a waiting request is tested again. -/
inductive RailOp where
  | ask (k : Nat)
  | retest (k : Nat)
  deriving DecidableEq, Repr

/-- The twin's waiting request is to be tested again. -/
def State.retestTwin (s : State) (k : Nat) : List RailOp :=
  match s.twinOf k with
  | some t => [.retest t]
  | none => []

/-- The interval a leg asks for (R126). -/
def State.askSpan (s : State) (k : Nat) (g : Leg) : Span :=
  let x := ((s.crane k).pos.getD g.start).x
  let y := (s.targetPoint k g.target).x
  { lo := min x y, hi := max x y }

/-- An interval leaves out part of another (R127). -/
def leavesOut (before after : Option Span) : Bool :=
  match before, after with
  | none, _ => false
  | some _, none => true
  | some b, some a => !(decide (a.lo ≤ b.lo) && decide (b.hi ≤ a.hi))

/-- The crane's waiting request is granted: the claim is the interval asked for, and the leg is sent (R127). A grant
that shrinks the rail span is a release too (R129). -/
def State.grant (s : State) (k : Nat) (v : Span) : State × List RailOp :=
  let before := (s.crane k).railSpan
  let s := (s.updCrane k (fun c => { c with claim := some v, request := none })).sendLeg k
  if leavesOut before (s.crane k).railSpan then (s.trigger, s.retestTwin k) else (s, [])

/-- The waiting leg's job. -/
def State.waitingJob (s : State) (k : Nat) : Option Job :=
  match (s.crane k).nextLeg with
  | none => none
  | some g =>
    match g.job with
    | none => none
    | some n => s.job n

/-- The arbiter order: crane `k`'s waiting leg comes before crane `t`'s (R133). -/
def State.ranksBefore (s : State) (k t : Nat) : Bool :=
  match s.waitingJob k, s.waitingJob t with
  | some i, some j => decide (i.cls < j.cls) || (i.cls == j.cls && decide (i.adm < j.adm))
  | some _, none => true
  | none, some _ => false
  | none, none => (s.crane k).role == .a

/-- A READY twin can evade: it has a recorded position away from its end position (R131). -/
def Crane.canEvade (c : Crane) : Bool :=
  c.chan == .ready &&
    match c.pos with
    | some p => p.x != c.endPoint.x
    | none => false

/-- The MOVE of crane `k` to its end position (R131, R132). -/
def State.evasionLeg (s : State) (k : Nat) (start : Point) : Leg := s.mkLeg k .move .endPos none none false start

/-- An evasion plan is written into a READY crane (R131). -/
def State.evade (s : State) (t : Nat) : State :=
  let g := s.evasionLeg t ((s.crane t).pos.getD (s.crane t).endPoint)
  (s.updCrane t (fun c => { c with plan := [g], cycle := some .evasion, estimate := g.est })).chanTo t .busy .evasion

/-- An evasion MOVE is inserted at the head of the loser's plan, and its waiting request is withdrawn (R132). -/
def State.insertEvasion (s : State) (k : Nat) (g : Leg) : State :=
  let e := s.evasionLeg k ((s.crane k).pos.getD g.start)
  s.updCrane k (fun c => { c with plan := e :: c.plan, estimate := c.estimate + e.est, request := none })

/-- Mutual wait of cranes `k` and `t` (R132): the loser by R133 evades, unless its leg goes to its end position. -/
def State.mutualWait (s : State) (k t : Nat) : State × List RailOp :=
  let loser := if s.ranksBefore k t then t else k
  match (s.crane loser).nextLeg with
  | none => (s, [])
  | some g => if g.target = .endPos then (s, []) else (s.insertEvasion loser g, [.ask loser])

/-- Crane `k`'s request has been refused and waits (R130): a READY twin evades (R131), a mutual wait is resolved
(R132). -/
def State.refuse (s : State) (k : Nat) : State × List RailOp :=
  match s.twinOf k with
  | none => (s, [])
  | some t =>
    if (s.crane t).canEvade then (s.evade t, [.ask t, .retest k])
    else
      match (s.crane t).request with
      | none => (s, [])
      | some w => if s.grantTest t w then (s, []) else s.mutualWait k t

/-- A leg asks for its claim (R126, R127). -/
def State.askRail (s : State) (k : Nat) : State × List RailOp :=
  match (s.crane k).nextLeg with
  | none => (s, [])
  | some g =>
    let v := s.askSpan k g
    if s.grantTest k v then s.grant k v else (s.updCrane k (fun c => { c with request := some v })).refuse k

/-- The twin's waiting request, if it has one that passes the grant test. -/
def State.twinPasses (s : State) (k : Nat) : Option (Nat × Span) :=
  match s.twinOf k with
  | none => none
  | some t =>
    match (s.crane t).request with
    | none => none
    | some w => if s.grantTest t w then some (t, w) else none

/-- A waiting request is tested again (R130). Where both cranes' requests pass, the first in the arbiter order is
granted and the other tested again (R133). -/
def State.retestRail (s : State) (k : Nat) : State × List RailOp :=
  match (s.crane k).request with
  | none => (s, [])
  | some v =>
    if s.grantTest k v then
      match s.twinPasses k with
      | none => s.grant k v
      | some (t, w) =>
        if s.ranksBefore k t then
          let (s, ops) := s.grant k v
          (s, ops ++ [.retest t])
        else
          let (s, ops) := s.grant t w
          (s, ops ++ [.retest k])
    else s.refuse k

/-- One operation of the arbiter, with the operations it makes necessary. No leg is granted in CONFIG or SAFE
(entry 9). -/
def State.railStep (s : State) : RailOp → State × List RailOp
  | .ask k => if s.commands then s.askRail k else (s, [])
  | .retest k => if s.commands then s.retestRail k else (s, [])

/-- The arbiter works until nothing is left to do. Each grant uses up a request and no evasion is inserted before an
evasion, so a few operations exhaust an event; the first argument bounds their number. -/
def State.railRun : Nat → List RailOp → State → State
  | 0, _, s => s
  | _ + 1, [], s => s
  | n + 1, op :: ops, s => State.railRun n ((s.railStep op).2 ++ ops) (s.railStep op).1

def State.rail (s : State) (ops : List RailOp) : State := State.railRun 32 ops s

/-- A change of channel state, after which the twin's waiting request is tested again (R130). -/
def State.enter (s : State) (k : Nat) (st : ChanState) (r : ChanReason) : State :=
  let s := s.chanTo k st r
  s.rail (s.retestTwin k)

/-- A release of rail: a trigger, and the twin's waiting request is tested again (R129). -/
def State.release (s : State) (k : Nat) : State := s.trigger.rail (s.retestTwin k)

/-- The claim after a report of rail position `x` with no leg outstanding (R128). -/
def State.claimAfter (s : State) (k : Nat) (claim : Option Span) (x : Nat) : Option Span :=
  match claim with
  | some v =>
    if v.lo ≤ x ∧ x ≤ v.hi then some { lo := x, hi := x }
    else if s.grantTest k { lo := x, hi := x } then some { lo := x, hi := x } else some v
  | none =>
    if s.grantTest k { lo := x, hi := x } || s.twinUnknown k then some { lo := x, hi := x } else none

/-- A reported position is recorded (R93). -/
def State.recordPosition (s : State) (k : Nat) (p : Point) : State := s.updCrane k (fun c => { c with pos := some p })

/-- A report of rail position `x` is handed to the arbiter of a twin aisle (R128); `claim` and `span` are the crane's
before the report. Any change of either is a release (R129). -/
def State.railReport (s : State) (k : Nat) (claim span : Option Span) (x : Nat) (outstanding : Bool) : State :=
  if s.inTwin k then
    let after := if outstanding then (s.crane k).claim else s.claimAfter k (s.crane k).claim x
    let s := s.updCrane k (fun c => { c with claim := after })
    if (s.crane k).claim = claim ∧ (s.crane k).railSpan = span then s else s.release k
  else s

/-- A reported position is recorded and handed to the rail arbiter. -/
def State.reportPosition (s : State) (k : Nat) (p : Point) (outstanding : Bool) : State :=
  (s.recordPosition k p).railReport k (s.crane k).claim (s.crane k).railSpan p.x outstanding

/-! ## Going on (R101, R105) -/

/-- The channel may send its next leg: it is BUSY or PARKING with no leg outstanding and nothing it waits for, the end of
the pass that assigned it among them (R91). -/
def State.mayGoOn (s : State) (k : Nat) : Bool :=
  s.commands && ((s.crane k).chan == .busy || (s.crane k).chan == .parking) && (s.crane k).curLeg == 0 &&
    !(s.crane k).roomWait && (tableGet k s.holds).isNone && (s.crane k).request.isNone && !s.withheld k

/-- The channel sends its next leg when it may (R101): in a twin aisle the leg first asks for its claim (R126). -/
def State.goOn (s : State) (k : Nat) : State :=
  if s.mayGoOn k then (if s.inTwin k then s.rail [.ask k] else s.sendLeg k) else s

/-- Something is pending for the crane (R59). -/
def Crane.hasPending (c : Crane) : Bool := c.pendSpeed.isSome || c.pendFigures.isSome || c.pendReach.isSome

/-- The pending values become the applied ones (R59). -/
def Crane.withPending (c : Crane) : Crane :=
  { c with
    speed := c.pendSpeed.getD c.speed
    pendSpeed := none
    figures := match c.pendFigures with
      | some f => some f
      | none => c.figures
    pendFigures := none
    reach := match c.pendReach with
      | some r => some r
      | none => c.reach
    pendReach := none }

/-- The pending values of a crane are applied; each application is a trigger (R59). -/
def State.applyPending (s : State) (k : Nat) : State :=
  if (s.crane k).hasPending then (s.updCrane k Crane.withPending).trigger else s

/-- The park leg is written and the pending park flag ends (R118; entry 20). -/
def State.writePark (s : State) (k : Nat) : State :=
  let g := s.mkLeg k .move .endPos none none false ((s.crane k).pos.getD (s.crane k).endPoint)
  s.updCrane k (fun c => { c with parkLeg := some g, pendingPark := false })

/-- The crane goes to PARKING, and its park leg is sent when it may be (R118). -/
def State.startPark (s : State) (k : Nat) : State := (((s.writePark k).enter k .parking .park).goOn k)

/-- A crane record with an empty plan. -/
def Crane.planless (c : Crane) : Crane :=
  { c with plan := [], cycle := none, estimate := 0, roomWait := false, request := none }

/-- The cycle ends with an empty plan (R59, R105): pending values are applied, then PARKING or READY. -/
def State.endCycle (s : State) (k : Nat) : State :=
  let s := (s.updCrane k Crane.planless).applyPending k
  if (s.crane k).pendingPark then s.startPark k else s.enter k .ready .cycleEnd

/-- A BUSY channel goes on with its plan, or ends its cycle when the plan is empty (R105, R106, R45). -/
def State.continueCrane (s : State) (k : Nat) : State :=
  if (s.crane k).chan = .busy then (if (s.crane k).plan.isEmpty then s.endCycle k else s.goOn k) else s

end Sys2Proof.Machine
end

