-- ==== Sys2Proof/Machine/Stations.lean ====
section
/-! DEFINITION. The station unit: outfeed counts (R139), destination reservations given back, the group table (R141 to
R146) and the release of holds (R151). -/

namespace Sys2Proof.Machine

/-- The crane whose outfeed PUT waits for room at station `n` (R109, R139). -/
def State.roomWaiter (s : State) (n : Nat) : Option Nat :=
  craneNumbers.find? fun k =>
    (s.crane k).roomWait &&
      match (s.crane k).plan.head? with
      | some g => g.target == .station n
      | none => false

/-- A fall of occupancy or pending tests the PUT that waits for room at the station (R109, R139). -/
def State.retryPut (s : State) (n : Nat) : State :=
  match s.station n, s.roomWaiter n with
  | some t, some k => if t.hasRoom then (s.updCrane k (fun c => { c with roomWait := false })).goOn k else s
  | _, _ => s

/-- A delivery to an outfeed is released: pending falls by one, a trigger (R45, R46, R139). -/
def State.lowerPend (s : State) (n : Nat) : State :=
  (s.updStation n (fun t => { t with pend := t.pend - 1 })).trigger.retryPut n

/-- A PUT is done at an outfeed: pending falls by one and occupancy rises by one (R104, R139). -/
def State.deliver (s : State) (n : Nat) : State :=
  (s.updStation n (fun t => { t with pend := t.pend - 1, occ := t.occ + 1 })).trigger.retryPut n

/-- A PUT found the lane full (R109). -/
def Station.corrected (t : Station) : Station := { t with occ := t.capacity - t.pend }

/-- Job `n`'s destination reservation is released (R44, R46): an INBOUND location becomes EMPTY, a trigger; a pending
delivery falls. -/
def State.freeDest (s : State) (n : Nat) : State :=
  match s.job n with
  | none => s
  | some j =>
    match j.dstRes with
    | none => s
    | some r =>
      let s := s.updJob n (fun j => { j with dstRes := none })
      match r.kind, j.dest with
      | .delivery, _ => s.lowerPend j.station
      | .location, some l => (s.occupy l .empty none).trigger
      | .location, none => s

/-! ## Groups -/

/-- `d` goes on rising through the settled set (R143). -/
def advance : Nat → List Nat → Nat × List Nat
  | d, [] => (d, [])
  | d, q :: t => if q = d then advance (d + 1) t else (d, q :: t)

/-- A group as position `p` is settled (R143). -/
def Group.settle (g : Group) (p : Nat) : Group :=
  let held := g.held.filter (fun e => e.1 != p)
  if p = g.d then { g with held := held, d := (advance (g.d + 1) g.settled).1, settled := (advance (g.d + 1) g.settled).2 }
  else if g.d < p then { g with held := held, settled := setPut p g.settled }
  else { g with held := held }

/-- The crane held for a position of a group (R151). -/
def State.heldCrane (s : State) (gid p : Nat) : Option Nat :=
  (s.holds.find? (fun e => e.2.group == gid && e.2.position == p)).map Prod.fst

/-- The raise of `d` releases the hold that waits for it, and its PUT is sent (R151). -/
def State.releaseHold (s : State) (gid d : Nat) : State :=
  match s.heldCrane gid d with
  | none => s
  | some k => { s with holds := tableDrop k s.holds }.goOn k

def State.group (s : State) (gid : Nat) : Option Group := tableGet gid s.groups

/-- Position `p` of a group is settled, delivered or skipped (R143): a trigger, and only the final `d` is looked for
in the hold list (R151). -/
def State.settle (s : State) (gid p : Nat) : State :=
  match s.group gid with
  | none => s
  | some g =>
    let s := { s with groups := tablePut gid (g.settle p) s.groups }.trigger
    if g.d < (g.settle p).d then s.releaseHold gid (g.settle p).d else s

/-- A CLOSING group whose position map is empty is removed (R145). -/
def State.removeClosed (s : State) (gid : Nat) : State :=
  match s.group gid with
  | none => s
  | some g => if g.status = .closing ∧ g.held = [] then { s with groups := tableDrop gid s.groups } else s

end Sys2Proof.Machine
end

