-- ==== Sys2Proof/Machine/Pool.lean ====
section
/-! DEFINITION. The job pool: readiness (R37), re-examination (R38), relocations (R40, R42), the return to READY (R46)
and leaving the pool (R47). -/

namespace Sys2Proof.Machine

/-- How a job leaves the pool (R28, R47). -/
inductive JobEnd where
  | done (late : Bool)
  | failed (reason : FailReason)
  | cancelled
  deriving DecidableEq, Repr

/-! ## Infeed queues (R32, R33) -/

/-- The head of a queue becomes READY, a trigger (R33). -/
def State.readyHead (s : State) (queue : List Nat) : State :=
  match queue with
  | [] => s
  | n :: _ => (s.updJob n (fun j => { j with state := .ready })).trigger

/-- Job `n` leaves the queue of station `st` (R33): when it was the head, the next job becomes READY. -/
def State.leaveQueue (s : State) (st n : Nat) : State :=
  match s.station st with
  | none => s
  | some t =>
    if t.queue.contains n then
      let s' := s.updStation st (fun t => { t with queue := t.queue.filter (fun m => m != n) })
      if t.queue.head? = some n then s'.readyHead (t.queue.filter (fun m => m != n)) else s'
    else s

/-! ## Leaving the pool -/

/-- The report a leaving job makes (R47). A cancel makes none. -/
def Job.endReport (j : Job) (o : JobEnd) (outOfSequence : Bool) : Option Report :=
  match o with
  | .done late => some (.jobDone j.num j.kind j.pallet j.crane outOfSequence late j.inspect)
  | .failed r => some (.jobFailed j.num j.kind j.pallet j.crane r)
  | .cancelled => none

/-- The job is a grouped retrieve. -/
def Job.grouped (j : Job) : Bool := j.kind == .retrieve && j.group != 0

/-- A delivery after a hold expiry with `d` still below the position is out of sequence (R152). -/
def State.outOfSequence (s : State) (j : Job) : Bool :=
  j.grouped && j.holdReleased &&
    match s.group j.group with
    | some g => decide (g.d < j.position)
    | none => false

/-- A leaving retrieve is no longer the linked job of a relocation (R41). -/
def State.unlink (s : State) (n : Nat) : State :=
  { s with pool := s.pool.map (fun r => if r.kind = .relocate ∧ r.linked = n then { r with linked := 0 } else r) }

def State.reportMaybe (s : State) : Option Report → State
  | none => s
  | some r => s.report r

/-- The effects of leaving, in the order of R47: reservations released, the position settled (R146), the record freed
with the queue place, the CLOSING group removed, the report. Every leaving is a trigger. -/
def State.leaveCore (s : State) (n : Nat) (o : JobEnd) : State :=
  match s.job n with
  | none => s
  | some j =>
    let s1 := (s.freeSource n).freeDest n
    let out := s1.outOfSequence j
    let s2 := if j.grouped then s1.settle j.group j.position else s1
    let s3 := (s2.freeJob n).unlink n
    let s4 := if j.kind = .store then s3.leaveQueue j.station n else s3
    let s5 := if j.grouped then s4.removeClosed j.group else s4
    (s5.reportMaybe (j.endReport o out)).trigger

/-! ## Readiness of a retrieve -/

def State.setWaiting (s : State) (n : Nat) (r : WaitReason) (linked : Nat) : State :=
  s.updJob n (fun j => { j with state := .waiting r, linked := linked, delay := none })

/-- A RELOCATE record before its admission number (R40). -/
def relocationJob (num linked cls pallet : Nat) (source : Loc) : Job where
  num := num
  kind := .relocate
  originator := 0
  cls := cls
  adm := 0
  pallet := pallet
  height := 0
  station := 0
  stationNamed := false
  source := some source
  dest := none
  zone := none
  group := 0
  position := 0
  delay := none
  linked := linked
  state := .ready
  bypass := 0
  crane := 0
  srcRes := none
  dstRes := none
  inspect := false
  holdReleased := false

/-- A RELOCATE job is created for retrieve `j`, READY at once, its FRONT OUTBOUND (R40). -/
def State.createRelocation (s : State) (j : Job) (front : Loc) : State :=
  let num := s.internalNumber
  let pallet := (s.loc front).pallet.getD 0
  let s := ({ s with intNext := nextInternal num }.enroll (relocationJob num j.num j.cls pallet front))
  let s := (s.reserveSource num front .admission).trigger
  (s.report (.jobCreated num .relocate pallet j.num 0 (some front) none 0)).setWaiting j.num .relocating num

/-- The source becomes OUTBOUND and the retrieve READY, a trigger (R37). -/
def State.makeReady (s : State) (n : Nat) (l : Loc) : State :=
  ((s.reserveSource n l .admission).updJob n (fun j => { j with state := .ready, linked := 0, delay := none })).trigger

/-- The FRONT before a REAR source stands in the way (R37 step 4). -/
def State.evaluateFront (s : State) (j : Job) (l : Loc) : State :=
  let front : Loc := { l with depth := .front }
  let f := s.loc front
  match f.occ with
  | .empty => s.makeReady j.num l
  | .full =>
    if f.attrs.noRelocate then s.setWaiting j.num .frontFixed 0
    else if s.internalRoom then s.createRelocation j front
    else s.setWaiting j.num .pairBusy 0
  | .unknown => s.setWaiting j.num .frontFixed 0
  | .inbound | .outbound => s.setWaiting j.num .pairBusy 0

/-- The readiness of retrieve `j` with source `l`, evaluated in the order of R37. -/
def State.evaluateAt (s : State) (j : Job) (l : Loc) : State :=
  match s.relocationOf j.pallet with
  | some r => s.setWaiting j.num .relocating r.num
  | none =>
    if (s.loc l).occ ≠ .full ∨ (s.loc l).pallet ≠ some j.pallet then s.leaveCore j.num (.failed .conflict)
    else if (s.loc l).attrs.noRetrieve then s.setWaiting j.num .blockedOut 0
    else if s.pairBusy l then s.setWaiting j.num .pairBusy 0
    else if l.depth = .rear then s.evaluateFront j l
    else s.makeReady j.num l

/-- The readiness of job `n` is evaluated (R37). -/
def State.evaluate (s : State) (n : Nat) : State :=
  match s.job n with
  | none => s
  | some j =>
    match j.source with
    | none => s
    | some l => s.evaluateAt j l

/-! ## Re-examination (R38) -/

/-- The waiting reasons that re-examination takes up; the others are passed over (R38). -/
def JobState.reexamined : JobState → Bool
  | .waiting .pairBusy | .waiting .frontFixed | .waiting .blockedOut => true
  | .waiting .notYet | .waiting .queued | .waiting .relocating => false
  | .ready | .assigned | .active | .carried | .uncertain _ => false

/-- A job is concerned by what an event has touched. -/
def Work.concerns (w : Work) (j : Job) : Bool :=
  j.kind == .retrieve && j.state.reexamined &&
    ((w.allBusy && j.state == .waiting .pairBusy) ||
      match j.source with
      | some l => w.pairs.contains (pairKey l)
      | none => false)

/-- Job `n` is evaluated if it still waits for a reason that re-examination takes up. -/
def State.reevaluate (s : State) (n : Nat) : State :=
  match s.job n with
  | some j => if j.state.reexamined then s.evaluate n else s
  | none => s

def Work.isEmpty (w : Work) : Bool := w.pairs.isEmpty && !w.allBusy

/-- Nothing is left to re-examine. -/
def State.clearWork (s : State) : State := { s with work := { pairs := [], allBusy := false } }

/-- Rounds of re-examination, each taking the jobs the round before touched, oldest first (R38). A round that touches
anything has moved a waiting job on, so the pool's length bounds the rounds. -/
def State.reexamineRun : Nat → State → State
  | 0, s => s.clearWork
  | n + 1, s =>
    if s.work.isEmpty then s
    else State.reexamineRun n (((s.pool.filter s.work.concerns).map Job.num).foldl State.reevaluate s.clearWork)

/-- The re-examinations an event owes are completed within it (R38; entry 6). -/
def State.reexamine (s : State) : State := State.reexamineRun (s.pool.length + 8) s

/-! ## Relocations and their retrieves (R42) -/

/-- A retrieve waits on this relocation. -/
def Job.waitsOn (j : Job) (m : Nat) : Bool :=
  j.kind == .retrieve && j.state == .waiting .relocating && j.linked == m

/-- The retrieves RELOCATING on job `m` are evaluated in admission order, their linked job cleared first (R42). -/
def State.evaluateLinked (s : State) (m : Nat) : State :=
  ((s.pool.filter (fun j => j.waitsOn m)).map Job.num).foldl
    (fun s n => (s.updJob n (fun j => { j with linked := 0 })).evaluate n) s

/-- A job leaves the pool (R47). When it is internal, its retrieves are evaluated (R42) and every PAIR_BUSY retrieve
is to be re-examined (R38). -/
def State.leave (s : State) (n : Nat) (o : JobEnd) : State :=
  match s.job n with
  | none => s
  | some j =>
    if j.kind.isHost then s.leaveCore n o
    else
      let s := (s.leaveCore n o).evaluateLinked n
      { s with work := { s.work with allBusy := true } }

/-! ## Legs of a job taken out of a plan (R45, R106, R112) -/

/-- A leg without its job: it ends with a position alone (R112). -/
def Leg.stripped (g : Leg) : Leg := { g with job := none, pallet := none, approach := false }

/-- A crane record without job `n`'s legs. An outstanding leg stays without its job; a waiting request or a wait for
room ends with the leg it belongs to. What is left of a plan keeps its cycle kind and its cycle estimate (entry 42). -/
def Crane.without (c : Crane) (n : Nat) : Crane :=
  match c.plan with
  | [] => c
  | g :: t =>
    if g.job = some n then
      if c.curLeg ≠ 0 then { c with plan := g.stripped :: t.filter (fun g => g.job != some n) }
      else { c with plan := t.filter (fun g => g.job != some n), request := none, roomWait := false }
    else { c with plan := g :: t.filter (fun g => g.job != some n) }

/-- Job `n`'s legs leave the plan of crane `k`, and a hold of the job ends with no PUT sent (R45, R112). -/
def State.removeLegs (s : State) (k n : Nat) : State :=
  { s.updCrane k (fun c => c.without n) with holds := s.holds.filter (fun e => e.2.job != n) }

/-! ## The return to READY (R46) -/

/-- A destination reservation taken at assignment. -/
def Job.assignedDest (j : Job) : Bool :=
  match j.dstRes with
  | some r => r.origin == .assignment
  | none => false

/-- A job record as it returns to READY: it gives up what it received at assignment and keeps the rest (R46). `gave`
says that its destination was received at assignment. -/
def Job.returned (gave : Bool) (j : Job) : Job :=
  { j with
    state := .ready
    crane := if j.kind = .recover then j.crane else 0
    dest := if gave then none else j.dest
    station := if j.kind = .retrieve ∧ j.stationNamed = false then 0 else j.station }

/-- Job `n` returns to READY, a trigger (R46). -/
def State.returnReady (s : State) (n : Nat) : State :=
  match s.job n with
  | none => s
  | some j => ((if j.assignedDest then s.freeDest n else s).updJob n (Job.returned j.assignedDest)).trigger

end Sys2Proof.Machine
end

