-- ==== Sys2Proof/Machine/Choice.lean ====
section
/-! DEFINITION. The choice of a destination (R78, R79, R80) and of an outfeed (R81). -/

namespace Sys2Proof.Machine

/-- The best element of a list; the earlier one where neither is better. -/
def bestOf {α : Type} (better : α → α → Bool) : List α → Option α
  | [] => none
  | a :: t =>
    match bestOf better t with
    | none => some a
    | some b => if better b a then some b else some a

/-- What a destination choice is made for (R78, R79, R80). `clears` is the pair a relocation clears. -/
structure DestWish where
  aisle : Nat
  zone : Filter
  height : Nat
  clears : Option Loc
  start : Point
  deriving DecidableEq, Repr

/-- A location does not lie in the pair that the relocation clears (R80). -/
def DestWish.outside (w : DestWish) (l : Loc) : Bool :=
  match w.clears with
  | some c => pairKey c != pairKey l
  | none => true

/-- The FRONT and REAR tests of R78. A SINGLE aisle's missing REAR reads UNKNOWN, so its FRONT test holds. -/
def State.depthFits (s : State) (l : Loc) : Bool :=
  match l.depth with
  | .front => (s.loc { l with depth := .rear }).occ != .empty
  | .rear => (s.loc { l with depth := .front }).occ == .empty

/-- A location is eligible as a destination for crane `k` (R78). -/
def State.eligible (s : State) (k : Nat) (w : DestWish) (l : Loc) : Bool :=
  l.aisle == w.aisle && w.zone.hits (locCode l) && s.inReach k l && s.inRange k (s.locPoint l).x &&
    (s.loc l).occ == .empty && !s.pairBusy l && !(s.loc l).attrs.noStore && !(s.loc l).attrs.inspect &&
    decide (w.height ≤ (s.loc l).height) && s.depthFits l && w.outside l

/-- The leg estimate of a PUT at a location (R79). -/
def State.putEstimate (s : State) (k : Nat) (start : Point) (l : Loc) : Nat :=
  (s.crane k).legEstimate .put (l.depth == .rear) start (s.locPoint l)

/-- The order of locations with equal estimates (R79): column, level, LEFT before RIGHT, REAR before FRONT. -/
def locRank (l : Loc) : Nat := (l.column * 64 + l.level) * 4 + l.side.code * 2 + (1 - l.depth.code)

/-- One location comes before another as a destination (R79). -/
def State.putBefore (s : State) (k : Nat) (start : Point) (l m : Loc) : Bool :=
  decide (s.putEstimate k start l < s.putEstimate k start m) ||
    (s.putEstimate k start l == s.putEstimate k start m && decide (locRank l < locRank m))

/-- The locations of an aisle that the table lists; every EMPTY location is among them. -/
def State.listedLocs (s : State) (n : Nat) : List Loc :=
  (s.locs.map (fun e => keyLoc e.1)).filter (fun l => l.aisle == n)

/-- The destination chosen for crane `k` (R78, R79). -/
def State.chooseDest (s : State) (k : Nat) (w : DestWish) : Option Loc :=
  bestOf (s.putBefore k w.start) ((s.listedLocs w.aisle).filter (s.eligible k w))

/-- An outfeed that crane `k` can use for an aisle's retrieve (R75, R81). -/
def State.usableOutfeed (s : State) (k aisle : Nat) (t : Station) : Bool :=
  t.kind == .outfeed && t.aisle == aisle && s.serves k t && s.inRange k t.point.x && t.hasRoom

/-- The outfeed chosen for a retrieve that named station 0 (R81): the least T, then the lower number. -/
def State.chooseOutfeed (s : State) (k : Nat) (l : Loc) : Option Nat :=
  (bestOf (fun (e f : Nat × Station) =>
      decide ((s.crane k).travel (s.locPoint l) e.2.point < (s.crane k).travel (s.locPoint l) f.2.point) ||
        ((s.crane k).travel (s.locPoint l) e.2.point == (s.crane k).travel (s.locPoint l) f.2.point && decide (e.1 < f.1)))
    (s.stations.filter (fun e => s.usableOutfeed k l.aisle e.2))).map Prod.fst

end Sys2Proof.Machine
end

