-- ==== Sys2Proof/Machine/Engine.lean ====
section
/-! DEFINITION. The dispatch engine (chapter 04): candidates, selection, pairing, assignment, passes, and the end of an
event. -/

namespace Sys2Proof.Machine

/-- What a selection records of a candidate (R77). -/
structure Candidate where
  job : Job
  dest : Option Loc
  outfeed : Nat
  legs : List LegSpec
  score : Nat
  deriving DecidableEq, Repr

/-! ## The legs of a job (R60, R87) -/

def fetchSpec (j : Job) (t : Target) : LegSpec := { kind := .fetch, target := t, job := j.num, pallet := j.pallet, approach := false }
def putSpec (j : Job) (t : Target) : LegSpec := { kind := .put, target := t, job := j.num, pallet := j.pallet, approach := false }
def approachSpec (j : Job) (t : Target) : LegSpec := { kind := .move, target := t, job := j.num, pallet := j.pallet, approach := true }

def storeLegs (j : Job) (l : Loc) : List LegSpec := [fetchSpec j (.station j.station), putSpec j (.location l)]

def retrieveLegs (j : Job) (source : Loc) (outfeed : Nat) : List LegSpec :=
  if j.grouped then
    [fetchSpec j (.location source), approachSpec j (.station outfeed), putSpec j (.station outfeed)]
  else [fetchSpec j (.location source), putSpec j (.station outfeed)]

def relocateLegs (j : Job) (source dest : Loc) : List LegSpec := [fetchSpec j (.location source), putSpec j (.location dest)]

/-- A RECOVER job's destination: a location, or its outfeed (R24). -/
def Job.recoverTarget (j : Job) : Target :=
  match j.dest with
  | some l => .location l
  | none => .station j.station

def recoverLegs (j : Job) : List LegSpec := [putSpec j j.recoverTarget]

/-- The start point of crane `k`'s estimates: its recorded position (R54). -/
def State.startPoint (s : State) (k : Nat) : Point := (s.crane k).pos.getD { x := 0, y := 0 }

/-- A candidate with its score: the single-cycle estimate plus the class offset (R60). -/
def State.candidateOf (s : State) (k : Nat) (j : Job) (dest : Option Loc) (outfeed : Nat) (legs : List LegSpec) : Candidate where
  job := j
  dest := dest
  outfeed := outfeed
  legs := legs
  score := planEstimate (s.mkPlan k (s.startPoint k) legs) + s.policy.offset j.cls

/-! ## Candidate tests -/

/-- The crane's aisle, 0 for a crane not configured. -/
def Crane.aisleNo (c : Crane) : Nat :=
  match c.cfg with
  | some g => g.aisle
  | none => 0

/-- A location of crane `k`'s aisle within its reach and range (R72). -/
def State.canUse (s : State) (k : Nat) (l : Loc) : Bool :=
  l.aisle == (s.crane k).aisleNo && s.inReach k l && s.inRange k (s.locPoint l).x

/-- A STORE as a candidate (R74). -/
def State.storeCandidate (s : State) (k : Nat) (j : Job) : Option Candidate :=
  match s.station j.station with
  | none => none
  | some t =>
    if s.serves k t && s.inRange k t.point.x then
      let dest := match j.zone with
        | some z => s.chooseDest k { aisle := t.aisle, zone := z, height := j.height, clears := none, start := t.point }
        | none => j.dest.filter (s.canUse k)
      dest.map (fun l => s.candidateOf k j (some l) 0 (storeLegs j l))
    else none

/-- A position is settled or under way to another outfeed (R148). -/
def State.positionClear (s : State) (g : Group) (outfeed q : Nat) : Bool :=
  g.settled.contains q ||
    match tableGet q g.held with
    | none => false
    | some n =>
      match s.job n with
      | none => false
      | some j =>
        match j.state with
        | .assigned | .active | .carried | .uncertain _ => j.station != outfeed
        | .waiting _ | .ready => false

/-- The dispatch condition of a grouped retrieve with this outfeed (R148). -/
def State.dispatchCondition (s : State) (j : Job) (outfeed : Nat) : Bool :=
  match s.group j.group with
  | none => false
  | some g =>
    decide (j.position < g.d + s.policy.window) &&
      (List.range (j.position - g.d)).all (fun i => s.positionClear g outfeed (g.d + i))

/-- The outfeed a retrieve would use now (R75): its named station with room, or the choice of R81. -/
def State.retrieveOutfeed (s : State) (k : Nat) (j : Job) (source : Loc) : Option Nat :=
  if j.stationNamed then
    match s.station j.station with
    | some t => if s.usableOutfeed k source.aisle t then some j.station else none
    | none => none
  else s.chooseOutfeed k source

/-- A RETRIEVE as a candidate (R75). -/
def State.retrieveCandidate (s : State) (k : Nat) (j : Job) : Option Candidate :=
  match j.source with
  | none => none
  | some l =>
    if s.canUse k l then
      match s.retrieveOutfeed k j l with
      | none => none
      | some o =>
        if !j.grouped || s.dispatchCondition j o then some (s.candidateOf k j none o (retrieveLegs j l o)) else none
    else none

/-- What a relocation asks of its destination (R80). -/
def State.relocationWish (s : State) (source : Loc) (start : Point) : DestWish where
  aisle := source.aisle
  zone := .anywhere
  height := (s.loc source).height
  clears := some source
  start := start

/-- A RELOCATE as a candidate (R76). -/
def State.relocateCandidate (s : State) (k : Nat) (j : Job) : Option Candidate :=
  match j.source with
  | none => none
  | some l =>
    if s.canUse k l then
      (s.chooseDest k (s.relocationWish l (s.locPoint l))).map
        (fun m => s.candidateOf k j (some m) 0 (relocateLegs j l m))
    else none

/-- A RECOVER destination is within range, a location within reach too (R73). -/
def State.recoverFits (s : State) (k : Nat) (j : Job) : Bool :=
  match j.dest with
  | some l => s.canUse k l
  | none => s.inRange k (s.stationPoint j.station).x

/-- The crane carries nothing. -/
def Crane.emptyForks (c : Crane) : Bool := c.load.isNone

/-- The crane's load of record is unresolved (R96). -/
def Crane.unresolved (c : Crane) : Bool :=
  match c.load with
  | some l => !l.resolved
  | none => false

/-- Job `j` as a candidate for crane `k`, if it is one (R72 to R76). A crane with an unresolved load is offered its own
RECOVER job alone (R73). -/
def State.candidate (s : State) (k : Nat) (j : Job) : Option Candidate :=
  if j.state ≠ .ready then none
  else
    match j.kind with
    | .recover =>
      if (s.crane k).unresolved && j.crane == k && s.recoverFits k j then
        some (s.candidateOf k j j.dest j.station (recoverLegs j))
      else none
    | .store => if (s.crane k).emptyForks then s.storeCandidate k j else none
    | .retrieve => if (s.crane k).emptyForks then s.retrieveCandidate k j else none
    | .relocate => if (s.crane k).emptyForks then s.relocateCandidate k j else none

/-- The candidates of a selection. -/
def State.candidates (s : State) (k : Nat) : List Candidate := s.pool.filterMap (s.candidate k)

/-! ## Selection and pairing -/

/-- The order of candidates (R62): lower score, then older. -/
def Candidate.before (a b : Candidate) : Bool :=
  decide (a.score < b.score) || (a.score == b.score && decide (a.job.adm < b.job.adm))

/-- The saving of a store and a retrieve for crane `k` (R65). -/
def State.pairSaving (s : State) (k : Nat) (st rt : Candidate) : Nat :=
  match st.dest, rt.job.source with
  | some ls, some lr => (s.crane k).saving (s.locPoint ls) (s.locPoint lr) (s.stationPoint rt.outfeed)
  | _, _ => 0

/-- The partner kind the pairing policy offers the chosen job (R83, R84, R85). -/
def partnerKind (p : Pairing) (k : JobKind) : Option JobKind :=
  match p, k with
  | .off, _ => none
  | .storeLeads, .store => some .retrieve
  | .both, .store => some .retrieve
  | .both, .retrieve => some .store
  | .storeLeads, .retrieve => none
  | _, .relocate => none
  | _, .recover => none

/-- The saving of the chosen job with a partner, the store first. -/
def State.savingWith (s : State) (k : Nat) (chosen partner : Candidate) : Nat :=
  if chosen.job.kind = .store then s.pairSaving k chosen partner else s.pairSaving k partner chosen

/-- The partner (R84): the largest saving, then the older, if it reaches the minimum saving. -/
def State.partner (s : State) (k : Nat) (chosen : Candidate) (cands : List Candidate) : Option Candidate :=
  match partnerKind s.policy.pairing chosen.job.kind with
  | none => none
  | some kind =>
    (bestOf (fun a b =>
        decide (s.savingWith k chosen b < s.savingWith k chosen a) ||
          (s.savingWith k chosen a == s.savingWith k chosen b && decide (a.job.adm < b.job.adm)))
      (cands.filter (fun c => c.job.kind == kind))).filter
        (fun c => decide (s.policy.minSaving ≤ s.savingWith k chosen c))

/-- The candidates of a plan in plan order: in a dual cycle the store first (R87). -/
def planOrder (chosen : Candidate) : Option Candidate → List Candidate
  | none => [chosen]
  | some p => if chosen.job.kind = .store then [chosen, p] else [p, chosen]

/-- The cycle kind of a plan (R86, R87). -/
def planKind (chosen : Candidate) (partner : Option Candidate) : CycleKind :=
  match chosen.job.kind with
  | .relocate => .relocation
  | .recover => .recovery
  | .store | .retrieve => if partner.isSome then .dual else .single

/-! ## Assignment -/

/-- The reservations and stations of one job of the plan (R89). -/
def State.fixJob (s : State) (c : Candidate) : State :=
  match c.job.kind with
  | .store =>
    match c.job.zone, c.dest with
    | some _, some l => s.reserveDest c.job.num l c.job.pallet .assignment
    | _, _ => s
  | .relocate =>
    match c.dest with
    | some l => s.reserveDest c.job.num l c.job.pallet .assignment
    | none => s
  | .retrieve =>
    (s.updStation c.outfeed (fun t => { t with pend := t.pend + 1 })).updJob c.job.num
      (fun j => { j with station := c.outfeed, dstRes := some { kind := .delivery, origin := .assignment } })
  | .recover => s

/-- A job of the plan becomes ASSIGNED to crane `k` (R90). -/
def State.assignJob (s : State) (k : Nat) (c : Candidate) : State :=
  s.updJob c.job.num (fun j => { j with state := .assigned, crane := k })

/-- A promotion (R63): the class falls by one if above 0, and the count returns to 0. -/
def Job.promoted (j : Job) : Job := { j with cls := j.cls - 1, bypass := 0 }

/-- A job passed over (R63): its count rises, and at the threshold it is promoted. -/
def Job.bypassed (threshold : Nat) (j : Job) : Job :=
  if threshold ≤ j.bypass + 1 then j.promoted else { j with bypass := j.bypass + 1 }

/-- The other candidates of a selection are passed over (R63, R90). -/
def State.age (s : State) (passed : List Candidate) : State :=
  { s with pool := s.pool.map (fun j => if passed.any (fun c => c.job.num == j.num) then j.bypassed s.policy.aging else j) }

/-- JOB_ASSIGNED of one job of the plan (R90). -/
def assignedReport (k saving estimate : Nat) (partner : Nat) (c : Candidate) : Report :=
  .jobAssigned c.job.num k partner c.dest (if c.dest.isSome then 0 else c.outfeed) c.score saving estimate

/-- The partner's job number in a plan, or 0. -/
def partnerNumber (cs : List Candidate) (c : Candidate) : Nat :=
  match cs.find? (fun d => d.job.num != c.job.num) with
  | some d => d.job.num
  | none => 0

/-- A selection that has chosen assigns (R89, R90), its re-examinations within it. -/
def State.assign (s : State) (k : Nat) (chosen : Candidate) (partner : Option Candidate) (cands : List Candidate) : State :=
  let cs := planOrder chosen partner
  let saving := match partner with
    | some p => s.savingWith k chosen p
    | none => 0
  let legs := s.mkPlan k (s.startPoint k) (cs.flatMap Candidate.legs)
  let estimate := planEstimate legs
  let s := cs.foldl State.fixJob s
  let s := cs.foldl (fun s c => s.assignJob k c) s
  let s := s.updCrane k (fun c => { c with plan := legs, cycle := some (planKind chosen partner), estimate := estimate })
  let s := s.age (cands.filter (fun c => cs.all (fun d => d.job.num != c.job.num)))
  let s := cs.foldl (fun s c => s.report (assignedReport k saving estimate (partnerNumber cs c) c)) s
  (s.chanTo k .busy .assigned).reexamine

/-- The selection for crane `k` (R82): whether it assigned a plan, and the state after it. -/
def State.select (s : State) (k : Nat) : State × Bool :=
  let cands := s.candidates k
  match bestOf Candidate.before cands with
  | none => (s, false)
  | some chosen =>
    (s.assign k chosen (s.partner k chosen (cands.filter (fun c => c.job.num != chosen.job.num))) cands, true)

/-! ## Passes -/

/-- A crane of the pass is given a selection (R70). -/
def State.selectable (s : State) (k : Nat) : Bool :=
  s.mode.run == .run && (s.crane k).chan == .ready && s.mode.active.contains (s.crane k).aisleNo && (s.crane k).pos.isSome

/-- A due pass starts: it is no longer due, and visits the cranes of the ready order as it stands (R68, R70). -/
def State.startPass (s : State) : State := { s with passDue := false, passRun := some { toVisit := s.readyOrder, assigned := [] } }

/-- Crane `k` has been assigned a plan by the running pass. -/
def State.passAssigned (s : State) (k : Nat) : State :=
  { s with passRun := s.passRun.map (fun p => { p with assigned := p.assigned ++ [k] }) }

/-- The running pass visits crane `k`: a selection where it is given one, nothing else (R70). -/
def State.visit (s : State) (k : Nat) : State :=
  if s.selectable k then
    let r := s.select k
    if r.2 then r.1.passAssigned k else r.1
  else s

/-- The pass ends: the plans it has assigned start their first legs in the order of assignment (R91). -/
def State.endPass (s : State) (p : Pass) : State := p.assigned.foldl State.goOn { s with passRun := none }

/-- The pass ends when it has visited the last crane of its list (R70). -/
def State.closePass (s : State) : State :=
  match s.passRun with
  | some p => if p.toVisit.isEmpty then s.endPass p else s
  | none => s

/-- A running pass goes on by one crane (R70, R71). -/
def State.advancePass (s : State) (p : Pass) : State :=
  match p.toVisit with
  | [] => s
  | k :: rest => { s with passRun := some { p with toVisit := rest } }.visit k

/-- What the dispatch engine does between two events: a running pass makes its next selection, else a due pass starts
(R68, R70). Another event may come before each of the two (R71; entry 40). -/
def State.dispatch (s : State) : State :=
  (match s.passRun with
    | some p => s.advancePass p
    | none => s.startPass).closePass.reexamine

/-- The dispatch engine has something to do: a pass runs, or is due in RUN (R68). -/
def State.dispatches (s : State) : Bool := s.passRun.isSome || (s.passDue && s.mode.run == .run)

/-- The end of an event: its re-examinations (R38). The pass it made due starts behind it (R68). -/
def State.finish (s : State) : State := s.reexamine

end Sys2Proof.Machine
end

