-- ==== Sys2Proof/Machine/Channel.lean ====
section
/-! DEFINITION. The crane channels: the ends of legs (R103 to R109), broken plans (R110), the resolution of UNCERTAIN
jobs (R111) and the load of record (R112, R113). A reported load is a number, 0 for none (R188). -/

namespace Sys2Proof.Machine

/-- STOP goes out on a crane port (R93). -/
def State.stopCrane (s : State) (k : Nat) : State := s.portSend k (stopTelegram k)

/-- A valid telegram: the bad telegram count returns to 0 and the silence timer restarts (R92, R94). -/
def State.hear (s : State) (k : Nat) : State := s.updCrane k (fun c => { c with bad := 0, silence := 0 })

/-- The first valid telegram from OFFLINE takes the channel to LISTEN (R98). -/
def State.heard (s : State) (k : Nat) : State :=
  if (s.crane k).chan = .offline then s.enter k .listen .heard else s

/-- The crane's load of record becomes unresolved, with its report (R113). -/
def State.unresolve (s : State) (k pallet : Nat) : State :=
  (s.updCrane k (fun c => { c with load := some { id := pallet, resolved := false } })).report
    (.loadUnresolved k pallet (s.crane k).pos)

/-- The load of record becomes none. -/
def State.dropLoad (s : State) (k : Nat) : State := s.updCrane k (fun c => { c with load := none })

/-- Job `n`'s source reservation ends as its location becomes EMPTY or UNKNOWN (R103, R106, R107). -/
def State.endSource (s : State) (n : Nat) (l : Loc) (occ : Occupancy) : State :=
  let s := (s.occupy l occ none).updJob n (fun j => { j with srcRes := none })
  if occ = .empty then s.trigger else s

/-- Job `n`'s destination reservation ends as its location becomes FULL or UNKNOWN (R104, R108). -/
def State.endDest (s : State) (n : Nat) (l : Loc) (occ : Occupancy) (pallet : Option Nat) : State :=
  (s.occupy l occ pallet).updJob n (fun j => { j with dstRes := none })

/-- A retrieve of a relocated pallet takes the relocation's destination as its source (R39). -/
def State.followPallet (s : State) (pallet : Nat) (l : Loc) : State :=
  { s with pool := s.pool.map (fun j => if j.kind = .retrieve ∧ j.pallet = pallet then { j with source := some l } else j) }

/-- The job of a leg, if it has one in the pool. -/
def State.legJob (s : State) (g : Leg) : Option Job :=
  match g.job with
  | none => none
  | some n => s.job n

/-! ## A put counts as made (R104, R111) -/

/-- The pallet of job `j` stands at its destination: the location FULL, or the delivery counted; the forks empty; the
job leaves as DONE. -/
def State.putMade (s : State) (k : Nat) (j : Job) (late : Bool) : State :=
  let s :=
    match j.dstRes with
    | some r =>
      match r.kind, j.dest with
      | .location, some l =>
        let s := s.endDest j.num l .full (some j.pallet)
        if j.kind = JobKind.relocate then s.followPallet j.pallet l else s
      | .location, none => s
      | .delivery, _ => (s.updJob j.num (fun j => { j with dstRes := none })).deliver j.station
    | none => s
  (s.dropLoad k).leave j.num (.done late)

/-! ## Resolution of a leg whose outcome was not known (R111) -/

/-- The outcome of a leg of job `j` on crane `k`, from the reported load (R111). -/
def State.resolveLeg (s : State) (k : Nat) (j : Job) (kind : LegKind) (load : Nat) : State :=
  match kind with
  | .fetch =>
    if load = j.pallet then
      let s :=
        match j.source with
        | some l => s.endSource j.num l .empty
        | none => s
      (s.leave j.num (.failed .interrupted)).unresolve k j.pallet
    else s.returnReady j.num
  | .put =>
    if load = j.pallet then (s.leave j.num (.failed .interrupted)).unresolve k j.pallet
    else s.putMade k j true
  | .move => s

/-- The crane's UNCERTAIN job is resolved by a reported load (R111). -/
def State.resolveUncertain (s : State) (k load : Nat) : State :=
  match s.uncertainJob k with
  | none => s
  | some j =>
    match j.state with
    | .uncertain kind => s.resolveLeg k j kind load
    | .waiting _ | .ready | .assigned | .active | .carried => s

/-! ## Broken plans (R110) -/

/-- What a break makes of one job of the plan (R110). `leg` is the kind of the job's outstanding FETCH or PUT; `info`
is the load the breaking event carries. The load of a RECOVER job that becomes UNCERTAIN stays unresolved (entry 44). -/
def State.breakJob (s : State) (k n : Nat) (leg : Option LegKind) (info : Option Nat) : State :=
  match s.job n with
  | none => s
  | some j =>
    match j.state with
    | .assigned => s.returnReady n
    | .active | .carried =>
      match leg with
      | some kind =>
        match info with
        | some load => s.resolveLeg k j kind load
        | none => s.updJob n (fun j => { j with state := .uncertain kind })
      | none => (s.leave n (.failed .interrupted)).unresolve k j.pallet
    | .waiting _ | .ready | .uncertain _ => s

/-- The outstanding leg of a plan that belongs to job `n`, if it is a FETCH or a PUT. -/
def Crane.outstandingOf (c : Crane) (n : Nat) : Option LegKind :=
  match c.plan with
  | [] => none
  | g :: _ => if c.curLeg ≠ 0 ∧ g.job = some n ∧ g.kind ≠ .move then some g.kind else none

/-- A crane record as its plan breaks: timers stopped, request withdrawn, plan empty, no current leg (R110). -/
def Crane.broken (c : Crane) : Crane :=
  { c with
    plan := [], cycle := none, estimate := 0, curLeg := 0, legEst := 0, takenTimer := none, legTimer := none
    roomWait := false, request := none, pendingPark := false }

/-- The plan of crane `k` is broken (R110, R153): its hold is dropped, each job is treated in plan order, and the
pending values are applied. -/
def State.breakPlan (s : State) (k : Nat) (info : Option Nat) : State :=
  let c := s.crane k
  let s := { s.updCrane k Crane.broken with holds := tableDrop k s.holds }
  ((c.plan.filterMap Leg.job).foldl (fun s n => s.breakJob k n (c.outstandingOf n) info) s).applyPending k

/-- A crane record as its park leg is dropped and its hold timer stops (R98, R100, R120). -/
def Crane.unparked (c : Crane) : Crane :=
  { c with
    parkLeg := none, parkHold := none, takenTimer := none, legTimer := none, curLeg := 0, legEst := 0, request := none }

def State.dropPark (s : State) (k : Nat) : State := s.updCrane k Crane.unparked

/-- The channel stops what it runs: a BUSY channel's plan breaks, a PARKING channel's park leg is dropped. -/
def State.haltCrane (s : State) (k : Nat) (info : Option Nat) : State :=
  match (s.crane k).chan with
  | .busy => s.breakPlan k info
  | .parking => s.dropPark k
  | .offline | .listen | .ready | .parked | .fault | .manual => s

/-- The channel is in FAULT with this reason. -/
def Crane.faulted (c : Crane) (r : FaultReason) : Bool := c.chan == .fault && c.lastFault == some r

/-- The channel enters FAULT (R98): STOP goes out where a leg is outstanding, but for a leg that a FAILED has ended
(entry 7); the plan is broken. A channel already in FAULT for this reason stays as it is (entry 10). -/
def State.enterFault (s : State) (k : Nat) (r : FaultReason) (info : Option Nat) : State :=
  if (s.crane k).faulted r then s
  else
    let s := if (s.crane k).curLeg ≠ 0 ∧ r ≠ .drive then s.stopCrane k else s
    (s.haltCrane k info).enter k .fault (.fault r)

/-! ## The load of record (R112) -/

/-- Another crane's load of record is this pallet. -/
def State.heldElsewhere (s : State) (k pallet : Nat) : Bool :=
  craneNumbers.any fun j =>
    j != k &&
      match (s.crane j).load with
      | some l => l.id == pallet
      | none => false

/-- A job of crane `k` that the dropped pallet `id` was carried or recovered for (R112). -/
def Job.carries (j : Job) (k id : Nat) : Bool :=
  j.crane == k && j.pallet == id && (j.kind == .recover || j.state == .carried)

/-- A job leaves the pool while a crane may still hold its legs, and that crane goes on without them (R112). -/
def State.strip (s : State) (j : Job) (r : FailReason) : State :=
  ((s.removeLegs j.crane j.num).leave j.num (.failed r)).continueCrane j.crane

/-- The recorded pallet is not reported: it is dropped, and its job leaves as FAILED(INTERRUPTED) (R112). The crane
itself goes on when its telegram has been handled. -/
def State.dropRecorded (s : State) (k id : Nat) : State :=
  let s := s.dropLoad k
  match s.pool.find? (fun j => j.carries k id) with
  | none => s
  | some j => (s.removeLegs k j.num).leave j.num (.failed .interrupted)

/-- The location is FULL or OUTBOUND with this pallet (R8). -/
def LocRec.stands (r : LocRec) (id : Nat) : Bool := (r.occ == .full || r.occ == .outbound) && r.pallet == some id

/-- The FULL or OUTBOUND location that holds a pallet, if any (R8). -/
def State.findPallet (s : State) (id : Nat) : Option Loc := (s.locs.find? (fun e => e.2.stands id)).map (fun e => keyLoc e.1)

/-- The job whose source reservation a location carries. -/
def State.sourceHolder (s : State) (l : Loc) : Option Job :=
  s.pool.find? (fun j => j.srcRes.isSome && j.source == some l)

/-- A job stripped of its pallet by crane `k`'s report; another crane that held its legs goes on at once, crane `k`
when its telegram has been handled. -/
def State.stripFor (s : State) (k : Nat) (j : Job) : State :=
  if j.crane = k ∨ j.crane = 0 then (s.removeLegs j.crane j.num).leave j.num (.failed .conflict) else s.strip j .conflict

/-- A location that held the pallet crane `k` reports becomes UNKNOWN, and the job that held it leaves (R112). -/
def State.stripLocation (s : State) (k id : Nat) : State :=
  match s.findPallet id with
  | none => s
  | some l =>
    let holder := s.sourceHolder l
    let s := (s.occupy l .unknown none).report (.locationConflict k l id .foreignLoad)
    match holder with
    | none => s
    | some j => (s.updJob j.num (fun j => { j with srcRes := none })).stripFor k j

/-- A STORE job that waits for the pallet crane `k` reports leaves (R112). -/
def State.stripStore (s : State) (k id : Nat) : State :=
  match s.pool.find? (fun j => j.storeHolds && j.pallet == id) with
  | none => s
  | some j => s.stripFor k j

/-- A reported pallet that is not recorded becomes the crane's load, unresolved, and every other holder is stripped of
it (R112). -/
def State.acceptForeign (s : State) (k id : Nat) : State :=
  let s := s.updCrane k (fun c => { c with load := some { id := id, resolved := false } })
  ((s.stripLocation k id).stripStore k id).unresolve k id

/-- The recorded pallet, 0 for none. -/
def Crane.loadId (c : Crane) : Nat :=
  match c.load with
  | some l => l.id
  | none => 0

/-- The reported load is compared with the load of record (R112). FAULT(DOUBLE_LOAD) breaks the plan of a BUSY channel as
every other FAULT does (R98, R110; entry 43). -/
def State.compareLoad (s : State) (k load : Nat) : State :=
  let record := (s.crane k).loadId
  if record = load then s
  else if load ≠ 0 ∧ s.heldElsewhere k load then s.enterFault k .doubleLoad none
  else
    let s := if record ≠ 0 then s.dropRecorded k record else s
    if load ≠ 0 then s.acceptForeign k load else s

/-! ## Ends of legs -/

/-- A crane record as its outstanding leg ends: timers stop, the leg is removed, no leg is current (R102, R105). -/
def Crane.legEnded (c : Crane) : Crane :=
  let c := { c with takenTimer := none, legTimer := none, curLeg := 0, legEst := 0 }
  if c.chan = .parking then { c with parkLeg := none } else { c with plan := c.plan.tail }

/-- The outstanding leg: the head of the plan, or the park leg. -/
def Crane.outstandingLeg (c : Crane) : Option Leg := if c.curLeg = 0 then none else c.nextLeg

/-- The fetched job is CARRIED, and its pallet is the load of record, resolved (R103). -/
def State.carry (s : State) (k : Nat) (j : Job) (inspect : Bool) : State :=
  (s.updJob j.num (fun j => { j with state := .carried, inspect := inspect })).updCrane k
    (fun c => { c with load := some { id := j.pallet, resolved := true } })

/-- A FETCH is done (R103). -/
def State.fetchDone (s : State) (k : Nat) (j : Job) (t : Target) : State :=
  match t with
  | .location l =>
    let inspect := (s.loc l).attrs.inspect
    let s := s.endSource j.num l .empty
    let s := if j.kind = JobKind.relocate then s.evaluateLinked j.num else s
    s.carry k j inspect
  | .station n => (s.leaveQueue n j.num).carry k j j.inspect
  | .endPos => s

/-- The station unit's sequence check at the end of an approach MOVE (R150): below its turn, the crane is held. -/
def State.sequenceCheck (s : State) (k : Nat) (j : Job) : State :=
  match s.group j.group with
  | none => s
  | some g =>
    if g.d < j.position then
      let h : Hold :=
        { job := j.num, group := j.group, position := j.position, outfeed := j.station, timer := s.policy.holdTime * 1000 }
      { s with holds := tablePut k h s.holds }.report (.sequenceHold k j.num j.group j.position j.station g.d)
    else s

/-- SLEEP is sent and the channel enters PARKED (R118). -/
def State.sleep (s : State) (k : Nat) : State :=
  ((s.updCrane k (fun c => { c with parkHold := none })).portSend k (sleepTelegram k)).enter k .parked .asleep

/-- The park leg is done: the parking hold starts, or ends at once when its time is 0 (R118). -/
def State.parkDone (s : State) (k : Nat) : State :=
  if s.policy.parkHold = 0 then s.sleep k
  else s.updCrane k (fun c => { c with parkHold := some (s.policy.parkHold * 1000) })

/-- The effects of a DONE of leg `g`, the leg already removed (R103, R104, R105). -/
def State.legDone (s : State) (k : Nat) (g : Leg) : State :=
  match s.legJob g with
  | some j =>
    match g.kind with
    | .fetch => s.fetchDone k j g.target
    | .put => s.putMade k j false
    | .move => if g.approach then s.sequenceCheck k j else s
  | none => if (s.crane k).chan = .parking then s.parkDone k else s

/-- The destination a failed PUT is re-chosen for (R108). -/
def State.rechoiceWish (s : State) (k : Nat) (j : Job) (l : Loc) : DestWish :=
  match j.kind, j.source with
  | .relocate, some source => s.relocationWish source (s.startPoint k)
  | _, _ =>
    { aisle := l.aisle, zone := j.zone.getD .anywhere, height := j.height, clears := none, start := s.startPoint k }

/-- The job of an ended leg leaves as FAILED, its legs out of the plan (R106, R107). -/
def State.failJob (s : State) (k : Nat) (j : Job) (r : FailReason) : State :=
  (s.removeLegs k j.num).leave j.num (.failed r)

/-- A PUT found its bin occupied (R108): a new destination, or the end of the job. -/
def State.binOccupied (s : State) (k : Nat) (j : Job) (l : Loc) : State :=
  let s := (s.endDest j.num l .unknown none).report (.locationConflict k l j.pallet .binOccupied)
  if j.kind = .recover then (s.failJob k j .noLocation).unresolve k j.pallet
  else
    match s.chooseDest k (s.rechoiceWish k j l) with
    | none => (s.failJob k j .noLocation).unresolve k j.pallet
    | some m =>
      let s := s.reserveDest j.num m j.pallet .assignment
      let g := s.mkLeg k .put (.location m) (some j.num) (some j.pallet) false (s.startPoint k)
      s.updCrane k (fun c => { c with plan := g :: c.plan })

/-- A PUT found its outfeed full (R109): the count is corrected, and the PUT waits at the head of the plan. -/
def State.outfeedFull (s : State) (k : Nat) (n : Nat) (g : Leg) : State :=
  (s.updStation n Station.corrected).updCrane k (fun c => { c with plan := g :: c.plan, roomWait := true })

/-- A FETCH that found nothing or another pallet (R106, R107). -/
def State.fetchFailed (s : State) (k : Nat) (j : Job) (t : Target) (occ : Occupancy) (f : Finding) (r : FailReason) : State :=
  match t with
  | .location l => ((s.endSource j.num l occ).report (.locationConflict k l j.pallet f)).failJob k j r
  | .station _ | .endPos => s.failJob k j r

/-- What a FAILED's reason is for a leg kind (R106): the reasons that belong to the kind, anything else DRIVE. -/
def failureOf (kind : LegKind) (reason : Nat) : Finding ⊕ Unit :=
  match kind, reason with
  | .fetch, 1 => .inl .binEmpty
  | .put, 2 => .inl .binOccupied
  | .fetch, 3 => .inl .loadMismatch
  | _, _ => .inr ()

/-- The effects of a FAILED of leg `g` with a reason that belongs to it, the leg already removed (R106 to R109). A leg
without a job ends with its position alone (R112; entry 11). -/
def State.legFailed (s : State) (k : Nat) (g : Leg) (f : Finding) : State :=
  match s.legJob g with
  | none => s
  | some j =>
    match f with
    | .binEmpty => s.fetchFailed k j g.target .empty .binEmpty .binEmpty
    | .loadMismatch => s.fetchFailed k j g.target .unknown .loadMismatch .loadMismatch
    | .binOccupied =>
      match g.target with
      | .location l => s.binOccupied k j l
      | .station n => s.outfeedFull k n g
      | .endPos => s
    | .foreignLoad => s

/-- The leg is a FETCH or PUT whose job was taken from it (R112). -/
def Leg.jobless (g : Leg) : Bool := g.job.isNone && g.kind != .move

/-- What every DONE, FAILED and STATE brings after its own effects: the resolution of an UNCERTAIN job (R111), the load
comparison, and the going on. `midLeg` says that the telegram arrived while a leg was outstanding that it does not end:
such a telegram is not compared, whatever legs its own effects have sent since (R112). -/
def State.settleLoad (s : State) (k load : Nat) (midLeg : Bool) : State :=
  let s := s.resolveUncertain k load
  let s := if midLeg then s else s.compareLoad k load
  s.continueCrane k

/-- The end of a DONE or FAILED (R111, R112). -/
def State.afterLeg (s : State) (k load : Nat) (midLeg : Bool) : State := (s.settleLoad k load midLeg).finish

/-- A stale DONE or FAILED (R95): it gives its position and its load, and takes an OFFLINE channel to LISTEN. That the
arbiter's work and CRANE_STATE come before the resolution of an UNCERTAIN job is entry 49 (DESIGN CHOICE). -/
def State.onStale (s : State) (k : Nat) (p : Point) (load : Nat) (midLeg : Bool) : State :=
  ((s.reportPosition k p midLeg).heard k).afterLeg k load midLeg

/-- A DONE on a configured port (R103 to R105). -/
def State.onDone (s : State) (k id : Nat) (p : Point) (load : Nat) : State :=
  let c := s.crane k
  let s := s.hear k
  if id ≠ 0 ∧ id = c.curLeg then
    let s := (s.updCrane k Crane.legEnded).reportPosition k p false
    match c.outstandingLeg with
    | none => s.afterLeg k load false
    | some g => (s.legDone k g).afterLeg k load false
  else s.onStale k p load (c.curLeg != 0)

/-- A FAILED of the current leg `g` (R106). -/
def State.currentFailed (s : State) (k : Nat) (g : Leg) (reason : Nat) (p : Point) (load : Nat) : State :=
  match failureOf g.kind reason, g.jobless with
  | .inl f, _ => (((s.updCrane k Crane.legEnded).reportPosition k p false).legFailed k g f).afterLeg k load false
  | .inr _, true => ((s.updCrane k Crane.legEnded).reportPosition k p false).afterLeg k load false
  | .inr _, false => ((s.reportPosition k p false).enterFault k .drive (some load)).afterLeg k load false

/-- A FAILED on a configured port (R106 to R109). -/
def State.onFailed (s : State) (k id reason : Nat) (p : Point) (load : Nat) : State :=
  let c := s.crane k
  let s := s.hear k
  match c.outstandingLeg with
  | some g =>
    if id ≠ 0 ∧ id = c.curLeg then s.currentFailed k g reason p load
    else s.onStale k p load (c.curLeg != 0)
  | none => s.onStale k p load (c.curLeg != 0)

/-- What a STATE makes of the channel state (R100). -/
def State.stateChange (s : State) (k : Nat) (manual powerUp : Bool) (load : Nat) : State :=
  let s := if powerUp then s.updCrane k (fun c => { c with powerReturn := true }) else s
  match manual, powerUp with
  | true, _ => if (s.crane k).chan = .manual then s else (s.haltCrane k (some load)).enter k .manual .manual
  | false, true => if (s.crane k).chan = .listen then s else (s.haltCrane k (some load)).enter k .listen .powerUp
  | false, false =>
    match (s.crane k).chan with
    | .offline => s.enter k .listen .heard
    | .manual => s.enter k .listen .auto
    | .listen | .ready | .busy | .parking | .parked | .fault => s

/-- The marks a STATE makes in the resume check (R165). -/
def Marks.see (m : Marks) (manual powerUp : Bool) : Marks where
  auto := m.auto || !manual
  powerUp := m.powerUp || powerUp
  manual := m.manual || manual

/-- The resume check marks the crane's record (R165). -/
def State.markCheck (s : State) (k : Nat) (manual powerUp : Bool) : State :=
  match s.mode.check with
  | none => s
  | some c =>
    { s with mode := { s.mode with check := some { c with records := tableMod k (fun m => m.see manual powerUp) c.records } } }

/-- A STATE on a configured port (R100). Its claim and its load are those of a telegram that arrives while a leg is
outstanding where one is outstanding and the STATE itself does not end it by a break (R128, R112; entry 8). R111 gives no
order between the resolution of an UNCERTAIN job and the channel change: CRANE_STATE and the arbiter's work come first,
then the resolution with its reports (DESIGN CHOICE, entry 49). -/
def State.onState (s : State) (k : Nat) (manual powerUp : Bool) (p : Point) (load : Nat) : State :=
  let c := s.crane k
  let s := ((s.hear k).recordPosition k p).stateChange k manual powerUp load
  let midLeg := (s.crane k).curLeg != 0
  let s := s.railReport k c.claim c.railSpan p.x midLeg
  ((s.settleLoad k load midLeg).markCheck k manual powerUp).finish

end Sys2Proof.Machine
end

