-- ==== Sys2Proof/Machine/Requests.lean ====
section
/-! DEFINITION. What every request shares: its run states (R158), its reply (R176, R177) and its way through the input
ring (R175). -/

namespace Sys2Proof.Machine

/-- Taken in CONFIG alone (R158). -/
def State.inConfig (s : State) : Bool := s.mode.run == .config
/-- Taken in CONFIG and HOLD (R158). -/
def State.inConfigHold (s : State) : Bool := s.mode.run == .config || s.mode.run == .hold
/-- Taken in RUN, HOLD and SAFE (R158). -/
def State.notConfig (s : State) : Bool := s.mode.run != .config
/-- Taken in RUN and HOLD (R158). -/
def State.inRunHold (s : State) : Bool := s.mode.run == .run || s.mode.run == .hold

/-- A taken request is finished: its re-examinations, then its reply behind the reports it made (R176). The pass it made
due starts behind it (R68). -/
def State.conclude (s : State) (code tag : Nat) (r : Result) (data : List Byte) : State :=
  s.reexamine.answer (code + 0x80) tag r data

/-- A request with no data: its effects and OK when its checks pass, else the result of the first that fails (R177). -/
def State.judged (s : State) (code tag : Nat) (r : Result) (effect : State → State) : State :=
  if r = .ok then (effect s).conclude code tag .ok [] else s.conclude code tag r []

/-- A request whose reply carries data read after its effects. -/
def State.judgedData (s : State) (code tag : Nat) (r : Result) (effect : State → State) (data : State → List Byte) : State :=
  if r = .ok then (effect s).conclude code tag .ok (data (effect s)) else s.conclude code tag r []

/-- The ring bytes of the waiting requests (R175). -/
def Link.ringBytes (l : Link) : Nat := (l.ring.map (fun b => b.length + 2)).sum

/-- The ring bytes set aside for the frame being received (R175). -/
def Rx.setAside : Rx → Nat
  | .body need got true => need + got.length
  | .body _ _ false | .searching | .marker | .length _ => 0

/-- `n` ring bytes are free (R175). -/
def Link.roomFor (l : Link) (n : Nat) : Bool := decide (l.ringBytes + l.rx.setAside + n ≤ 2048)

/-- A good frame's body becomes a waiting request, or is lost whole with the overrun flag set (R175). -/
def Link.arrive (l : Link) (body : List Byte) : Link :=
  if l.roomFor (body.length + 2) then { l with ring := l.ring ++ [body] } else { l with overrun := true }

/-- A request can be taken: the output queue holds no reply, sent or unsent (R176). -/
def State.canTake (s : State) : Bool := !s.link.replyQueued

/-- A request command (entry 3): it is taken at once where nothing waits and no reply is queued, else it joins the
ring. -/
def State.present (s : State) (i : Instr) (run : State → State) : State :=
  if s.link.ring.isEmpty && s.canTake then run s else { s with link := s.link.arrive (encodeRequest i) }

end Sys2Proof.Machine
end

