-- ==== Sys2Proof/Machine/Queries.lean ====
section
/-! DEFINITION. The requests that read: IDENTIFY, STATUS, the queries, and the answer to an unknown code. -/

namespace Sys2Proof.Machine

/-- The reply to a request with a code that names none: code 80h, with the code received (R176, R177). -/
def runUnknownCode (tag code : Nat) (s : State) : State := s.conclude 0 tag .unknownCode (beBytes 1 code)

/-- UNKNOWN_CODE (R176). -/
def execUnknownCode (tag code : Nat) (fields : List Byte) (s : State) : Host.Outcome State Fault Refusal :=
  .next (s.present (.unknownCode tag code fields) (runUnknownCode tag code))

/-- The revision number of the part, 1..255 (R183): a free value (entry 13). -/
def revision : Nat := Config.revisionChoice.val + 1

/-- The data of IDENTIFY's reply (R183). -/
def identifyData : List Byte := beBytes 2 0xD012 ++ beBytes 1 revision

def runIdentify (tag : Nat) (s : State) : State := s.conclude 0x01 tag .ok identifyData

/-- IDENTIFY (R183). -/
def execIdentify (tag : Nat) (s : State) : Host.Outcome State Fault Refusal :=
  .next (s.present (.identify tag) (runIdentify tag))

/-! ## STATUS (R182) -/

/-- The jobs of the pool in a state with this code. -/
def State.jobsIn (s : State) (code : Nat) : Nat := (s.pool.filter (fun j => j.state.code == code)).length

/-- The remaining time of the resume check, 0 when none runs (R186). -/
def Mode.remaining (m : Mode) : Nat :=
  match m.check with
  | some c => max 1 c.remaining
  | none => 0

/-- The status block (R186). -/
def State.statusBlock (s : State) : List Byte :=
  beBytes 1 s.mode.run.code ++ beBytes 1 s.mode.speed.code ++ beBytes 1 (aislesByte s.mode.active) ++ flagByte s.mode.stop ++
    beBytes 2 s.mode.remaining ++ beBytes 2 (s.jobsIn 1) ++ beBytes 2 (s.jobsIn 2) ++ beBytes 2 (s.jobsIn 3) ++
    beBytes 2 (s.jobsIn 4) ++ beBytes 2 (s.jobsIn 5) ++ beBytes 2 (s.jobsIn 6) ++ beBytes 2 s.hostJobs ++
    beBytes 1 s.internalJobs ++ beBytes 2 s.link.ring.length ++ beBytes 2 s.link.ringBytes ++ beBytes 1 s.link.out.length ++
    beBytes 2 s.link.errors ++ beBytes 2 s.link.lost ++
    craneNumbers.flatMap (fun k => beBytes 1 (craneStatusByte (s.crane k).configured (s.crane k).chan.code))

/-- The link error count is set to 0 when STATUS asks for it (R182). -/
def State.clearErrors (s : State) (clear : Nat) : State :=
  if clear = 1 then { s with link := { s.link with errors := 0 } } else s

def runStatus (tag clear : Nat) (s : State) : State :=
  if clear ≤ 1 then (s.clearErrors clear).conclude 0x02 tag .ok s.statusBlock else s.conclude 0x02 tag .badField []

/-- STATUS (R182). -/
def execStatus (tag clear : Nat) (s : State) : Host.Outcome State Fault Refusal :=
  .next (s.present (.status tag clear) (runStatus tag clear))

/-! ## QUERY_JOB (R48) -/

/-- The reservations of a job, each with its kind and origin (R48, R184). -/
def Job.reservations (j : Job) : List (Nat × Nat) :=
  (match j.srcRes with
    | some o => [(1, o.code)]
    | none => []) ++
  (match j.dstRes with
    | some r => [((match r.kind with
        | .location => 2
        | .delivery => 3), r.origin.code)]
    | none => [])

/-- The data of QUERY_JOB's reply (R48). -/
def Job.data (j : Job) : List Byte :=
  beBytes 1 j.kind.code ++ beBytes 1 j.originator ++ beBytes 1 j.cls ++ beBytes 4 j.adm ++ beBytes 1 j.bypass ++
    beBytes 4 j.pallet ++ beBytes 1 j.state.code ++ beBytes 1 j.state.waitCode ++ beBytes 1 j.station ++ locBytes j.source ++
    locBytes j.dest ++ beBytes 2 j.group ++ beBytes 1 j.position ++ beBytes 2 (secondsUp (j.delay.getD 0)) ++
    beBytes 4 j.linked ++ flagByte j.holdReleased ++ beBytes 1 j.crane ++
    listBytes (fun r => beBytes 1 r.1 ++ beBytes 1 r.2) j.reservations

def runQueryJob (tag job : Nat) (s : State) : State :=
  if job = 0 then s.conclude 0x03 tag .badField []
  else
    match s.job job with
    | none => s.conclude 0x03 tag .unknownJob []
    | some j => s.conclude 0x03 tag .ok j.data

/-- QUERY_JOB (R48). -/
def execQueryJob (tag job : Nat) (s : State) : Host.Outcome State Fault Refusal :=
  .next (s.present (.queryJob tag job) (runQueryJob tag job))

/-! ## QUERY_LOC (R21) -/

/-- The job that holds a location's reservation, 0 for none (R21). -/
def State.holderOf (s : State) (l : Loc) : Nat :=
  if (s.loc l).occ.reserved then
    match s.pool.find? (fun j =>
      (j.srcRes.isSome && j.source == some l) ||
        (match j.dstRes with
          | some r => r.kind == .location && j.dest == some l
          | none => false)) with
    | some j => j.num
    | none => 0
  else 0

/-- The data of QUERY_LOC's reply (R21, R186). -/
def State.locData (s : State) (l : Loc) : List Byte :=
  beBytes 1 (s.loc l).occ.code ++ beBytes 4 ((s.loc l).pallet.getD 0) ++ beBytes 1 (s.loc l).height ++
    beBytes 1 (s.loc l).attrs.byte ++ beBytes 4 (s.holderOf l)

def runQueryLoc (tag : Nat) (q : LocFields) (s : State) : State :=
  match s.checkLoc q with
  | .error r => s.conclude 0x04 tag r []
  | .ok l => s.conclude 0x04 tag .ok (s.locData l)

/-- QUERY_LOC (R21). -/
def execQueryLoc (tag : Nat) (q : LocFields) (s : State) : Host.Outcome State Fault Refusal :=
  .next (s.present (.queryLoc tag q) (runQueryLoc tag q))

/-! ## QUERY_CRANE (R122, R136) -/

/-- A crane's place in the ready order, 0 for none (R67). -/
def State.readyPlace (s : State) (k : Nat) : Nat := if s.readyOrder.contains k then s.readyOrder.idxOf k + 1 else 0

def jobNumber (j : Option Job) : Nat :=
  match j with
  | some j => j.num
  | none => 0

def filterPair (r : Option Reach) : List Byte :=
  match r with
  | some r => filterBytes r.a ++ filterBytes r.b ++ flagByte r.bOn
  | none => beBytes 9 0

/-- The cycle kind, the legs and the cycle estimate, or the park leg as a list of one (R122; entry 16). -/
def Crane.planData (c : Crane) : List Byte :=
  match c.parkLeg with
  | some g => beBytes 1 CycleKind.park.code ++ listBytes legBytes [g] ++ beBytes 4 g.est
  | none =>
    beBytes 1 (match c.cycle with
      | some y => y.code
      | none => 0) ++ listBytes legBytes c.plan ++ beBytes 4 c.estimate

/-- What QUERY_CRANE adds for a crane of a twin aisle (R136); which cranes these are, and a range that is absent:
entries 46 and 47. -/
def State.twinData (s : State) (k : Nat) : List Byte :=
  if s.inTwin k then
    spanBytes (s.crane k).claim ++ spanBytes (s.crane k).railSpan ++ spanBytes (s.crane k).request ++
      (match (s.crane k).request, (s.crane k).nextLeg with
        | some _, some g => beBytes 1 g.kind.code ++ beBytes 4 (g.job.getD 0)
        | _, _ => beBytes 5 0) ++
      spanBytes (s.configuredRange k) ++ spanBytes (s.effectiveRange k)
  else []

/-- The data of QUERY_CRANE's reply (R122); encodings that R184 does not fix: entry 16. -/
def State.craneData (s : State) (k : Nat) (g : CraneCfg) : List Byte :=
  let c := s.crane k
  beBytes 1 g.aisle ++ beBytes 1 g.role.code ++ pointBytes (some g.endPos) ++ beBytes 2 g.gap ++ beBytes 1 c.chan.code ++
    beBytes 1 (match c.lastFault with
      | some r => r.code
      | none => 0) ++
    flagByte c.powerReturn ++ flagByte c.stopHalted ++ flagByte c.pendingPark ++ pointBytes c.pos ++ beBytes 4 c.loadId ++
    flagByte (match c.load with
      | some l => l.resolved
      | none => false) ++
    beBytes 4 (jobNumber (s.recoverJob k)) ++ beBytes 1 c.speed.code ++
    beBytes 1 (match c.pendSpeed with
      | some v => v.code
      | none => 0) ++
    flagByte c.pendFigures.isSome ++ flagByte c.pendReach.isSome ++ filterPair c.reach ++ c.planData ++ beBytes 1 c.curLeg ++
    beBytes 1 c.lastLeg ++ beBytes 4 c.legEst ++ beBytes 4 (jobNumber (s.uncertainJob k)) ++ beBytes 1 (s.readyPlace k) ++
    beBytes 4 (min c.silence 65535) ++ beBytes 1 c.bad ++ s.twinData k

/-- A crane number lies in 1..12 (R184). -/
def craneOk (k : Nat) : Bool := decide (1 ≤ k) && decide (k ≤ 12)

def runQueryCrane (tag k : Nat) (s : State) : State :=
  if craneOk k then
    match (s.crane k).cfg with
    | none => s.conclude 0x05 tag .notConfigured []
    | some g => s.conclude 0x05 tag .ok (s.craneData k g)
  else s.conclude 0x05 tag .badField []

/-- QUERY_CRANE (R122). -/
def execQueryCrane (tag k : Nat) (s : State) : Host.Outcome State Fault Refusal :=
  .next (s.present (.queryCrane tag k) (runQueryCrane tag k))

/-! ## QUERY_GROUP (R154) -/

/-- One position of a group's map: its job's number, state and outfeed (R154, R186). -/
def State.heldData (s : State) (e : Nat × Nat) : List Byte :=
  beBytes 1 e.1 ++ beBytes 4 e.2 ++
    match s.job e.2 with
    | some j => beBytes 1 j.state.code ++ beBytes 1 j.station
    | none => beBytes 2 0

/-- One held crane of a group: crane, position, remaining hold time (R154). -/
def holdData (e : Nat × Hold) : List Byte := beBytes 1 e.1 ++ beBytes 1 e.2.position ++ beBytes 2 (secondsUp e.2.timer)

/-- The data of QUERY_GROUP's reply (R154, R186). The held cranes are listed by rising crane number, an order that neither
rule gives: DESIGN CHOICE, entry 16. -/
def State.groupData (s : State) (gid : Nat) (g : Group) : List Byte :=
  beBytes 1 g.status.code ++ beBytes 2 g.d ++ listBytes s.heldData g.held ++ listBytes (beBytes 1) g.settled ++
    listBytes holdData (s.holds.filter (fun e => e.2.group == gid))

def runQueryGroup (tag gid : Nat) (s : State) : State :=
  if gid = 0 ∨ 65535 < gid then s.conclude 0x06 tag .badField []
  else
    match s.group gid with
    | none => s.conclude 0x06 tag .noGroup []
    | some g => s.conclude 0x06 tag .ok (s.groupData gid g)

/-- QUERY_GROUP (R154). -/
def execQueryGroup (tag gid : Nat) (s : State) : Host.Outcome State Fault Refusal :=
  .next (s.present (.queryGroup tag gid) (runQueryGroup tag gid))

def runQueryPolicy (tag : Nat) (s : State) : State := s.conclude 0x07 tag .ok (policyBytes s.policy)

/-- QUERY_POLICY (R170). -/
def execQueryPolicy (tag : Nat) (s : State) : Host.Outcome State Fault Refusal :=
  .next (s.present (.queryPolicy tag) (runQueryPolicy tag))

end Sys2Proof.Machine
end

