-- ==== Sys2Proof/Machine/ConfigCmds.lean ====
section
/-! DEFINITION. The configuration requests: SET_AISLE, SET_CRANE, SET_STATION, SET_POLICY, SET_ORIGINATOR and START. -/

namespace Sys2Proof.Machine

/-! ## SET_AISLE (R1) -/

/-- The fields of SET_AISLE lie in their ranges and the geometry on the rail and the mast (R1). -/
def aisleOk (q : AisleFields) : Bool :=
  decide (1 ≤ q.aisle) && decide (q.aisle ≤ 8) && decide (1 ≤ q.columns) && decide (q.columns ≤ 96) &&
    decide (1 ≤ q.levels) && decide (q.levels ≤ 32) && decide (q.depth ≤ 1) && decide (q.x1 ≤ 200000) &&
    decide (500 ≤ q.px) && decide (q.px ≤ 5000) && decide (q.y1 ≤ 50000) && decide (300 ≤ q.py) && decide (q.py ≤ 3000) &&
    decide (q.twin ≤ 1) && decide (q.x1 + (q.columns - 1) * q.px ≤ 200000) && decide (q.y1 + (q.levels - 1) * q.py ≤ 50000)

/-- The aisle SET_AISLE defines. -/
def aisleOf (q : AisleFields) : Aisle where
  columns := q.columns
  levels := q.levels
  double := q.depth == 1
  x1 := q.x1
  px := q.px
  y1 := q.y1
  py := q.py
  twin := q.twin == 1

/-- The claims and waiting requests of an aisle's cranes are discarded (R125). -/
def State.discardClaims (s : State) (n : Nat) : State :=
  { s with cranes := s.cranes.map (fun c => if c.inAisle n then { c with claim := none, request := none } else c) }

/-- The location table without an aisle's locations: all of them read as SET_AISLE creates them (R1). -/
def locsWithout (n : Nat) (t : Assoc LocRec) : Assoc LocRec := t.filter (fun e => e.1 / 16384 != n)

def State.defineAisle (s : State) (n : Nat) (a : Aisle) : State :=
  { s with aisles := tablePut n a s.aisles, locs := locsWithout n s.locs }.discardClaims n

def State.checkAisle (s : State) (q : AisleFields) : Result :=
  firstFail [(!s.inConfig, .wrongMode), (!aisleOk q, .badField)]

def runSetAisle (tag : Nat) (q : AisleFields) (s : State) : State :=
  s.judged 0x10 tag (s.checkAisle q) (fun s => s.defineAisle q.aisle (aisleOf q))

/-- SET_AISLE (R1). -/
def execSetAisle (tag : Nat) (q : AisleFields) (s : State) : Host.Outcome State Fault Refusal :=
  .next (s.present (.setAisle tag q) (runSetAisle tag q))

/-! ## SET_CRANE (R97) -/

/-- The values of SET_CRANE's fields, if all are in range (R97 check 2). -/
def craneFieldsOf (q : CraneFields) : Option (Role × Reach × Figures) :=
  if craneOk q.crane ∧ q.endX ≤ 200000 ∧ q.endY ≤ 50000 ∧ q.gap ≤ 20000 then
    match roleOf q.role, reachOf q.reach, figuresOf q.figures with
    | some r, some f, some g => some (r, f, g)
    | _, _, _ => none
  else none

/-- A role fits an aisle: SINGLE in a single-crane aisle, A or B in a twin aisle (R97, R162). -/
def roleFits (a : Aisle) (r : Role) : Bool := a.twin == (r != .single)

/-- The role is held in the aisle by another configured crane (R97). -/
def State.roleHeld (s : State) (k n : Nat) (r : Role) : Bool :=
  craneNumbers.any (fun j => j != k && (s.crane j).hasRole n r)

def State.checkCrane (s : State) (q : CraneFields) : Result :=
  if !s.inConfig then .wrongMode
  else
    match craneFieldsOf q with
    | none => .badField
    | some (r, _, _) =>
      match s.aisle q.aisle with
      | none => .notConfigured
      | some a => if roleFits a r && !s.roleHeld q.crane q.aisle r then .ok else .badField

/-- The claim rules of a SET_CRANE (R125): a change of role or gap in a twin aisle discards both cranes' claims, a
move to another aisle the crane's own, whatever else it changes (entry 45). -/
def State.reclaim (s : State) (k : Nat) (g : CraneCfg) : State :=
  match (s.crane k).cfg with
  | none => s
  | some old =>
    if old.aisle ≠ g.aisle then s.updCrane k (fun c => { c with claim := none, request := none })
    else if s.twinAisle g.aisle ∧ (old.role ≠ g.role ∨ old.gap ≠ g.gap) then s.discardClaims g.aisle
    else s

/-- A crane record as SET_CRANE writes it: everything not named is kept (R97). -/
def Crane.configuredAs (c : Crane) (g : CraneCfg) (r : Reach) (f : Figures) : Crane :=
  { c with
    cfg := some g, reach := some r, figures := some f, speed := .normal
    pendSpeed := none, pendFigures := none, pendReach := none }

def craneCfgOf (q : CraneFields) (r : Role) : CraneCfg where
  aisle := q.aisle
  role := r
  endPos := { x := q.endX, y := q.endY }
  gap := q.gap

def State.defineCrane (s : State) (q : CraneFields) : State :=
  match craneFieldsOf q with
  | none => s
  | some (r, reach, f) =>
    (s.reclaim q.crane (craneCfgOf q r)).updCrane q.crane (fun c => c.configuredAs (craneCfgOf q r) reach f)

def runSetCrane (tag : Nat) (q : CraneFields) (s : State) : State :=
  s.judged 0x11 tag (s.checkCrane q) (fun s => s.defineCrane q)

/-- SET_CRANE (R97). -/
def execSetCrane (tag : Nat) (q : CraneFields) (s : State) : Host.Outcome State Fault Refusal :=
  .next (s.present (.setCrane tag q) (runSetCrane tag q))

/-! ## SET_STATION (R138) -/

/-- The station SET_STATION defines, if its fields are in range (R138 check 2). -/
def stationOf (q : StationFields) : Option Station :=
  if 1 ≤ q.station ∧ q.station ≤ 16 ∧ 1 ≤ q.aisle ∧ q.aisle ≤ 8 ∧ q.x ≤ 200000 ∧ q.y ≤ 50000 ∧ 1 ≤ q.capacity ∧ q.capacity ≤ 6 then
    match railEndOf q.railEnd, stationKindOf q.kind with
    | some e, some k =>
      some { aisle := q.aisle, railEnd := e, kind := k, point := { x := q.x, y := q.y }, capacity := q.capacity,
             occ := 0, pend := 0, queue := [] }
    | _, _ => none
  else none

def State.checkStation (s : State) (q : StationFields) : Result :=
  firstFail [(!s.inConfig, .wrongMode), ((stationOf q).isNone, .badField), ((s.aisle q.aisle).isNone, .notConfigured)]

def State.defineStation (s : State) (q : StationFields) : State :=
  match stationOf q with
  | none => s
  | some t => { s with stations := tablePut q.station t s.stations }

def runSetStation (tag : Nat) (q : StationFields) (s : State) : State :=
  s.judged 0x12 tag (s.checkStation q) (fun s => s.defineStation q)

/-- SET_STATION (R138). -/
def execSetStation (tag : Nat) (q : StationFields) (s : State) : Host.Outcome State Fault Refusal :=
  .next (s.present (.setStation tag q) (runSetStation tag q))

/-! ## SET_POLICY (R169) -/

/-- The values that are refused when out of range are in range (R169 check 2). -/
def policyOk (q : PolicyFields) : Bool :=
  decide (q.offset0 ≤ 3600000) && decide (q.offset1 ≤ 3600000) && decide (q.offset2 ≤ 3600000) &&
    decide (q.offset3 ≤ 3600000) && decide (q.offset0 ≤ q.offset1) && decide (q.offset1 ≤ q.offset2) &&
    decide (q.offset2 ≤ q.offset3) && (pairingOf q.pairing).isSome && decide (5000 ≤ q.marginTens * 10) &&
    decide (q.marginTens * 10 ≤ 600000) && decide (q.parkHold ≤ 600)

/-- The window in force: 0 is taken as 1, above 8 as 8 (R147). -/
def windowOf (n : Nat) : Nat := min 8 (max 1 n)

/-- The policy in its adjusted form (R169). -/
def policyOf (q : PolicyFields) : Policy where
  offset0 := q.offset0
  offset1 := q.offset1
  offset2 := q.offset2
  offset3 := q.offset3
  aging := max 1 q.aging
  pairing := (pairingOf q.pairing).getD .off
  minSaving := min 60000 q.minSaving
  window := windowOf q.window
  holdTime := min 600 (max 5 q.holdTime)
  margin := q.marginTens * 10
  parkHold := q.parkHold

/-- A dispatched position that a lower window would leave outside (R147). -/
def Job.dispatched (j : Job) : Bool :=
  match j.state with
  | .assigned | .active | .uncertain _ => true
  | .carried => !j.holdReleased
  | .waiting _ | .ready => false

/-- Some group holds a dispatched position at or above d + W (R147). -/
def State.beyondWindow (s : State) (w : Nat) : Bool :=
  s.groups.any fun e => e.2.held.any fun h =>
    decide (e.2.d + w ≤ h.1) &&
      match s.job h.2 with
      | some j => j.dispatched
      | none => false

def State.checkPolicy (s : State) (q : PolicyFields) : Result :=
  firstFail [(!s.inConfigHold, .wrongMode), (!policyOk q, .badField),
    (decide (windowOf q.window < s.policy.window) && s.beyondWindow (windowOf q.window), .inProgress)]

/-- A fallen aging threshold promotes the jobs whose counts reach it (R64). -/
def State.promoteAt (s : State) (old new : Nat) : State :=
  if new < old then { s with pool := s.pool.map (fun j => if new ≤ j.bypass then j.promoted else j) } else s

def State.definePolicy (s : State) (p : Policy) : State := { s with policy := p }.promoteAt s.policy.aging p.aging

def runSetPolicy (tag : Nat) (q : PolicyFields) (s : State) : State :=
  s.judgedData 0x13 tag (s.checkPolicy q) (fun s => s.definePolicy (policyOf q)) (fun s => policyBytes s.policy)

/-- SET_POLICY (R169). -/
def execSetPolicy (tag : Nat) (q : PolicyFields) (s : State) : Host.Outcome State Fault Refusal :=
  .next (s.present (.setPolicy tag q) (runSetPolicy tag q))

/-! ## SET_ORIGINATOR (R16) -/

/-- An originator of a host request (R16, R184). -/
def originatorOk (n : Nat) : Bool := decide (1 ≤ n) && decide (n ≤ 7)

def State.checkOriginator (s : State) (originator aisle mask preset : Nat) : Result :=
  firstFail [(!s.inConfigHold, .wrongMode),
    (!(originatorOk originator && decide (aisle ≤ 8) && (attrsOf mask).isSome && (attrsOf preset).isSome), .badField)]

/-- One entry, or with aisle 0 the originator's entries of all eight aisles (R16). -/
def State.defineOriginator (s : State) (originator aisle : Nat) (e : OrigEntry) : State :=
  let aisles := if aisle = 0 then aisleNumbers else [aisle]
  { s with originators := aisles.foldl (fun t n => tablePut (originator * 16 + n) e t) s.originators }

def entryOf (mask preset : Nat) : OrigEntry where
  mask := (attrsOf mask).getD .none
  preset := (attrsOf preset).getD .none

def runSetOriginator (tag originator aisle mask preset : Nat) (s : State) : State :=
  s.judged 0x14 tag (s.checkOriginator originator aisle mask preset)
    (fun s => s.defineOriginator originator aisle (entryOf mask preset))

/-- SET_ORIGINATOR (R16). -/
def execSetOriginator (tag originator aisle mask preset : Nat) (s : State) : Host.Outcome State Fault Refusal :=
  .next (s.present (.setOriginator tag originator aisle mask preset) (runSetOriginator tag originator aisle mask preset))

/-! ## START (R162, R124) -/

/-- The first configured crane whose role does not fit its aisle (R162 code 2). -/
def State.roleMismatch (s : State) : Option Nat :=
  craneNumbers.find? fun k =>
    match (s.crane k).cfg with
    | none => false
    | some g =>
      match s.aisle g.aisle with
      | none => true
      | some a => !roleFits a g.role

/-- The crane of an aisle in a role. -/
def State.craneIn (s : State) (n : Nat) (r : Role) : Option Nat := craneNumbers.find? (fun k => (s.crane k).hasRole n r)

/-- The first single-crane aisle without a crane of role SINGLE (R162 code 3). -/
def State.craneless (s : State) : Option Nat :=
  (s.aisles.find? (fun e => !e.2.twin && (s.craneIn e.1 .single).isNone)).map Prod.fst

/-- The rail positions of what a crane of a twin aisle may be sent to: the locations it reaches and the stations at
its end (R124). -/
def State.reachedXs (s : State) (k n : Nat) (a : Aisle) (e : RailEnd) : List Nat :=
  (((a.allLocs n).filter (s.inReach k)).map (fun l => (a.point l).x)) ++
    ((s.stations.filter (fun t => t.2.aisle == n && t.2.railEnd == e)).map (fun t => t.2.point.x))

/-- The first test of R124 that a twin aisle fails, by its detail code. -/
def State.twinFault (s : State) (n : Nat) (a : Aisle) : Option Nat :=
  match s.craneIn n .a, s.craneIn n .b with
  | some i, some j =>
    let gaps := s.gaps i j
    let ea := (s.crane i).endPoint.x
    let eb := (s.crane j).endPoint.x
    if !decide (ea + gaps ≤ eb) then some 5
    else if !(s.reachedXs i n a .front).all (fun x => decide (x + gaps ≤ eb)) then some 6
    else if !(s.reachedXs j n a .rear).all (fun x => decide (ea + gaps ≤ x)) then some 7
    else none
  | _, _ => some 4

/-- The first configuration check that fails: its detail code and the aisle or crane concerned (R162). -/
def State.configFault (s : State) : Option (Nat × Nat) :=
  if s.aisles.isEmpty then some (1, 0)
  else
    match s.roleMismatch, s.craneless with
    | some k, _ => some (2, k)
    | none, some n => some (3, n)
    | none, none =>
      s.aisles.findSome? (fun e => if e.2.twin then (s.twinFault e.1 e.2).map (fun d => (d, e.1)) else none)

/-- MODE_CHANGED with the values as they stand (R161). -/
def State.reportMode (s : State) (cause : ModeCause) : State :=
  s.report (.modeChanged cause s.mode.run s.mode.speed s.mode.active s.mode.stop)

/-- Entry into RUN with every configured aisle active, a trigger (R162). -/
def State.enterRun (s : State) : State :=
  ({ s with mode := { s.mode with run := .run, active := s.aisles.map Prod.fst } }.trigger).reportMode .start

def runStart (tag : Nat) (s : State) : State :=
  if !s.inConfig then s.conclude 0x16 tag .wrongMode []
  else
    match s.configFault with
    | some (detail, n) => s.conclude 0x16 tag .configError (beBytes 1 detail ++ beBytes 1 n)
    | none => if s.mode.stop then s.conclude 0x16 tag .stopActive [] else s.enterRun.conclude 0x16 tag .ok []

/-- START (R162). -/
def execStart (tag : Nat) (s : State) : Host.Outcome State Fault Refusal :=
  .next (s.present (.start tag) (runStart tag))

end Sys2Proof.Machine
end

