-- ==== Sys2Proof/Machine/MapCmds.lean ====
section
/-! DEFINITION. The requests on the rack map: LOAD_MAP, SET_LOC, SET_ATTR and MARK. -/

namespace Sys2Proof.Machine

/-! ## Host corrections (R14, R15) -/

/-- A pallet id stands in a location of the table outside those whose keys are written (R8). -/
def State.palletInRack (s : State) (id : Nat) (written : List Nat) : Bool :=
  s.locs.any fun e =>
    !written.contains e.1 && e.2.pallet == some id && (e.2.occ == .full || e.2.occ == .outbound || e.2.occ == .inbound)

/-- A pallet id is held elsewhere than in the locations written (R8). -/
def State.palletHeld (s : State) (id : Nat) (written : List Nat) : Bool :=
  s.palletInRack id written || s.craneHolds id || s.pool.any (fun j => j.storeHolds && j.pallet == id)

/-- The fields of a correction of one location: occupancy, pallet id of a FULL, height class (R14 check 2). -/
def correctionOk (occ pallet height : Nat) : Bool :=
  (hostOccOf occ).isSome && !(occ == 1 && pallet == 0) && decide (height ≤ 3)

/-- A location record corrected by the host: attributes kept, a pallet id for FULL alone (R14). -/
def LocRec.corrected (r : LocRec) (occ pallet height : Nat) : LocRec :=
  { r with
    occ := (hostOccOf occ).getD .unknown
    pallet := if occ = 1 then some pallet else none
    height := height }

/-- A correction of one location (R14), its pair to be re-examined. -/
def State.correct (s : State) (l : Loc) (occ pallet height : Nat) : State :=
  (s.setLoc l ((s.loc l).corrected occ pallet height)).touchPair l

/-- The checks of SET_LOC behind the address (R14). -/
def State.checkSetLoc (s : State) (l : Loc) (q : SetLocFields) : Result :=
  firstFail [(!correctionOk q.occupancy q.pallet q.height, .badField), ((s.loc l).occ.reserved, .locationReserved),
    (q.occupancy == 1 && s.palletHeld q.pallet [locKey l], .duplicatePallet)]

/-- SET_LOC's effects: a trigger when it leaves the location EMPTY or FULL (R14). -/
def State.applySetLoc (s : State) (l : Loc) (q : SetLocFields) : State :=
  let s := s.correct l q.occupancy q.pallet q.height
  if q.occupancy ≤ 1 then s.trigger else s

def runSetLoc (tag : Nat) (q : SetLocFields) (s : State) : State :=
  match s.checkLoc q.location with
  | .error r => s.conclude 0x30 tag r []
  | .ok l => s.judged 0x30 tag (s.checkSetLoc l q) (fun s => s.applySetLoc l q)

/-- SET_LOC (R14). -/
def execSetLoc (tag : Nat) (q : SetLocFields) (s : State) : Host.Outcome State Fault Refusal :=
  .next (s.present (.setLoc tag q) (runSetLoc tag q))

/-- The location of a column at a level. -/
def Loc.atLevel (l : Loc) (level : Nat) : Loc := { l with level := level }

/-- The levels of an aisle, 1 first. -/
def State.levelsOf (s : State) (n : Nat) : List Nat :=
  match s.aisle n with
  | some a => (List.range a.levels).map (· + 1)
  | none => []

/-- The pallet ids of a list's FULL entries. -/
def fullIds (entries : List LevelFields) : List Nat := (entries.filter (fun e => e.occupancy == 1)).map LevelFields.pallet

/-- The keys of the levels a list writes. -/
def writtenKeys (l : Loc) (n : Nat) : List Nat := (List.range n).map (fun i => locKey (l.atLevel (i + 1)))

/-- A list has no id twice. -/
def noRepeat : List Nat → Bool
  | [] => true
  | a :: t => !t.contains a && noRepeat t

/-- The checks of LOAD_MAP behind run state and column address (R15). -/
def State.checkLoadMap (s : State) (l : Loc) (entries : List LevelFields) : Result :=
  firstFail [
    (entries.isEmpty || decide ((s.levelsOf l.aisle).length < entries.length) ||
      !entries.all (fun e => correctionOk e.occupancy e.pallet e.height), .badField),
    ((s.levelsOf l.aisle).any (fun v => (s.loc (l.atLevel v)).occ.reserved), .locationReserved),
    (!noRepeat (fullIds entries) || (fullIds entries).any (fun id => s.palletHeld id (writtenKeys l entries.length)),
      .duplicatePallet)]

/-- The listed levels from `v` on take their entries (R15). -/
def loadLevels (l : Loc) : Nat → List LevelFields → State → State
  | _, [], s => s
  | v, e :: t, s => loadLevels l (v + 1) t (s.correct (l.atLevel v) e.occupancy e.pallet e.height)

def runLoadMap (tag : Nat) (column : ColFields) (entries : List LevelFields) (s : State) : State :=
  if !s.inConfigHold then s.conclude 0x15 tag .wrongMode []
  else
    match s.checkCol column with
    | .error r => s.conclude 0x15 tag r []
    | .ok l =>
      s.judgedData 0x15 tag (s.checkLoadMap l entries) (loadLevels l 1 entries)
        (fun _ => beBytes 1 entries.length)

/-- LOAD_MAP (R15). -/
def execLoadMap (tag : Nat) (column : ColFields) (entries : List LevelFields) (s : State) : Host.Outcome State Fault Refusal :=
  .next (s.present (.loadMap tag column entries) (runLoadMap tag column entries))

/-! ## Attributes (R9 to R13, R17, R18) -/

/-- NO_RETRIEVE set on a READY retrieve's source pulls the job back (R11). -/
def State.pullBack (s : State) (l : Loc) : State :=
  match s.pool.find? (fun j => j.kind == .retrieve && j.state == .ready && j.source == some l) with
  | none => s
  | some j => (s.freeSource j.num).updJob j.num (fun j => { j with state := .waiting .blockedOut })

/-- The attributes of a location become `new`: NO_RETRIEVE, where the request sets it, acts at once (R11; entry 15); a
cleared attribute is a trigger and re-examines the pair (R13). -/
def State.writeAttrs (s : State) (l : Loc) (new : Attrs) : State :=
  let old := (s.loc l).attrs
  let s := s.setLoc l { s.loc l with attrs := new }
  let s := if new.noRetrieve && !old.noRetrieve then s.pullBack l else s
  if old.clearedBy new then (s.touchPair l).trigger else s

/-- SET_ATTR's checks: originator and address, then the attribute set (R17, R184; entry 18). -/
def checkAttr (originator attrs : Nat) : Result := firstFail [(!originatorOk originator, .badField), ((attrsOf attrs).isNone, .badField)]

/-- The attributes a SET_ATTR leaves (R17). -/
def State.attrsAfter (s : State) (originator : Nat) (l : Loc) (attrs : Nat) : Attrs :=
  (s.loc l).attrs.write (s.origin originator l.aisle).mask ((attrsOf attrs).getD .none)

def runSetAttr (tag originator : Nat) (q : LocFields) (attrs : Nat) (s : State) : State :=
  if !originatorOk originator then s.conclude 0x31 tag .badField []
  else
    match s.checkLoc q with
    | .error r => s.conclude 0x31 tag r []
    | .ok l =>
      s.judgedData 0x31 tag (checkAttr originator attrs) (fun s => s.writeAttrs l (s.attrsAfter originator l attrs))
        (fun s => beBytes 1 (s.loc l).attrs.byte)

/-- SET_ATTR (R17). -/
def execSetAttr (tag originator : Nat) (q : LocFields) (attrs : Nat) (s : State) : Host.Outcome State Fault Refusal :=
  .next (s.present (.setAttr tag originator q attrs) (runSetAttr tag originator q attrs))

/-- The attributes a MARK gives a location (R18). -/
def State.markedAttrs (s : State) (originator : Nat) (l : Loc) : Attrs :=
  (s.loc l).attrs.write (s.origin originator l.aisle).mask (s.origin originator l.aisle).preset

/-- The selected locations of a column (R18). -/
def State.selected (s : State) (l : Loc) (word : Nat) : List Loc :=
  ((s.levelsOf l.aisle).filter (levelSelected word)).map l.atLevel

/-- The selected locations whose attributes a MARK changes (R18). -/
def State.markChanged (s : State) (originator : Nat) (l : Loc) (word : Nat) : List Loc :=
  (s.selected l word).filter (fun m => s.markedAttrs originator m != (s.loc m).attrs)

/-- MARK's effects on the selected locations, level by level (R18). -/
def State.markAll (s : State) (originator : Nat) (l : Loc) (word : Nat) : State :=
  (s.selected l word).foldl (fun s m => s.writeAttrs m (s.markedAttrs originator m)) s

def runMark (tag originator : Nat) (q : ColFields) (word : Nat) (s : State) : State :=
  if !originatorOk originator then s.conclude 0x32 tag .badField []
  else
    match s.checkCol q with
    | .error r => s.conclude 0x32 tag r []
    | .ok l =>
      (s.markAll originator l word).conclude 0x32 tag .ok (beBytes 1 (s.markChanged originator l word).length)

/-- MARK (R18). -/
def execMark (tag originator : Nat) (q : ColFields) (word : Nat) (s : State) : Host.Outcome State Fault Refusal :=
  .next (s.present (.mark tag originator q word) (runMark tag originator q word))

end Sys2Proof.Machine
end

