-- ==== Sys2Proof/Machine/JobCmds.lean ====
section
/-! DEFINITION. The job requests: STORE, RETRIEVE, CANCEL and RECOVER. -/

namespace Sys2Proof.Machine

/-- A host job number (R25). -/
def hostNumber (n : Nat) : Bool := decide (1 ≤ n) && decide (n ≤ 2147483647)

/-! ## STORE (R30, R31) -/

/-- STORE's fields but for its target (R30 check 2). -/
def storeFieldsOk (q : StoreFields) : Bool :=
  hostNumber q.job && originatorOk q.originator && q.pallet != 0 && decide (q.height ≤ 3) && decide (1 ≤ q.station) &&
    decide (q.station ≤ 16) && decide (q.form ≤ 1)

/-- The explicit target checked by R3, or the zone filter by R184. -/
def State.storeTarget (s : State) (q : StoreFields) : Result :=
  if q.form = 0 then exceptResult (s.checkLoc q.target) else if (filterOf q.zone).isSome then .ok else .badField

/-- A pallet id that a STORE may not carry (R30 check 5). -/
def State.storePalletHeld (s : State) (id : Nat) : Bool :=
  s.locs.any (fun e => e.2.stands id) || s.craneHolds id || s.pool.any (fun j => j.kind == .store && j.pallet == id)

/-- The explicit target is usable (R30 check 8). -/
def State.targetFree (s : State) (t : Station) (l : Loc) (height : Nat) : Bool :=
  l.aisle == t.aisle && (s.loc l).occ == .empty && !(s.loc l).attrs.noStore && decide (height ≤ (s.loc l).height) &&
    !s.pairBusy l && (l.depth == .front || (s.loc { l with depth := .front }).occ == .empty)

/-- The serving crane of a station reaches a location (R30 check 8). -/
def State.servedReach (s : State) (t : Station) (l : Loc) : Bool :=
  match s.servingCrane t with
  | some k => s.inReach k l
  | none => false

/-- The locations of an aisle's geometry. -/
def State.aisleLocs (s : State) (n : Nat) : List Loc :=
  match s.aisle n with
  | some a => a.allLocs n
  | none => []

/-- Checks 8 and 9 of R30. -/
def State.checkTarget (s : State) (q : StoreFields) (t : Station) : Result :=
  if q.form = 0 then
    match s.checkLoc q.target with
    | .error r => r
    | .ok l =>
      if !s.targetFree t l q.height then .locationUnavailable else if s.servedReach t l then .ok else .noReach
  else
    match filterOf q.zone with
    | none => .badField
    | some z => if (s.aisleLocs t.aisle).any (fun l => z.hits (locCode l) && s.servedReach t l) then .ok else .noReach

/-- Checks 6 to 9 of R30. -/
def State.checkStoreStation (s : State) (q : StoreFields) : Result :=
  match s.station q.station with
  | none => .badField
  | some t =>
    if t.kind = .outfeed then .badField
    else if t.capacity ≤ t.queue.length then .infeedFull
    else s.checkTarget q t

/-- The checks of STORE in the order of R30. -/
def State.checkStore (s : State) (q : StoreFields) : Result :=
  (firstFail [(!s.notConfig, .wrongMode), (!storeFieldsOk q, .badField), (s.storeTarget q != .ok, s.storeTarget q),
    ((s.job q.job).isSome, .duplicateJob), (!s.hostRoom, .poolFull), (s.storePalletHeld q.pallet, .duplicatePallet)]).orElse
    (s.checkStoreStation q)

/-- A STORE record before its admission number and reservation (R23, R31). -/
def storeJob (q : StoreFields) (first : Bool) : Job where
  num := q.job
  kind := .store
  originator := q.originator
  cls := classOf q.cls
  adm := 0
  pallet := q.pallet
  height := q.height
  station := q.station
  stationNamed := true
  source := none
  dest := none
  zone := if q.form = 0 then none else filterOf q.zone
  group := 0
  position := 0
  delay := none
  linked := 0
  state := if first then .ready else .waiting .queued
  bypass := 0
  crane := 0
  srcRes := none
  dstRes := none
  inspect := false
  holdReleased := false

/-- The job joins the tail of its infeed queue (R31). -/
def State.joinQueue (s : State) (st n : Nat) : State := s.updStation st (fun t => { t with queue := t.queue ++ [n] })

/-- The queue of a station is empty. -/
def State.queueEmpty (s : State) (st : Nat) : Bool :=
  match s.station st with
  | some t => t.queue.isEmpty
  | none => true

/-- The explicit target of a STORE, reserved at admission (R31). -/
def State.reserveTarget (s : State) (q : StoreFields) : State :=
  if q.form = 0 then
    match s.checkLoc q.target with
    | .ok l => s.reserveDest q.job l q.pallet .admission
    | .error _ => s
  else s

/-- STORE's effects (R31): a trigger when the job is READY. -/
def State.applyStore (s : State) (q : StoreFields) : State :=
  let first := s.queueEmpty q.station
  let s := ((s.enroll (storeJob q first)).reserveTarget q).joinQueue q.station q.job
  if first then s.trigger else s

/-- Admission number, state and waiting reason of a job (R186). -/
def State.admissionData (s : State) (n : Nat) : List Byte :=
  match s.job n with
  | some j => beBytes 4 j.adm ++ beBytes 1 j.state.code ++ beBytes 1 j.state.waitCode
  | none => []

def runStore (tag : Nat) (q : StoreFields) (s : State) : State :=
  s.judgedData 0x20 tag (s.checkStore q) (fun s => s.applyStore q) (fun s => s.admissionData q.job)

/-- STORE (R30, R31). -/
def execStore (tag : Nat) (q : StoreFields) (s : State) : Host.Outcome State Fault Refusal :=
  .next (s.present (.store tag q) (runStore tag q))

/-! ## RETRIEVE (R34, R35) -/

/-- RETRIEVE's fields but for a named location (R34 check 2). -/
def retrieveFieldsOk (q : RetrieveFields) : Bool :=
  hostNumber q.job && originatorOk q.originator && decide (q.form ≤ 1) && !(q.form == 0 && q.pallet == 0) &&
    decide (q.station ≤ 16) && decide (q.delay ≤ 65535) && decide (q.group ≤ 65535) &&
    !(q.group != 0 && (q.position == 0 || decide (255 < q.position)))

/-- A named location checked by R3. -/
def State.retrieveAddress (s : State) (q : RetrieveFields) : Result :=
  if q.form = 1 then exceptResult (s.checkLoc q.location) else .ok

/-- The source a RETRIEVE names (R34 check 5). -/
def State.retrieveSource (s : State) (q : RetrieveFields) : Except Result Loc :=
  if q.form = 1 then
    match s.checkLoc q.location with
    | .error r => .error r
    | .ok l =>
      match (s.loc l).occ with
      | .outbound => .error .duplicatePallet
      | .full => .ok l
      | .empty | .inbound | .unknown => .error .locationUnavailable
  else
    match s.findPallet q.pallet with
    | none => .error .unknownPallet
    | some l => if (s.loc l).occ = .outbound then .error .duplicatePallet else .ok l

/-- A RETRIEVE job of the pool names this pallet (R34 check 5). -/
def State.retrieveNames (s : State) (id : Nat) : Bool := s.pool.any (fun j => j.kind == .retrieve && j.pallet == id)

/-- The named outfeed fits the source's aisle (R34 check 6). -/
def State.outfeedFits (s : State) (station aisle : Nat) : Bool :=
  station == 0 ||
    match s.station station with
    | some t => t.kind == .outfeed && t.aisle == aisle
    | none => false

/-- The group checks of R34 (check 7). -/
def State.checkGroup (s : State) (gid p : Nat) : Result :=
  if gid = 0 then .ok
  else
    match s.group gid with
    | none => .noGroup
    | some g =>
      firstFail [(g.status == .closing, .groupClosing), (decide (p < g.d), .stalePosition),
        ((tableGet p g.held).isSome || g.settled.contains p, .duplicatePosition)]

/-- Some crane of the aisle serves an outfeed the job may use and reaches the source (R34 check 8). -/
def State.retrieveReach (s : State) (l : Loc) (station : Nat) : Bool :=
  craneNumbers.any fun k =>
    (s.crane k).inAisle l.aisle && s.inReach k l &&
      s.stations.any (fun e =>
        (station == 0 || e.1 == station) && e.2.kind == .outfeed && e.2.aisle == l.aisle && s.serves k e.2)

/-- Checks 5 to 8 of R34. -/
def State.checkRetrieveSource (s : State) (q : RetrieveFields) : Result :=
  match s.retrieveSource q with
  | .error r => r
  | .ok l =>
    firstFail [(s.retrieveNames ((s.loc l).pallet.getD 0), .duplicatePallet), (!s.outfeedFits q.station l.aisle, .badField),
      (s.checkGroup q.group q.position != .ok, s.checkGroup q.group q.position), (!s.retrieveReach l q.station, .noReach)]

/-- The checks of RETRIEVE in the order of R34. -/
def State.checkRetrieve (s : State) (q : RetrieveFields) : Result :=
  (firstFail [(!s.notConfig, .wrongMode), (!retrieveFieldsOk q, .badField),
    (s.retrieveAddress q != .ok, s.retrieveAddress q), ((s.job q.job).isSome, .duplicateJob), (!s.hostRoom, .poolFull)]).orElse
    (s.checkRetrieveSource q)

/-- A RETRIEVE record before its admission number (R23, R35). -/
def retrieveJob (q : RetrieveFields) (source : Loc) (pallet : Nat) : Job where
  num := q.job
  kind := .retrieve
  originator := q.originator
  cls := classOf q.cls
  adm := 0
  pallet := pallet
  height := 0
  station := q.station
  stationNamed := q.station != 0
  source := some source
  dest := none
  zone := none
  group := q.group
  position := if q.group = 0 then 0 else q.position
  delay := if q.delay = 0 then none else some (q.delay * 1000)
  linked := 0
  state := .waiting (if q.delay = 0 then .pairBusy else .notYet)
  bypass := 0
  crane := 0
  srcRes := none
  dstRes := none
  inspect := false
  holdReleased := false

/-- A grouped job is entered in its group at its position (R35, R142). -/
def State.enterGroup (s : State) (gid p n : Nat) : State :=
  match s.group gid with
  | none => s
  | some g => { s with groups := tablePut gid { g with held := tablePut p n g.held } s.groups }

/-- RETRIEVE's effects (R35): with a delay it waits, else its readiness is evaluated at once. -/
def State.applyRetrieve (s : State) (q : RetrieveFields) : State :=
  match s.retrieveSource q with
  | .error _ => s
  | .ok l =>
    let s := s.enroll (retrieveJob q l ((s.loc l).pallet.getD 0))
    let s := if q.group = 0 then s else s.enterGroup q.group q.position q.job
    if q.delay = 0 then s.evaluate q.job else s

def runRetrieve (tag : Nat) (q : RetrieveFields) (s : State) : State :=
  s.judgedData 0x21 tag (s.checkRetrieve q) (fun s => s.applyRetrieve q) (fun s => s.admissionData q.job)

/-- RETRIEVE (R34, R35). -/
def execRetrieve (tag : Nat) (q : RetrieveFields) (s : State) : Host.Outcome State Fault Refusal :=
  .next (s.present (.retrieve tag q) (runRetrieve tag q))

/-! ## CANCEL (R43 to R45) -/

/-- The result a job's state gives a CANCEL (R43 checks 4 to 6). -/
def Job.cancelResult (j : Job) : Result :=
  if !j.kind.isHost then .notOwner
  else
    match j.state with
    | .active | .carried => .inProgress
    | .uncertain _ => .jobUncertain
    | .waiting _ | .ready | .assigned => .ok

/-- The job leaves as CANCELLED (R44); an ASSIGNED one is withdrawn from its crane's plan first, and the crane goes on
with what is left (R45). -/
def State.cancelJob (s : State) (j : Job) : State :=
  if j.state = .assigned then ((s.removeLegs j.crane j.num).leave j.num .cancelled).continueCrane j.crane
  else s.leave j.num .cancelled

def runCancel (tag job : Nat) (s : State) : State :=
  if !s.notConfig then s.conclude 0x22 tag .wrongMode []
  else if job = 0 then s.conclude 0x22 tag .badField []
  else
    match s.job job with
    | none => s.conclude 0x22 tag .unknownJob []
    | some j =>
      s.judgedData 0x22 tag j.cancelResult (fun s => s.cancelJob j)
        (fun _ => beBytes 1 j.state.code ++ beBytes 1 j.state.waitCode)

/-- CANCEL (R43). -/
def execCancel (tag job : Nat) (s : State) : Host.Outcome State Fault Refusal :=
  .next (s.present (.cancel tag job) (runCancel tag job))

/-! ## RECOVER (R114) -/

/-- RECOVER's fields but for a location (R114 check 2). -/
def recoverFieldsOk (q : RecoverFields) : Bool :=
  craneOk q.crane && decide (q.form ≤ 1) && !(q.form == 1 && (q.station == 0 || decide (16 < q.station)))

/-- A location destination checked by R3. -/
def State.recoverAddress (s : State) (q : RecoverFields) : Result :=
  if q.form = 0 then exceptResult (s.checkLoc q.location) else .ok

/-- A location destination is usable (R114 check 7). -/
def State.recoverLocation (s : State) (k : Nat) (l : Loc) : Bool :=
  (s.crane k).inAisle l.aisle && (s.loc l).occ == .empty && !s.pairBusy l && !(s.loc l).attrs.noStore &&
    (l.depth == .front || (s.loc { l with depth := .front }).occ == .empty) && s.inReach k l

/-- A station destination is usable (R114 check 8). -/
def State.recoverStation (s : State) (k n : Nat) : Bool :=
  match s.station n with
  | some t => t.kind == .outfeed && s.serves k t && t.hasRoom
  | none => false

/-- Checks 7 and 8 of R114. -/
def State.checkRecoverDest (s : State) (q : RecoverFields) : Result :=
  if q.form = 0 then
    match s.checkLoc q.location with
    | .error r => r
    | .ok l => if s.recoverLocation q.crane l then .ok else .locationUnavailable
  else if s.recoverStation q.crane q.station then .ok else .badField

/-- The checks of RECOVER in the order of R114. -/
def State.checkRecover (s : State) (q : RecoverFields) : Result :=
  (firstFail [(!s.inRunHold, .wrongMode), (!recoverFieldsOk q, .badField), (s.recoverAddress q != .ok, s.recoverAddress q),
    (!(s.crane q.crane).configured, .notConfigured), (!(s.crane q.crane).unresolved, .noLoad),
    ((s.recoverJob q.crane).isSome, .duplicateJob), (!s.internalRoom, .poolFull)]).orElse (s.checkRecoverDest q)

/-- A RECOVER record before its admission number and reservation (R24). -/
def recoverJobOf (num k pallet station : Nat) : Job where
  num := num
  kind := .recover
  originator := 0
  cls := 0
  adm := 0
  pallet := pallet
  height := 0
  station := station
  stationNamed := false
  source := none
  dest := none
  zone := none
  group := 0
  position := 0
  delay := none
  linked := 0
  state := .ready
  bypass := 0
  crane := k
  srcRes := none
  dstRes := none
  inspect := false
  holdReleased := false

/-- The destination of a RECOVER is reserved at creation (R24). -/
def State.reserveRecover (s : State) (q : RecoverFields) (num pallet : Nat) : State :=
  if q.form = 0 then
    match s.checkLoc q.location with
    | .ok l => s.reserveDest num l pallet .admission
    | .error _ => s
  else
    (s.updStation q.station (fun t => { t with pend := t.pend + 1 })).updJob num
      (fun j => { j with dstRes := some { kind := .delivery, origin := .admission } })

/-- The destination location a JOB_CREATED of a RECOVER carries. -/
def State.recoverDest (s : State) (q : RecoverFields) : Option Loc :=
  if q.form = 0 then
    match s.checkLoc q.location with
    | .ok l => some l
    | .error _ => none
  else none

/-- RECOVER's effects (R114, R24): the job is created READY, a trigger, with JOB_CREATED. -/
def State.applyRecover (s : State) (q : RecoverFields) : State :=
  let num := s.internalNumber
  let pallet := (s.crane q.crane).loadId
  let st := if q.form = 0 then 0 else q.station
  let s := { s with intNext := nextInternal num }.enroll (recoverJobOf num q.crane pallet st)
  let s := (s.reserveRecover q num pallet).trigger
  s.report (.jobCreated num .recover pallet 0 q.crane none (s.recoverDest q) st)

def runRecover (tag : Nat) (q : RecoverFields) (s : State) : State :=
  s.judgedData 0x23 tag (s.checkRecover q) (fun s => s.applyRecover q) (fun _ => beBytes 4 s.internalNumber)

/-- RECOVER (R114). -/
def execRecover (tag : Nat) (q : RecoverFields) (s : State) : Host.Outcome State Fault Refusal :=
  .next (s.present (.recover tag q) (runRecover tag q))

end Sys2Proof.Machine
end

