-- ==== Sys2Proof/Machine/GroupCmds.lean ====
section
/-! DEFINITION. The requests of the station unit: GROUP_OPEN, GROUP_CLOSE, GROUP_SKIP and STATION_CLEAR. -/

namespace Sys2Proof.Machine

/-- A group id (R141). -/
def groupOk (gid : Nat) : Bool := decide (1 ≤ gid) && decide (gid ≤ 65535)

/-- A position (R141). -/
def positionOk (p : Nat) : Bool := decide (1 ≤ p) && decide (p ≤ 255)

/-! ## GROUP_OPEN (R141) -/

def State.checkGroupOpen (s : State) (gid first : Nat) : Result :=
  firstFail [(!s.notConfig, .wrongMode), (!(groupOk gid && positionOk first), .badField),
    ((s.group gid).isSome, .duplicateJob), (decide (32 ≤ s.groups.length), .groupTableFull)]

/-- A group as GROUP_OPEN adds it (R141). -/
def Group.fresh (first : Nat) : Group := { status := .opened, d := first, held := [], settled := [] }

def State.openGroup (s : State) (gid first : Nat) : State := { s with groups := tablePut gid (Group.fresh first) s.groups }

def runGroupOpen (tag gid first : Nat) (s : State) : State :=
  s.judged 0x28 tag (s.checkGroupOpen gid first) (fun s => s.openGroup gid first)

/-- GROUP_OPEN (R141). -/
def execGroupOpen (tag gid first : Nat) (s : State) : Host.Outcome State Fault Refusal :=
  .next (s.present (.groupOpen tag gid first) (runGroupOpen tag gid first))

/-! ## GROUP_CLOSE (R145) -/

/-- The group's status is CLOSING. -/
def State.groupClosing (s : State) (gid : Nat) : Bool :=
  match s.group gid with
  | some g => g.status == .closing
  | none => false

def State.checkGroupClose (s : State) (gid : Nat) : Result :=
  firstFail [(!s.notConfig, .wrongMode), (!groupOk gid, .badField), ((s.group gid).isNone, .noGroup),
    (s.groupClosing gid, .groupClosing)]

/-- An entry with an empty map is removed at once, else it becomes CLOSING (R145). -/
def State.closeGroup (s : State) (gid : Nat) : State :=
  match s.group gid with
  | none => s
  | some g =>
    if g.held.isEmpty then { s with groups := tableDrop gid s.groups }
    else { s with groups := tablePut gid { g with status := .closing } s.groups }

def runGroupClose (tag gid : Nat) (s : State) : State :=
  s.judgedData 0x29 tag (s.checkGroupClose gid) (fun s => s.closeGroup gid) (fun s => flagByte (s.group gid).isNone)

/-- GROUP_CLOSE (R145). -/
def execGroupClose (tag gid : Nat) (s : State) : Host.Outcome State Fault Refusal :=
  .next (s.present (.groupClose tag gid) (runGroupClose tag gid))

/-! ## GROUP_SKIP (R144) -/

/-- Checks 4 to 6 of R144. -/
def State.checkSkip (s : State) (gid p : Nat) : Result :=
  match s.group gid with
  | none => .noGroup
  | some g =>
    firstFail [(decide (p < g.d), .stalePosition), (g.settled.contains p, .duplicatePosition),
      ((tableGet p g.held).isSome, .inProgress)]

def State.checkGroupSkip (s : State) (gid p : Nat) : Result :=
  (firstFail [(!s.notConfig, .wrongMode), (!(groupOk gid && positionOk p), .badField)]).orElse (s.checkSkip gid p)

/-- A group's delivery counter, 0 for none. -/
def State.counter (s : State) (gid : Nat) : Nat :=
  match s.group gid with
  | some g => g.d
  | none => 0

def runGroupSkip (tag gid p : Nat) (s : State) : State :=
  s.judgedData 0x2A tag (s.checkGroupSkip gid p) (fun s => s.settle gid p) (fun s => beBytes 2 (s.counter gid))

/-- GROUP_SKIP (R144). -/
def execGroupSkip (tag gid p : Nat) (s : State) : Host.Outcome State Fault Refusal :=
  .next (s.present (.groupSkip tag gid p) (runGroupSkip tag gid p))

/-! ## STATION_CLEAR (R140) -/

/-- The station is of kind INFEED. -/
def State.isInfeed (s : State) (n : Nat) : Bool :=
  match s.station n with
  | some t => t.kind == .infeed
  | none => false

def State.checkStationClear (s : State) (station count : Nat) : Result :=
  firstFail [(!s.notConfig, .wrongMode),
    (!(decide (1 ≤ station) && decide (station ≤ 16) && decide (count ≤ 255)), .badField),
    ((s.station station).isNone, .notConfigured), (s.isInfeed station, .badField)]

/-- A station's occupancy, 0 for none. -/
def State.occupancyOf (s : State) (n : Nat) : Nat :=
  match s.station n with
  | some t => t.occ
  | none => 0

/-- The pallets a STATION_CLEAR actually clears (R140). -/
def State.cleared (s : State) (station count : Nat) : Nat := min count (s.occupancyOf station)

/-- The occupancy falls by the count, to 0 at least; a clear of at least one pallet is a trigger and tests the PUT
that waits for room (R140). -/
def State.clearStation (s : State) (station count : Nat) : State :=
  if s.cleared station count = 0 then s
  else (s.updStation station (fun t => { t with occ := t.occ - count })).trigger.retryPut station

/-- Occupancy and pending deliveries of a station (R140). -/
def State.stationData (s : State) (n : Nat) : List Byte :=
  match s.station n with
  | some t => beBytes 1 t.occ ++ beBytes 1 t.pend
  | none => beBytes 2 0

def runStationClear (tag station count : Nat) (s : State) : State :=
  s.judgedData 0x2B tag (s.checkStationClear station count) (fun s => s.clearStation station count)
    (fun t => beBytes 1 (s.cleared station count) ++ t.stationData station)

/-- STATION_CLEAR (R140). -/
def execStationClear (tag station count : Nat) (s : State) : Host.Outcome State Fault Refusal :=
  .next (s.present (.stationClear tag station count) (runStationClear tag station count))

end Sys2Proof.Machine
end

