-- ==== Sys2Proof/Machine/CraneCtl.lean ====
section
/-! DEFINITION. CRANE_CTL (R116): RESUME, PARK, PROFILE and REACH. -/

namespace Sys2Proof.Machine

/-- The checks every action shares (R116): run state, crane number, configured. -/
def State.checkCtl (s : State) (k : Nat) : Result :=
  firstFail [(!s.inRunHold, .wrongMode), (!craneOk k, .badField), (!(s.crane k).configured, .notConfigured)]

/-- The reply's data: the channel state after the request, and whether values were applied (1) or are pending (2)
(R116, R186). -/
def State.ctlData (s : State) (k staging : Nat) : List Byte := beBytes 1 (s.crane k).chan.code ++ beBytes 1 staging

/-! ## RESUME (R117) -/

/-- What the channel state gives a RESUME (R117). The silence test comes before the UNCERTAIN test. -/
def State.checkResume (s : State) (k : Nat) : Result :=
  match (s.crane k).chan with
  | .listen | .fault =>
    firstFail [(decide (3000 < (s.crane k).silence), .craneSilent), ((s.uncertainJob k).isSome, .jobUncertain)]
  | .parking => if (s.crane k).curLeg = 0 then .ok else .wrongMode
  | .parked => .ok
  | .offline | .ready | .busy | .manual => .wrongMode

/-- RESUME's effects (R117). -/
def State.applyResume (s : State) (k : Nat) : State :=
  match (s.crane k).chan with
  | .listen | .fault => s.enter k .ready .resume
  | .parking => (s.dropPark k).enter k .ready .resume
  | .parked => (s.portSend k (wakeTelegram k)).enter k .offline .wake
  | .offline | .ready | .busy | .manual => s

def runCraneCtlResume (tag k : Nat) (s : State) : State :=
  s.judgedData 0x39 tag ((s.checkCtl k).orElse (s.checkResume k)) (fun s => s.applyResume k) (fun s => s.ctlData k 0)

/-- CRANE_CTL RESUME (R117). -/
def execCraneCtlResume (tag k : Nat) (s : State) : Host.Outcome State Fault Refusal :=
  .next (s.present (.craneCtlResume tag k) (runCraneCtlResume tag k))

/-! ## PARK (R118) -/

/-- What the channel state gives a PARK (R118). -/
def State.checkPark (s : State) (k : Nat) : Result :=
  match (s.crane k).chan with
  | .ready => if (s.crane k).pos.isSome then .ok else .wrongMode
  | .busy => .ok
  | .offline | .listen | .parking | .parked | .fault | .manual => .wrongMode

/-- PARK's effects (R118). -/
def State.applyPark (s : State) (k : Nat) : State :=
  match (s.crane k).chan with
  | .ready => s.startPark k
  | .busy => s.updCrane k (fun c => { c with pendingPark := true })
  | .offline | .listen | .parking | .parked | .fault | .manual => s

def runCraneCtlPark (tag k : Nat) (s : State) : State :=
  s.judgedData 0x39 tag ((s.checkCtl k).orElse (s.checkPark k)) (fun s => s.applyPark k) (fun s => s.ctlData k 0)

/-- CRANE_CTL PARK (R118). -/
def execCraneCtlPark (tag k : Nat) (s : State) : Host.Outcome State Fault Refusal :=
  .next (s.present (.craneCtlPark tag k) (runCraneCtlPark tag k))

/-! ## PROFILE and REACH (R58, R119) -/

/-- A staged value is applied within the request unless the crane is BUSY (R59). -/
def State.applyStaged (s : State) (k : Nat) : State := if (s.crane k).chan = .busy then s else s.applyPending k

/-- 1 applied, 2 pending (R186). -/
def State.staging (s : State) (k : Nat) : Nat := if (s.crane k).chan = .busy then 2 else 1

def State.checkProfile (s : State) (k : Nat) (f : FigureFields) : Result :=
  firstFail [(!figuresOk f, .badField), ((s.crane k).pendFigures.isSome, .collision)]

/-- PROFILE's effects (R58). -/
def State.applyProfile (s : State) (k : Nat) (f : FigureFields) : State :=
  (s.updCrane k (fun c => { c with pendFigures := figuresOf f })).applyStaged k

def runCraneCtlProfile (tag k : Nat) (f : FigureFields) (s : State) : State :=
  s.judgedData 0x39 tag ((s.checkCtl k).orElse (s.checkProfile k f)) (fun s => s.applyProfile k f)
    (fun t => t.ctlData k (s.staging k))

/-- CRANE_CTL PROFILE (R58). -/
def execCraneCtlProfile (tag k : Nat) (f : FigureFields) (s : State) : Host.Outcome State Fault Refusal :=
  .next (s.present (.craneCtlProfile tag k f) (runCraneCtlProfile tag k f))

def State.checkReach (s : State) (k : Nat) (r : ReachFields) : Result :=
  firstFail [((reachOf r).isNone, .badField), ((s.crane k).pendReach.isSome, .collision)]

/-- REACH's effects (R119). -/
def State.applyReach (s : State) (k : Nat) (r : ReachFields) : State :=
  (s.updCrane k (fun c => { c with pendReach := reachOf r })).applyStaged k

def runCraneCtlReach (tag k : Nat) (r : ReachFields) (s : State) : State :=
  s.judgedData 0x39 tag ((s.checkCtl k).orElse (s.checkReach k r)) (fun s => s.applyReach k r)
    (fun t => t.ctlData k (s.staging k))

/-- CRANE_CTL REACH (R119). -/
def execCraneCtlReach (tag k : Nat) (r : ReachFields) (s : State) : Host.Outcome State Fault Refusal :=
  .next (s.present (.craneCtlReach tag k r) (runCraneCtlReach tag k r))

/-- A CRANE_CTL with an action other than the four, or a length that does not fit its action (R116, R185;
entry 29). -/
def runBadAction (tag : Nat) (s : State) : State :=
  s.conclude 0x39 tag (firstFail [(!s.inRunHold, .wrongMode), (true, .badField)]) []

end Sys2Proof.Machine
end

