-- ==== Sys2Proof/Machine/ModeCmds.lean ====
section
/-! DEFINITION. Mode control: SET_MODE, the stop input, the resume check, RESTART and POWER_ON. -/

namespace Sys2Proof.Machine

/-! ## SET_MODE (R159) -/

def State.checkMode (s : State) (runCode speed active : Nat) : Result :=
  firstFail [(!s.inRunHold, .wrongMode), ((modeRunOf runCode).isNone || (speedOf speed).isNone, .badField),
    ((aislesOf active).any (fun n => (s.aisle n).isNone), .notConfigured)]

/-- The speed class handed to a crane (R57): discards a pending class where it is the applied one, else pends. -/
def Crane.staged (c : Crane) (v : SpeedClass) : Crane := { c with pendSpeed := if c.speed = v then none else some v }

/-- The speed class is handed to one crane and applied at once when it is not BUSY (R57, R59). -/
def State.stageSpeed (v : SpeedClass) (s : State) (k : Nat) : State :=
  if (s.crane k).configured then (s.updCrane k (fun c => c.staged v)).applyStaged k else s

/-- The active aisle set is replaced: a trigger when it gains an aisle (R69, R160). -/
def State.setActive (s : State) (l : List Nat) : State :=
  let t := { s with mode := { s.mode with active := l } }
  if l.any (fun n => !s.mode.active.contains n) then t.trigger else t

/-- A running pass visits no further crane (R71); its end, with the first legs of its plans, is all that is left. -/
def Pass.stopped (p : Pass) : Pass := { p with toVisit := [] }

/-- The run state becomes RUN or HOLD: entry into RUN is a trigger; in HOLD a due pass is no longer due, and a running
one visits no further crane (R68, R71, R159). -/
def State.setRun (s : State) (r : RunState) : State :=
  let t := { s with mode := { s.mode with run := r } }
  if r = .run then (if s.mode.run = .run then t else t.trigger)
  else { t with passDue := false, passRun := s.passRun.map Pass.stopped }

/-- SET_MODE's effects in the order of R159. -/
def State.applyMode (s : State) (newRun : RunState) (speed : SpeedClass) (active : List Nat) : State :=
  let t := craneNumbers.foldl (State.stageSpeed speed) { s with mode := { s.mode with speed := speed } }
  let t := (t.setRun newRun).setActive active
  if newRun ≠ s.mode.run ∨ speed ≠ s.mode.speed ∨ active ≠ s.mode.active then t.reportMode .setMode else t

/-- The three values in force (R159, R186). -/
def State.modeData (s : State) : List Byte :=
  beBytes 1 s.mode.run.code ++ beBytes 1 s.mode.speed.code ++ beBytes 1 (aislesByte s.mode.active)

def runSetMode (tag runCode speed active : Nat) (s : State) : State :=
  s.judgedData 0x38 tag (s.checkMode runCode speed active)
    (fun s => s.applyMode ((modeRunOf runCode).getD .hold) ((speedOf speed).getD .normal) (aislesOf active)) State.modeData

/-- SET_MODE (R159). -/
def execSetMode (tag runCode speed active : Nat) (s : State) : Host.Outcome State Fault Refusal :=
  .next (s.present (.setMode tag runCode speed active) (runSetMode tag runCode speed active))

/-! ## The stop input and SAFE (R163, R164, R120) -/

/-- The channel is stopped at SAFE entry (R120). -/
def ChanState.inService : ChanState → Bool
  | .ready | .busy | .parking => true
  | .offline | .listen | .parked | .fault | .manual => false

/-- One channel at SAFE entry (R120). -/
def State.safeCrane (s : State) (k : Nat) : State :=
  if (s.crane k).configured && (s.crane k).chan.inService then
    let s := if (s.crane k).chan = .busy ∨ (s.crane k).curLeg ≠ 0 then s.stopCrane k else s
    let s := s.haltCrane k none
    (s.updCrane k (fun c => { c with stopHalted := true })).enter k .listen .stop
  else s

/-- The cranes that SAFE entry stops. -/
def State.inServiceCranes (s : State) : List Nat :=
  craneNumbers.filter (fun k => (s.crane k).configured && (s.crane k).chan.inService)

/-- SAFE entry (R164): a due pass is no longer due and a running one ends, the channels act, the snapshot is taken, and
MODE_CHANGED is the last report, behind those of the re-examinations that the broken plans cause (R161, R38). -/
def State.enterSafe (s : State) : State :=
  let stopped := s.inServiceCranes
  let s := { s with mode := { s.mode with run := .safe }, passDue := false, passRun := none }
  let s := craneNumbers.foldl State.safeCrane s
  let snap := stopped.map (fun k => (k, (s.crane k).load))
  { s with mode := { s.mode with snapshot := some snap } }.reexamine.reportMode .stop

def Marks.clear : Marks := { auto := false, powerUp := false, manual := false }

/-- A new resume check over the stop-halted channels, all marks clear (R165). -/
def State.newCheck (s : State) : Check where
  remaining := 5000
  records := (craneNumbers.filter (fun k => (s.crane k).stopHalted)).map (fun k => (k, Marks.clear))

def State.startCheck (s : State) : State := { s with mode := { s.mode with check := some s.newCheck } }

/-- A change of the stop input (R163), debounced (R172). A state it already has is no change (entry 27). -/
def State.stopInput (s : State) (asserted : Bool) : State :=
  if s.mode.stop = asserted then s
  else
    let s := { s with mode := { s.mode with stop := asserted } }
    match s.mode.run, asserted with
    | .config, _ => s
    | .run, true | .hold, true => s.enterSafe
    | .run, false | .hold, false => s
    | .safe, false => s.startCheck
    | .safe, true => { s with mode := { s.mode with check := none } }

/-- The stop input has settled after power-on (R172). -/
def State.settleStop (s : State) : State := { s with mode := { s.mode with settled := true } }

/-- STOP_INPUT_CHANGE (R163, R172): the contact's new state has stood for 10 ms. -/
def execStopInputChange (asserted : Bool) (s : State) : Host.Outcome State Fault Refusal :=
  .next (s.settleStop.stopInput asserted).finish

/-- STOP_INPUT_SETTLED (R172): the input takes the state the contact has held since power-on; once settled, no more
effect. -/
def execStopInputSettled (asserted : Bool) (s : State) : Host.Outcome State Fault Refusal :=
  .next (if s.mode.settled then s else (s.settleStop.stopInput asserted).finish)

/-! ## The resume check (R166) -/

/-- The load of record in the stop snapshot. -/
def Mode.snapLoad (m : Mode) (k : Nat) : Option Load :=
  match m.snapshot with
  | none => none
  | some t => (tableGet k t).getD none

/-- The result of one stop-halted channel: the first row of R166 that applies. -/
def checkResult (chan : ChanState) (m : Marks) (same : Bool) : CheckResult :=
  if chan = .fault then .fault
  else if chan = .manual ∨ m.manual = true then .manual
  else if m.powerUp then .powerUp
  else if !m.auto then .silent
  else if same then .ready
  else .loadChanged

/-- The marks of a crane's record, all clear where it has none. -/
def Check.marks (c : Check) (k : Nat) : Marks := (tableGet k c.records).getD Marks.clear

/-- The result of crane `k` (R166). -/
def State.resultOf (s : State) (c : Check) (k : Nat) : CheckResult :=
  checkResult (s.crane k).chan (c.marks k) ((s.crane k).load == s.mode.snapLoad k)

/-- What a result makes of the channel (R166). -/
def State.applyResult (s : State) (k : Nat) (r : CheckResult) : State :=
  match r with
  | .ready | .loadChanged => s.enter k .ready .resumeCheck
  | .silent => s.enterFault k .silent none
  | .manual | .powerUp | .fault => s

/-- The stop-halted channels take their results in ascending crane number; collected for the report (R166). -/
def checkVisit (c : Check) (p : State × List (Nat × CheckResult)) (k : Nat) : State × List (Nat × CheckResult) :=
  if (p.1.crane k).stopHalted then (p.1.applyResult k (p.1.resultOf c k), p.2 ++ [(k, p.1.resultOf c k)]) else p

/-- Every stop-halted flag is cleared (R166). -/
def State.clearHalted (s : State) : State := { s with cranes := s.cranes.map (fun c => { c with stopHalted := false }) }

/-- The end of the resume check (R166). -/
def State.endCheck (s : State) (c : Check) : State :=
  let r := craneNumbers.foldl (checkVisit c) (s, [])
  let t := r.1.clearHalted
  let t := { t with mode := { t.mode with run := .hold, check := none, snapshot := none }, passDue := false, passRun := none }
  (t.report (.resumeCheck r.2)).reportMode .resumeCheck

/-- RESUME_CHECK_EXPIRY (R166). -/
def execResumeCheckExpiry (s : State) : Host.Outcome State Fault Refusal :=
  match s.mode.check with
  | none => .next s
  | some c => .next (s.endCheck c).finish

/-! ## RESTART (R167) -/

/-- A location record after RESTART (R22). -/
def LocRec.restarted (r : LocRec) : LocRec :=
  match r.occ with
  | .inbound => { r with occ := .empty, pallet := none }
  | .outbound => { r with occ := .full }
  | .empty | .full | .unknown => r

/-- The channel state after RESTART (R121). -/
def ChanState.restarted : ChanState → ChanState
  | .offline => .offline
  | .parked => .parked
  | .listen | .ready | .busy | .parking | .fault | .manual => .listen

/-- A crane record after RESTART (R121): what it does not name is kept, but for the port's receiver, which searches
(R173, R174; entry 41). -/
def Crane.restarted (c : Crane) : Crane :=
  { c.withPending with
    chan := c.chan.restarted, stopHalted := false, pendingPark := false, plan := [], cycle := none, estimate := 0
    parkLeg := none, curLeg := 0, legEst := 0, takenTimer := none, legTimer := none, parkHold := none, bad := 0
    roomWait := false, request := none, rx := .searching, load := c.load.map (fun l => { l with resolved := false }) }

/-- STOP goes to a BUSY crane and to a PARKING crane with its park leg outstanding (R121). -/
def State.restartStop (s : State) (k : Nat) : State :=
  if (s.crane k).chan = .busy ∨ ((s.crane k).chan = .parking ∧ (s.crane k).curLeg ≠ 0) then s.stopCrane k else s

/-- The run state after RESTART (R167). -/
def Mode.restartedRun (m : Mode) : RunState :=
  match m.run with
  | .config => .config
  | .run | .hold => .hold
  | .safe => if m.stop then .safe else .hold

/-- The link unit after RESTART (R181): a head telegram whose sending has begun stays. -/
def Link.restarted (l : Link) : Link :=
  { l with rx := .searching, ring := [], overrun := false, lost := 0, out := if l.begun then l.out.take 1 else [] }

/-- Every block after RESTART (R167). -/
def State.restarted (s : State) : State :=
  let s := craneNumbers.foldl State.restartStop s
  { s with
    locs := s.locs.map (fun e => (e.1, e.2.restarted))
    pool := []
    admNext := 1
    intNext := 2147483648
    stations := s.stations.map (fun e => (e.1, { e.2 with pend := 0, queue := [] }))
    groups := []
    holds := []
    cranes := s.cranes.map Crane.restarted
    readyOrder := []
    passDue := false
    passRun := none
    mode := { s.mode with run := s.mode.restartedRun, check := none, snapshot := none }
    link := s.link.restarted
    work := { pairs := [], allBusy := false } }

def runRestart (tag : Nat) (s : State) : State :=
  s.restarted.conclude 0x3F tag .ok (beBytes 1 s.mode.restartedRun.code)

/-- RESTART (R167). -/
def execRestart (tag : Nat) (s : State) : Host.Outcome State Fault Refusal :=
  .next (s.present (.restart tag) (runRestart tag))

/-! ## POWER_ON (R168) -/

/-- POWER_ON (R168): every block at its power-on values. The host-ready line, the telegrams already sent and the
commands still to come are the outside world's and stay (entry 23). -/
def execPowerOn (s : State) : Host.Outcome State Fault Refusal :=
  .next { State.reset with
    link := { Link.reset with hostReady := s.link.hostReady }, portOut := s.portOut, hostOut := s.hostOut, pending := s.pending }

end Sys2Proof.Machine
end

