-- ==== Sys2Proof/Machine/CraneTelegrams.lean ====
section
/-! DEFINITION. What arrives on a crane port: TAKEN, DONE, FAILED, STATE, a frame with a wrong check and a discarded
telegram. A port whose crane is not configured discards everything (R92). -/

namespace Sys2Proof.Machine

/-- A frame reaches a configured channel; any other port discards it (R92). -/
def State.onPort (s : State) (k : Nat) (f : State → State) : State := if (s.crane k).configured then f s else s

/-- TAKEN of the current leg whose leg timer has not started (R102). -/
def Crane.takes (c : Crane) (id : Nat) : Bool := id != 0 && id == c.curLeg && c.legTimer.isNone

/-- The TAKEN timer stops and the leg timer starts at the estimate plus the margin (R102). -/
def Crane.taken (c : Crane) (margin : Nat) : Crane := { c with takenTimer := none, legTimer := some (c.legEst + margin) }

def runTaken (k id : Nat) (s : State) : State :=
  let s := (s.hear k).heard k
  (if (s.crane k).takes id then s.updCrane k (fun c => c.taken s.policy.margin) else s).finish

/-- TAKEN (R102). -/
def execTaken (k id : Nat) (s : State) : Host.Outcome State Fault Refusal := .next (s.onPort k (runTaken k id))

def runDone (k id x y load : Nat) (s : State) : State := s.onDone k id { x := x, y := y } load

/-- DONE (R103 to R105). -/
def execDone (k id x y load : Nat) (s : State) : Host.Outcome State Fault Refusal :=
  .next (s.onPort k (runDone k id x y load))

def runFailed (k id reason x y load : Nat) (s : State) : State := s.onFailed k id reason { x := x, y := y } load

/-- FAILED (R106 to R109). -/
def execFailed (k id reason x y load : Nat) (s : State) : Host.Outcome State Fault Refusal :=
  .next (s.onPort k (runFailed k id reason x y load))

/-- A STATE's mode and flags are of those R188 lists. -/
def stateOk (mode flags : Nat) : Bool := decide (mode ≤ 1) && decide (flags ≤ 1)

/-- A STATE with another mode or flag is discarded after it has counted as a valid telegram (R188, R92). -/
def runState (k mode flags x y load : Nat) (s : State) : State :=
  if stateOk mode flags then s.onState k (mode == 1) (flags == 1) { x := x, y := y } load else s.hear k

/-- STATE (R100). -/
def execState (k mode flags x y load : Nat) (s : State) : Host.Outcome State Fault Refusal :=
  .next (s.onPort k (runState k mode flags x y load))

/-- Four bad frames take these states to FAULT(LINK) (R92). -/
def ChanState.countsBad : ChanState → Bool
  | .listen | .ready | .busy | .parking => true
  | .offline | .parked | .fault | .manual => false

/-- A frame with a wrong check (R92): the count rises; at 4 a channel in service enters FAULT(LINK) and the count
returns to 0, elsewhere the count stays at 4. -/
def runBadFrame (k : Nat) (s : State) : State :=
  if 4 ≤ (s.crane k).bad + 1 then
    if (s.crane k).chan.countsBad then
      (((s.updCrane k (fun c => { c with bad := 0 })).enterFault k .link none)).finish
    else s.updCrane k (fun c => { c with bad := 4 })
  else s.updCrane k (fun c => { c with bad := c.bad + 1 })

/-- CRANE_BAD_FRAME (R92). -/
def execCraneBadFrame (k : Nat) (s : State) : Host.Outcome State Fault Refusal := .next (s.onPort k (runBadFrame k))

/-- CRANE_TELEGRAM_DISCARDED (R92): it counts as a valid telegram and has no other effect. -/
def execCraneTelegramDiscarded (k : Nat) (s : State) : Host.Outcome State Fault Refusal :=
  .next (s.onPort k (fun s => s.hear k))

/-- A crane telegram read from a port (R188). -/
def runCraneTelegram (s : State) : Instr → State
  | .taken k id => runTaken k id s
  | .done k id x y load => runDone k id x y load s
  | .failed k id reason x y load => runFailed k id reason x y load s
  | .state k mode flags x y load => runState k mode flags x y load s
  | _ => s

end Sys2Proof.Machine
end

