-- ==== Sys2Proof/Machine/Timers.lean ====
section
/-! DEFINITION. The expiries of the controller's timers (entry 4), and the passing of a millisecond (entry 2). -/

namespace Sys2Proof.Machine

/-- TAKEN_TIMER_EXPIRY (R102): FAULT(NO_ANSWER), the plan broken without load information. -/
def execTakenTimerExpiry (k : Nat) (s : State) : Host.Outcome State Fault Refusal :=
  .next (if (s.crane k).takenTimer.isSome then (s.enterFault k .noAnswer none).finish else s)

/-- LEG_TIMER_EXPIRY (R102): FAULT(TIMEOUT), the plan broken without load information. -/
def execLegTimerExpiry (k : Nat) (s : State) : Host.Outcome State Fault Refusal :=
  .next (if (s.crane k).legTimer.isSome then (s.enterFault k .timeout none).finish else s)

/-- The silence timer has passed 3,000 ms. -/
def Crane.silent (c : Crane) : Crane := { c with silence := max c.silence 3001 }

/-- SILENCE_TIMEOUT (R94): FAULT(SILENT) in READY, BUSY and PARKING, no change of state elsewhere. -/
def execSilenceTimeout (k : Nat) (s : State) : Host.Outcome State Fault Refusal :=
  .next (if (s.crane k).chan.inService then ((s.updCrane k Crane.silent).enterFault k .silent none).finish
    else s.updCrane k Crane.silent)

/-- PARKING_HOLD_EXPIRY (R118): SLEEP is sent and the channel enters PARKED. -/
def execParkingHoldExpiry (k : Nat) (s : State) : Host.Outcome State Fault Refusal :=
  .next (if (s.crane k).parkHold.isSome then (s.sleep k).finish else s)

/-- The job waits for its earliest start. -/
def State.waitsNotYet (s : State) (n : Nat) : Bool :=
  match s.job n with
  | some j => j.state == .waiting .notYet
  | none => false

/-- EARLIEST_START_EXPIRY (R36): the job's readiness is evaluated. -/
def execEarliestStartExpiry (n : Nat) (s : State) : Host.Outcome State Fault Refusal :=
  .next (if s.waitsNotYet n then (s.evaluate n).finish else s)

/-- The hold of crane `k` runs out (R152): the entry ends, the job is marked, the PUT is sent. -/
def State.expireHold (s : State) (k : Nat) (h : Hold) : State :=
  ({ s with holds := tableDrop k s.holds }.updJob h.job (fun j => { j with holdReleased := true })).goOn k

/-- HOLD_EXPIRY (R152). -/
def execHoldExpiry (k : Nat) (s : State) : Host.Outcome State Fault Refusal :=
  match tableGet k s.holds with
  | none => .next s
  | some h => .next (s.expireHold k h).finish

/-! ## The passing of time (entry 2) -/

/-- A running timer counts down one millisecond; its expiry is an event of its own. -/
def timerTick (t : Option Nat) : Option Nat := t.map (· - 1)

def Crane.tick (c : Crane) : Crane :=
  { c with
    takenTimer := timerTick c.takenTimer, legTimer := timerTick c.legTimer, parkHold := timerTick c.parkHold
    silence := countUp c.silence }

def Mode.tick (m : Mode) : Mode := { m with check := m.check.map (fun c => { c with remaining := c.remaining - 1 }) }

/-- One millisecond passes: every timer of R36, R94, R102, R118, R149 and R165 runs. -/
def State.tick (s : State) : State :=
  { s with
    cranes := s.cranes.map Crane.tick
    pool := s.pool.map (fun j => { j with delay := timerTick j.delay })
    holds := s.holds.map (fun e => (e.1, { e.2 with timer := e.2.timer - 1 }))
    mode := s.mode.tick }

end Sys2Proof.Machine
end

