-- ==== Sys2Proof/Machine/LinkCmds.lean ====
section
/-! DEFINITION. The byte side of the lines: the receivers (R174, R175), the host-ready line (R171) and the end of a
telegram's sending (R178, R179). -/

namespace Sys2Proof.Machine

/-- What a received byte completes. -/
inductive RxEvent where
  /-- nothing -/
  | quiet
  /-- a length in range that finds no room (R175) -/
  | overrun
  /-- a complete frame, its check right or wrong (R174) -/
  | frame (body : List Byte) (good : Bool)
  deriving DecidableEq, Repr

/-- The frame marker (R173). -/
def markerByte : Byte := 0xC3

/-- The receiver after a length out of range: the two length bytes are examined again (R174). -/
def rescan (high low : Byte) : Rx :=
  if high = markerByte then .length low else if low = markerByte then .marker else .searching

/-- A complete frame: body, then the two check bytes (R173, R174). -/
def frameEvent (bytes : List Byte) : RxEvent :=
  let body := bytes.take (bytes.length - 2)
  .frame body (checkSum body == beNat (bytes.drop (bytes.length - 2)))

/-- A received byte (R174): lengths from `lo` to 1,024 are in range, and `room` tests the ring (R175). -/
def rxByte (lo : Nat) (room : Nat → Bool) (rx : Rx) (b : Byte) : Rx × RxEvent :=
  match rx with
  | .searching => (if b = markerByte then .marker else .searching, .quiet)
  | .marker => (.length b, .quiet)
  | .length high =>
    let n := high.toNat * 256 + b.toNat
    if n < lo ∨ 1024 < n then (rescan high b, .quiet)
    else if room (n + 2) then (.body (n + 2) [] true, .quiet)
    else (.body (n + 2) [] false, .overrun)
  | .body need got stored =>
    if need ≤ 1 then (.searching, if stored then frameEvent (b :: got).reverse else .quiet)
    else (.body (need - 1) (if stored then b :: got else []) stored, .quiet)

/-- The receiver is IN_FRAME (R174). -/
def Rx.inFrame : Rx → Bool
  | .searching => false
  | .marker | .length _ | .body _ _ _ => true

/-! ## The host link's receiver -/

/-- The link unit after a received byte: a good frame becomes a waiting request, a bad one is counted, a frame
without room sets the overrun flag as its second length byte is tested (R174, R175; entry 48). -/
def Link.byte (l : Link) (b : Byte) : Link :=
  let r := rxByte 3 l.roomFor l.rx b
  let l := { l with rx := r.1 }
  match r.2 with
  | .quiet => l
  | .overrun => { l with overrun := true }
  | .frame body true => { l with ring := l.ring ++ [body] }
  | .frame _ false => { l with errors := countUp l.errors }

def Link.bytes (l : Link) (bs : List Byte) : Link := bs.foldl Link.byte l

/-- A frame whose bytes stop coming is abandoned and counted (R174). -/
def Link.gap (l : Link) : Link := if l.rx.inFrame then { l with rx := .searching, errors := countUp l.errors } else l

/-! ## A crane port's receiver (R173) -/

/-- What a completed frame does on a crane port (R92, R188). -/
def State.portEvent (s : State) (k : Nat) : RxEvent → State
  | .quiet | .overrun => s
  | .frame _ false => runBadFrame k s
  | .frame body true =>
    match decodeCrane k body with
    | some i => runCraneTelegram s i
    | none => s.hear k

/-- A byte on a configured crane port. -/
def State.portByte (k : Nat) (s : State) (b : Byte) : State :=
  if (s.crane k).configured then
    let r := rxByte 2 (fun _ => true) (s.crane k).rx b
    (s.updCrane k (fun c => { c with rx := r.1 })).portEvent k r.2
  else s

/-- A frame on a crane port whose bytes stop coming counts as one with a wrong check (R174). -/
def State.portGap (s : State) (k : Nat) : State :=
  if (s.crane k).rx.inFrame then runBadFrame k (s.updCrane k (fun c => { c with rx := .searching })) else s

/-- Bytes arrive on a line: port 0 is the host link (entry 24). -/
def State.lineBytes (s : State) (port : Nat) (bytes : List Byte) : State :=
  if port = 0 then { s with link := s.link.bytes bytes } else bytes.foldl (State.portByte port) s

/-- HOST_FRAME (R174): the bytes that complete a frame. -/
def execHostFrame (bytes : List Byte) (s : State) : Host.Outcome State Fault Refusal := .next (s.lineBytes 0 bytes)

/-- FRAME_GAP_TIMEOUT (R174): bytes, then more than 20 ms without one. -/
def execFrameGapTimeout (port : Nat) (bytes : List Byte) (s : State) : Host.Outcome State Fault Refusal :=
  .next (if port = 0 then { s with link := (s.link.bytes bytes).gap }
    else (s.lineBytes port bytes).onPort port (fun s => s.portGap port))

/-- BODY_LENGTH_OUT_OF_RANGE (R174): the bytes up to the second length byte. -/
def execBodyLengthOutOfRange (port : Nat) (bytes : List Byte) (s : State) : Host.Outcome State Fault Refusal :=
  .next (s.lineBytes port bytes)

/-! ## Sending (R171, R178, R179) -/

/-- HOST_READY_CHANGE (R171): asserted, the oldest waiting telegram is begun; withdrawn, none is begun. -/
def execHostReadyChange (ready : Bool) (s : State) : Host.Outcome State Fault Refusal :=
  .next { s with link := { s.link with hostReady := ready }.start }

/-- REPORTS_LOST is made when reports were lost and two places are free (R179). -/
def Link.reportLost (l : Link) : Link :=
  if 0 < l.lost ∧ l.out.length + 2 ≤ 128 then
    { l with out := l.out ++ [.report (.reportsLost l.lost)], lost := 0 }
  else l

/-- The head telegram's last byte has been sent (R178): it leaves the queue, REPORTS_LOST is tested, the next telegram
is begun. -/
def Link.sent (l : Link) : Link := ({ l with out := l.out.tail, begun := false }.reportLost).start

/-- TELEGRAM_SENT (R178). With no telegram begun it has no effect (entry 28). -/
def execTelegramSent (s : State) : Host.Outcome State Fault Refusal :=
  .next (if s.link.begun then
      { s with link := s.link.sent, hostOut := s.hostOut ++ (s.link.out.take 1).map (fun t => frameBytes t.body) }
    else s)

end Sys2Proof.Machine
end

