-- ==== Sys2Proof/Machine/Take.lean ====
section
/-! DEFINITION. The taking of a waiting request from the input ring (R176). -/

namespace Sys2Proof.Machine

/-- A request is handled by the block that owns it. A command that is no request is never read from the ring. -/
def runRequest : Instr → State → State
  | .unknownCode tag code _ => runUnknownCode tag code
  | .identify tag => runIdentify tag
  | .status tag clear => runStatus tag clear
  | .queryJob tag job => runQueryJob tag job
  | .queryLoc tag q => runQueryLoc tag q
  | .queryCrane tag k => runQueryCrane tag k
  | .queryGroup tag gid => runQueryGroup tag gid
  | .queryPolicy tag => runQueryPolicy tag
  | .setAisle tag q => runSetAisle tag q
  | .setCrane tag q => runSetCrane tag q
  | .setStation tag q => runSetStation tag q
  | .setPolicy tag q => runSetPolicy tag q
  | .setOriginator tag originator aisle mask preset => runSetOriginator tag originator aisle mask preset
  | .loadMap tag column entries => runLoadMap tag column entries
  | .start tag => runStart tag
  | .store tag q => runStore tag q
  | .retrieve tag q => runRetrieve tag q
  | .cancel tag job => runCancel tag job
  | .recover tag q => runRecover tag q
  | .groupOpen tag gid first => runGroupOpen tag gid first
  | .groupClose tag gid => runGroupClose tag gid
  | .groupSkip tag gid p => runGroupSkip tag gid p
  | .stationClear tag station count => runStationClear tag station count
  | .setLoc tag q => runSetLoc tag q
  | .setAttr tag originator q attrs => runSetAttr tag originator q attrs
  | .mark tag originator q word => runMark tag originator q word
  | .setMode tag runCode speed active => runSetMode tag runCode speed active
  | .craneCtlResume tag k => runCraneCtlResume tag k
  | .craneCtlPark tag k => runCraneCtlPark tag k
  | .craneCtlProfile tag k f => runCraneCtlProfile tag k f
  | .craneCtlReach tag k r => runCraneCtlReach tag k r
  | .restart tag => runRestart tag
  | .powerOn | .hostFrame _ | .frameGapTimeout _ _ | .hostReadyChange _ | .telegramSent => id
  | .stopInputChange _ | .resumeCheckExpiry | .taken _ _ | .done _ _ _ _ _ | .failed _ _ _ _ _ _ => id
  | .state _ _ _ _ _ _ | .craneBadFrame _ | .craneTelegramDiscarded _ | .takenTimerExpiry _ => id
  | .legTimerExpiry _ | .silenceTimeout _ | .parkingHoldExpiry _ | .earliestStartExpiry _ | .holdExpiry _ => id
  | .stopInputSettled _ | .bodyLengthOutOfRange _ _ => id

/-- What the link unit makes of a body (R176): the tests of code and length, then the owning block. -/
def runBody (body : List Byte) (s : State) : State :=
  match decodeRequest body with
  | .command i => runRequest i s
  | .badLength code tag => s.conclude code tag .badField []
  | .badAction tag => runBadAction tag s

/-- The oldest waiting request is taken (R176): its ring bytes are freed, and it is handled whole. -/
def State.takeRequest (s : State) : State :=
  match s.link.ring with
  | [] => s
  | body :: rest => runBody body { s with link := { s.link with ring := rest } }

/-- What happens when no command waits (entry 2): the dispatch engine goes on with its pass; with no pass running or due,
the link unit takes a waiting request when it may, else one millisecond passes. -/
def State.idle (s : State) : State :=
  if s.dispatches then s.dispatch else if !s.link.ring.isEmpty && s.canTake then s.takeRequest else s.tick

end Sys2Proof.Machine
end

