-- ==== Sys2Proof/Machine/Dispatch.lean ====
section
/-! DEFINITION. One arm per command, each one direct call of its meaning. -/

namespace Sys2Proof.Machine

def exec (i : Instr) (s : State) : Host.Outcome State Fault Refusal :=
  match i with
  | .powerOn => Sys2Proof.Machine.execPowerOn s
  | .hostFrame bytes => Sys2Proof.Machine.execHostFrame bytes s
  | .frameGapTimeout port bytes => Sys2Proof.Machine.execFrameGapTimeout port bytes s
  | .hostReadyChange ready => Sys2Proof.Machine.execHostReadyChange ready s
  | .telegramSent => Sys2Proof.Machine.execTelegramSent s
  | .unknownCode tag code fields => Sys2Proof.Machine.execUnknownCode tag code fields s
  | .identify tag => Sys2Proof.Machine.execIdentify tag s
  | .status tag clear => Sys2Proof.Machine.execStatus tag clear s
  | .queryJob tag job => Sys2Proof.Machine.execQueryJob tag job s
  | .queryLoc tag location => Sys2Proof.Machine.execQueryLoc tag location s
  | .queryCrane tag crane => Sys2Proof.Machine.execQueryCrane tag crane s
  | .queryGroup tag group => Sys2Proof.Machine.execQueryGroup tag group s
  | .queryPolicy tag => Sys2Proof.Machine.execQueryPolicy tag s
  | .setAisle tag q => Sys2Proof.Machine.execSetAisle tag q s
  | .setCrane tag q => Sys2Proof.Machine.execSetCrane tag q s
  | .setStation tag q => Sys2Proof.Machine.execSetStation tag q s
  | .setPolicy tag q => Sys2Proof.Machine.execSetPolicy tag q s
  | .setOriginator tag originator aisle mask preset => Sys2Proof.Machine.execSetOriginator tag originator aisle mask preset s
  | .loadMap tag column entries => Sys2Proof.Machine.execLoadMap tag column entries s
  | .start tag => Sys2Proof.Machine.execStart tag s
  | .store tag q => Sys2Proof.Machine.execStore tag q s
  | .retrieve tag q => Sys2Proof.Machine.execRetrieve tag q s
  | .cancel tag job => Sys2Proof.Machine.execCancel tag job s
  | .recover tag q => Sys2Proof.Machine.execRecover tag q s
  | .groupOpen tag group first => Sys2Proof.Machine.execGroupOpen tag group first s
  | .groupClose tag group => Sys2Proof.Machine.execGroupClose tag group s
  | .groupSkip tag group position => Sys2Proof.Machine.execGroupSkip tag group position s
  | .stationClear tag station count => Sys2Proof.Machine.execStationClear tag station count s
  | .setLoc tag q => Sys2Proof.Machine.execSetLoc tag q s
  | .setAttr tag originator location attrs => Sys2Proof.Machine.execSetAttr tag originator location attrs s
  | .mark tag originator column levels => Sys2Proof.Machine.execMark tag originator column levels s
  | .setMode tag runCode speed active => Sys2Proof.Machine.execSetMode tag runCode speed active s
  | .craneCtlResume tag crane => Sys2Proof.Machine.execCraneCtlResume tag crane s
  | .craneCtlPark tag crane => Sys2Proof.Machine.execCraneCtlPark tag crane s
  | .craneCtlProfile tag crane figures => Sys2Proof.Machine.execCraneCtlProfile tag crane figures s
  | .craneCtlReach tag crane reach => Sys2Proof.Machine.execCraneCtlReach tag crane reach s
  | .restart tag => Sys2Proof.Machine.execRestart tag s
  | .stopInputChange asserted => Sys2Proof.Machine.execStopInputChange asserted s
  | .resumeCheckExpiry => Sys2Proof.Machine.execResumeCheckExpiry s
  | .taken crane legId => Sys2Proof.Machine.execTaken crane legId s
  | .done crane legId x y load => Sys2Proof.Machine.execDone crane legId x y load s
  | .failed crane legId reason x y load => Sys2Proof.Machine.execFailed crane legId reason x y load s
  | .state crane mode flags x y load => Sys2Proof.Machine.execState crane mode flags x y load s
  | .craneBadFrame crane => Sys2Proof.Machine.execCraneBadFrame crane s
  | .craneTelegramDiscarded crane => Sys2Proof.Machine.execCraneTelegramDiscarded crane s
  | .takenTimerExpiry crane => Sys2Proof.Machine.execTakenTimerExpiry crane s
  | .legTimerExpiry crane => Sys2Proof.Machine.execLegTimerExpiry crane s
  | .silenceTimeout crane => Sys2Proof.Machine.execSilenceTimeout crane s
  | .parkingHoldExpiry crane => Sys2Proof.Machine.execParkingHoldExpiry crane s
  | .earliestStartExpiry job => Sys2Proof.Machine.execEarliestStartExpiry job s
  | .holdExpiry crane => Sys2Proof.Machine.execHoldExpiry crane s
  | .stopInputSettled asserted => Sys2Proof.Machine.execStopInputSettled asserted s
  | .bodyLengthOutOfRange port bytes => Sys2Proof.Machine.execBodyLengthOutOfRange port bytes s

end Sys2Proof.Machine
end

