-- ==== Sys2Proof/Safety.lean ====
section
/-! DEFINITION. What counts as a sound state and a safe step, in the terms the claims use. -/

namespace Sys2Proof

/-- The commands that may change the run state (R157 to R168). -/
def Instr.setsRun : Instr → Bool
  | .powerOn | .start _ | .setMode _ _ _ _ | .restart _ | .stopInputChange _ | .stopInputSettled _ | .resumeCheckExpiry => true
  | .hostFrame _ | .frameGapTimeout _ _ | .hostReadyChange _ | .telegramSent | .unknownCode _ _ _ | .identify _ => false
  | .status _ _ | .queryJob _ _ | .queryLoc _ _ | .queryCrane _ _ | .queryGroup _ _ | .queryPolicy _ => false
  | .setAisle _ _ | .setCrane _ _ | .setStation _ _ | .setPolicy _ _ | .setOriginator _ _ _ _ _ | .loadMap _ _ _ => false
  | .store _ _ | .retrieve _ _ | .cancel _ _ | .recover _ _ | .groupOpen _ _ _ | .groupClose _ _ => false
  | .groupSkip _ _ _ | .stationClear _ _ _ | .setLoc _ _ | .setAttr _ _ _ _ | .mark _ _ _ _ => false
  | .craneCtlResume _ _ | .craneCtlPark _ _ | .craneCtlProfile _ _ _ | .craneCtlReach _ _ _ => false
  | .taken _ _ | .done _ _ _ _ _ | .failed _ _ _ _ _ _ | .state _ _ _ _ _ _ | .craneBadFrame _ => false
  | .craneTelegramDiscarded _ | .takenTimerExpiry _ | .legTimerExpiry _ | .silenceTimeout _ => false
  | .parkingHoldExpiry _ | .earliestStartExpiry _ | .holdExpiry _ | .bodyLengthOutOfRange _ _ => false

/-- The lengths behind code and tag that R185 gives the requests of one length. -/
def requestLengths : List (Nat × Nat) :=
  [(0x01, 0), (0x02, 1), (0x03, 4), (0x04, 5), (0x05, 1), (0x06, 2), (0x07, 0), (0x10, 15), (0x11, 44), (0x12, 11),
   (0x13, 27), (0x14, 4), (0x16, 0), (0x20, 22), (0x21, 22), (0x22, 4), (0x23, 8), (0x28, 3), (0x29, 2), (0x2A, 3),
   (0x2B, 2), (0x30, 11), (0x31, 7), (0x32, 9), (0x38, 3), (0x3F, 0)]

end Sys2Proof

namespace Sys2Proof.Machine

/-- A step answers a next state: the manual stops the controller on nothing. -/
abbrev goesOn (o : Host.Outcome State Fault Refusal) : Prop := ∃ t, o = .next t

/-! ## Invariants -/

/-- The ranges of a location address that R3 can pass (R1). -/
abbrev Loc.inRanges (l : Loc) : Prop := 1 ≤ l.column ∧ l.column ≤ 96 ∧ 1 ≤ l.level ∧ l.level ≤ 32

/-- The location table is in canonical form: keys strictly rising, no entry equal to what an unlisted location reads
as. -/
abbrev locsWf (t : Assoc LocRec) : Prop := tableRising t ∧ ∀ e ∈ t, e.2 ≠ LocRec.created

/-- The output queue's bounds (R178): at most 127 reports and at most one reply. -/
abbrev Link.bounded (l : Link) : Prop := l.reports ≤ 127 ∧ (l.out.filter Telegram.isReply).length ≤ 1

/-- A frame whose bytes are stored has a byte to come, and its body and check have at least five bytes (R173). -/
def Rx.sound : Rx → Prop
  | .body need got true => 1 ≤ need ∧ 5 ≤ need + got.length
  | .body _ _ false | .searching | .marker | .length _ => True

/-- The waiting requests and the frame being received fit the input ring of 2,048 bytes (R175). -/
def Link.ringFits (l : Link) : Prop := l.ringBytes + l.rx.setAside ≤ 2048 ∧ l.rx.sound

/-- The pool's places (R27), its admission order, and the counter above every number given out (R26). -/
def State.poolSound (s : State) : Prop :=
  s.hostJobs ≤ 496 ∧ s.internalJobs ≤ 16 ∧ s.pool.Pairwise (fun i j => i.adm < j.adm) ∧
    (∀ j ∈ s.pool, j.adm < s.admNext) ∧ s.admNext ≤ 4294967296

/-- The aisle table is in rising order, and the aisles' geometry lies in the ranges of R1. -/
def State.aislesSound (s : State) : Prop :=
  tableRising s.aisles ∧ ∀ e ∈ s.aisles, 1 ≤ e.1 ∧ e.1 ≤ 8 ∧ 1 ≤ e.2.columns ∧ e.2.columns ≤ 96 ∧ 1 ≤ e.2.levels ∧ e.2.levels ≤ 32 ∧
    e.2.x1 + (e.2.columns - 1) * e.2.px ≤ 200000 ∧ e.2.y1 + (e.2.levels - 1) * e.2.py ≤ 50000

/-- No two jobs of the pool carry one number, host numbers lie in 1..2,147,483,647, and internal numbers and the internal
counter above them (R25). -/
def State.numbersSound (s : State) : Prop :=
  (s.pool.map Job.num).Nodup ∧
    (∀ j ∈ s.pool, if j.kind.isHost then 1 ≤ j.num ∧ j.num ≤ 2147483647 else 2147483648 ≤ j.num ∧ j.num ≤ 4294967295) ∧
    2147483648 ≤ s.intNext ∧ s.intNext ≤ 4294967295

/-- The settled set of every group rises and lies above the delivery counter (R143). -/
def groupsSound (t : Assoc Group) : Prop := ∀ e ∈ t, e.2.settled.Pairwise (· < ·) ∧ ∀ x ∈ e.2.settled, e.2.d < x

/-- No two cranes hold one role of an aisle (R97). -/
def State.rolesUnique (s : State) : Prop :=
  ∀ i j n r, (s.crane i).hasRole n r = true → (s.crane j).hasRole n r = true → i = j

/-- A crane that is not configured holds no claim. -/
def State.claimsOwned (s : State) : Prop := ∀ k, (s.crane k).cfg = none → (s.crane k).claim = none

/-- In a twin aisle, crane A's claim ends below crane B's by at least the two gaps added (R127). -/
def State.claimsClear (s : State) : Prop :=
  ∀ i j n v w, s.twinAisle n = true → (s.crane i).hasRole n .a = true → (s.crane j).hasRole n .b = true →
    (s.crane i).claim = some v → (s.crane j).claim = some w → v.hi + s.gaps i j ≤ w.lo

/-- The rail arbiter's invariant. -/
def State.railSafe (s : State) : Prop := s.rolesUnique ∧ s.claimsOwned ∧ s.claimsClear

/-- A pass is due, or has cranes still to visit, in RUN alone (R68, R71). -/
def State.passSound (s : State) : Prop :=
  (s.passDue = true → s.mode.run = .run) ∧ ∀ p, s.passRun = some p → p.toVisit ≠ [] → s.mode.run = .run

/-- A resume check runs in SAFE alone (R165). -/
def State.checkSound (s : State) : Prop := s.mode.check ≠ none → s.mode.run = .safe

/-! ## When a command has its effect at once -/

/-- No request waits and no reply is queued: a request is taken at once (R176). -/
abbrev State.takes (s : State) : Prop := s.link.ring = [] ∧ s.link.replyQueued = false

/-- The state between events: no re-examination is owed (R38). A pass may be due, or running (R71). -/
abbrev State.quiet (s : State) : Prop := s.work = { pairs := [], allBusy := false }

/-- The state with a reply made (R177). -/
abbrev State.replied (s : State) (code tag : Nat) (r : Result) (data : List Byte) : State :=
  { s with link := s.link.answer code tag r data }

end Sys2Proof.Machine
end

