-- ==== Sys2Proof/Certificates/Slice0/Obligations.lean ====
section
/-! DEFINITION. The statements for the provers. Each says in its docstring which rules it formalises. -/

open Sys2Proof Sys2Proof.Machine

/-! ## Steps and the request path -/

/-- A step runs the command at the front of the queue on the state with the queue's rest. -/
def Obligations.StepRunsFrontCommand : Prop :=
  ∀ (c : Instr) (rest : List Instr) (s : State), s.pending = c :: rest → step s = exec c { s with pending := rest }

/-- With no command waiting, no pass running and none due, the link unit takes the oldest waiting request where the output
queue holds no reply (R176), and frees its ring bytes; else one millisecond passes: the timers that run count down to 0,
every silence timer counts up to at most 65,535, and nothing else changes. That a step with no command does this, and the
counting, is the model's choice (entry 2); the timers are those of R36, R94, R102, R118, R149 and R165. -/
def Obligations.IdleStepTakesOldestRequestOrTicks : Prop :=
  (∀ (s : State), s.pending = [] → s.passRun = none → ¬ (s.passDue = true ∧ s.mode.run = .run) →
    (∀ body rest, s.link.ring = body :: rest → (∀ t ∈ s.link.out, t.isReply = false) →
      step s = .next (runBody body { s with link := { s.link with ring := rest } })) ∧
    (s.link.ring = [] → step s = .next s.tick) ∧
    (∀ t ∈ s.link.out, t.isReply = true → step s = .next s.tick)) ∧
  (∀ (s : State),
    (∀ k, 1 ≤ k → k ≤ 12 → s.tick.crane k = { s.crane k with
      takenTimer := (s.crane k).takenTimer.map (· - 1), legTimer := (s.crane k).legTimer.map (· - 1)
      parkHold := (s.crane k).parkHold.map (· - 1)
      silence := if (s.crane k).silence < 65535 then (s.crane k).silence + 1 else (s.crane k).silence }) ∧
    s.tick = { s with
      cranes := s.tick.cranes
      pool := s.pool.map (fun j => { j with delay := j.delay.map (· - 1) })
      holds := s.holds.map (fun e => (e.1, { e.2 with timer := e.2.timer - 1 }))
      mode := { s.mode with check := s.mode.check.map (fun c => { c with remaining := c.remaining - 1 }) } })

/-- A dispatch pass (R68, R70, R71, R91). Between two events, with no command waiting (entries 2 and 40), a due pass starts
in RUN: it is no longer due and has the ready order as it stands to visit. A running pass visits one crane: a selection
where the crane is READY, in an active aisle and with a recorded position, nothing else. With no crane left to visit it
ends, and the plans it assigned start their first legs in the order of assignment. A change of a crane's channel state
takes the crane out of the pass, and a plan of a running pass sends no leg. -/
def Obligations.PassVisitsTheReadyOrder : Prop :=
  (∀ (s : State), s.pending = [] →
    let ends : State → List Nat → State := fun u cranes => (cranes.foldl State.goOn { u with passRun := none }).finish
    let goes : State → State := fun u => match u.passRun with
      | none => u.finish
      | some p => if p.toVisit = [] then ends u p.assigned else u.finish
    (s.passRun = none → s.passDue = true → s.mode.run = .run →
      step s = .next (goes { s with passDue := false, passRun := some { toVisit := s.readyOrder, assigned := [] } })) ∧
    (∀ assigned, s.passRun = some { toVisit := [], assigned := assigned } → step s = .next (ends s assigned)) ∧
    (∀ k rest assigned, s.passRun = some { toVisit := k :: rest, assigned := assigned } →
      let v : State := { s with passRun := some { toVisit := rest, assigned := assigned } }
      let given : Prop := s.mode.run = .run ∧ (s.crane k).chan = .ready ∧ (s.crane k).aisleNo ∈ s.mode.active ∧
        (s.crane k).pos ≠ none
      (¬ given → step s = .next (goes v)) ∧
      (given → (v.select k).2 = false → step s = .next (goes v)) ∧
      (given → (v.select k).2 = true → step s = .next (goes { (v.select k).1 with
        passRun := (v.select k).1.passRun.map (fun p => { p with assigned := p.assigned ++ [k] }) })))) ∧
  (∀ (s : State) (k : Nat) (p : Pass), s.passRun = some p →
    (∀ st r, (s.chanTo k st r).passRun =
      some { toVisit := p.toVisit.filter (fun j => j != k), assigned := p.assigned.filter (fun j => j != k) }) ∧
    (k ∈ p.assigned → s.goOn k = s))

/-- The bytes of every request (R173, R185) are read back as that request: no field is dropped. -/
def Obligations.RequestBytesReadBack : Prop :=
  ∀ i : Instr, i.isRequest = true → i.wf = true → decodeRequest (encodeRequest i) = .command i

/-- A request the link unit answers itself (R176, R185): a waiting request whose length does not match the length its code
requires is answered BAD_FIELD, a LOAD_MAP whose level entries are not whole or more than 32 and a CRANE_CTL of another
length than its three among them; and a code that names no request is answered with code 80h, UNKNOWN_CODE and the code
received, whatever its fields. A CRANE_CTL with an action other than the four, or with a length of the three that does not
fit its action, is answered WRONG_MODE in CONFIG and SAFE, and else BAD_FIELD, before any test of the crane (R116,
entry 29). None has another effect. -/
def Obligations.MisfitRequestIsAnswered : Prop :=
  (∀ e ∈ requestLengths, ∀ (tag : Nat) (fields : List Byte) (s : State), tag < 65536 → fields.length ≠ e.2 →
    s.quiet →
    runBody (beBytes 1 e.1 ++ (beBytes 2 tag ++ fields)) s = s.replied (e.1 + 0x80) tag .badField []) ∧
  (∀ (tag : Nat) (fields : List Byte) (s : State), tag < 65536 → s.quiet → (∀ n, n ≤ 32 → fields.length ≠ 4 + 6 * n) →
    runBody (beBytes 1 0x15 ++ (beBytes 2 tag ++ fields)) s = s.replied 0x95 tag .badField []) ∧
  (∀ (tag : Nat) (fields : List Byte) (s : State), tag < 65536 → s.quiet →
    fields.length ≠ 2 → fields.length ≠ 11 → fields.length ≠ 26 →
    runBody (beBytes 1 0x39 ++ (beBytes 2 tag ++ fields)) s = s.replied 0xB9 tag .badField []) ∧
  (∀ (tag : Nat) (crane action : Byte) (more : List Byte) (s : State), tag < 65536 → s.quiet →
    more.length = 0 ∨ more.length = 9 ∨ more.length = 24 →
    ¬ ((action = 1 ∨ action = 2) ∧ more.length = 0) → ¬ (action = 3 ∧ more.length = 24) →
    ¬ (action = 4 ∧ more.length = 9) →
    runBody (beBytes 1 0x39 ++ (beBytes 2 tag ++ (crane :: action :: more))) s =
      s.replied 0xB9 tag (if s.mode.run = .run ∨ s.mode.run = .hold then .badField else .wrongMode) []) ∧
  (∀ (tag code : Nat) (fields : List Byte) (s : State), s.takes → s.quiet →
    exec (.unknownCode tag code fields) s = .next (s.replied 0x80 tag .unknownCode [BitVec.ofNat 8 code]))

/-- A request command (entry 3). Taken at once it has the effect of its frame's body taken from the ring (R176). One that
finds others waiting, or a reply in the output queue, joins the ring behind them where its body and check fit the free
bytes, and is lost with the overrun flag set where they do not (R175). -/
def Obligations.RequestTakenAtOnceOrWaits : Prop :=
  (∀ (i : Instr) (s : State), i.isRequest = true → i.wf = true → s.takes →
    exec i s = .next (runBody (encodeRequest i) s)) ∧
  (∀ (i : Instr) (s : State), i.isRequest = true → (s.link.ring ≠ [] ∨ s.link.replyQueued = true) →
    exec i s = .next { s with link :=
      if (s.link.ring.map (fun b => b.length + 2)).sum + s.link.rx.setAside + ((encodeRequest i).length + 2) ≤ 2048 then
        { s.link with ring := s.link.ring ++ [encodeRequest i] }
      else { s.link with overrun := true } })

/-! ## The host link -/

/-- The bytes that reach a searching receiver (R173 to R175). One frame: without room it sets the overrun flag (when: entry
48), with room the body becomes the last waiting request when the check is right, and the link error count rises when it
is wrong. A frame cut short is abandoned after the gap: the receiver searches again, the count rises by one, and the
overrun flag is set where the frame found no room; a gap outside a frame changes nothing. A length out of range discards
the marker with no count, and the two length bytes are examined again: on the host link below 3 or above 1,024, on a crane
port below 2 or above 1,024. -/
def Obligations.ReceiverTakesFrames : Prop :=
  (∀ (body : List Byte) (c1 c2 : Byte) (s : State), s.link.rx = .searching → 3 ≤ body.length → body.length ≤ 1024 →
    exec (.hostFrame (0xC3 :: (beBytes 2 body.length ++ (body ++ [c1, c2])))) s = .next { s with link :=
      if 2048 < (s.link.ring.map (fun b => b.length + 2)).sum + (body.length + 2) then { s.link with overrun := true }
      else if c1.toNat * 256 + c2.toNat = (body.map BitVec.toNat).sum % 65536 then
        { s.link with ring := s.link.ring ++ [body] }
      else { s.link with errors := if s.link.errors < 65535 then s.link.errors + 1 else s.link.errors } }) ∧
  (∀ (n : Nat) (part : List Byte) (s : State), s.link.rx = .searching → 3 ≤ n → n ≤ 1024 → part.length < n + 2 →
    exec (.frameGapTimeout 0 (0xC3 :: (beBytes 2 n ++ part))) s = .next { s with link := { s.link with
      overrun := s.link.overrun || decide (2048 < (s.link.ring.map (fun b => b.length + 2)).sum + (n + 2))
      errors := if s.link.errors < 65535 then s.link.errors + 1 else s.link.errors } } ∧
    exec (.frameGapTimeout 0 []) s = .next s) ∧
  (∀ (high low : Byte) (s : State),
    (s.link.rx = .searching → high.toNat * 256 + low.toNat < 3 ∨ 1024 < high.toNat * 256 + low.toNat →
      exec (.bodyLengthOutOfRange 0 [0xC3, high, low]) s = .next { s with link := { s.link with
        rx := if high = 0xC3 then .length low else if low = 0xC3 then .marker else .searching } }) ∧
    (∀ k, 1 ≤ k → k ≤ 12 → (s.crane k).cfg ≠ none → (s.crane k).rx = .searching →
      high.toNat * 256 + low.toNat < 2 ∨ 1024 < high.toNat * 256 + low.toNat →
      exec (.bodyLengthOutOfRange k [0xC3, high, low]) s = .next (s.updCrane k (fun c => { c with
        rx := if high = 0xC3 then .length low else if low = 0xC3 then .marker else .searching }))))

/-- The host-ready line: asserted, the oldest waiting telegram is begun; withdrawn, a telegram that has begun stays begun
and no further one is begun (R171). The telegram sent leaves the queue (R178), with its bytes in the model's log of what
was sent (entry 17), and the next is begun while host-ready is asserted. REPORTS_LOST is made as it leaves, when the
lost-report count is above 0 and two places are free; it goes to the tail with the count, and the count returns to 0
(R179); its body is its code, tag 0 and the count (R187). -/
def Obligations.HostReadyAndSentTelegrams : Prop :=
  (∀ (ready : Bool) (s : State),
    exec (.hostReadyChange ready) s = .next { s with link := { s.link with
      hostReady := ready, begun := s.link.begun || (ready && !s.link.out.isEmpty) } }) ∧
  (∀ (t : Telegram) (rest : List Telegram) (s : State), s.link.begun = true → s.link.out = t :: rest →
    exec .telegramSent s = .next { s with
      hostOut := s.hostOut ++ [frameBytes t.body]
      link :=
        if 0 < s.link.lost ∧ rest.length ≤ 126 then
          { s.link with out := rest ++ [.report (.reportsLost s.link.lost)], lost := 0, begun := s.link.hostReady }
        else { s.link with out := rest, begun := s.link.hostReady && !rest.isEmpty } }) ∧
  (∀ n, (Telegram.report (.reportsLost n)).body = 0xCA :: (beBytes 2 0 ++ beBytes 2 n))

/-- A reply goes to the tail of the queue with the two flags as they stand, and carrying the overrun flag clears it (R177).
Where no waiting retrieve is concerned by what the request touched (R38), this is all that the end of a request does. A
report joins the tail of the queue while fewer than 127 reports wait, and else is discarded and counted, the count staying
at 65,535 (R178). -/
def Obligations.RepliesAndReportsJoinTheQueue : Prop :=
  (∀ (code tag : Nat) (r : Result) (data : List Byte) (s : State), (∀ j ∈ s.pool, s.work.concerns j = false) →
    s.conclude code tag r data = { s with
      work := { pairs := [], allBusy := false }
      link := { s.link with
        overrun := false
        out := s.link.out ++ [.reply (code + 0x80) tag r s.link.overrun (decide (0 < s.link.lost)) data]
        begun := s.link.begun || s.link.hostReady } }) ∧
  (∀ (r : Report) (s : State),
    s.report r = { s with link :=
      if (s.link.out.filter (fun t => !t.isReply)).length < 127 then
        { s.link with out := s.link.out ++ [.report r], begun := s.link.begun || s.link.hostReady }
      else { s.link with lost := if s.link.lost < 65535 then s.link.lost + 1 else s.link.lost } })

/-! ## Requests that read -/

/-- IDENTIFY, taken in every run state, replies the part code D012h and the part's revision number, 1..255, the same
at every time (entry 13), and changes nothing (R183). -/
def Obligations.IdentifyNamesThePart : Prop :=
  ∃ revision : Nat, 1 ≤ revision ∧ revision ≤ 255 ∧ ∀ (tag : Nat) (s : State), s.takes → s.quiet →
    exec (.identify tag) s = .next (s.replied 0x81 tag .ok [0xD0, 0x12, BitVec.ofNat 8 revision])

/-- STATUS (R182, R186): a clear field above 1 is BAD_FIELD; else the reply carries the whole block of items, the link
error count as it stood before, and with a clear field of 1 the count is then 0. -/
def Obligations.StatusReadsTheController : Prop :=
  ∀ (tag clear : Nat) (s : State), s.takes → s.quiet →
    (1 < clear → exec (.status tag clear) s = .next (s.replied 0x82 tag .badField [])) ∧
    (clear ≤ 1 → exec (.status tag clear) s = .next
      ({ s with link := { s.link with errors := if clear = 1 then 0 else s.link.errors } }.replied 0x82 tag .ok
        (beBytes 1 s.mode.run.code ++ beBytes 1 s.mode.speed.code ++ beBytes 1 (aislesByte s.mode.active) ++
          beBytes 1 (if s.mode.stop then 1 else 0) ++
          beBytes 2 (match s.mode.check with
            | some c => max 1 c.remaining
            | none => 0) ++
          [1, 2, 3, 4, 5, 6].flatMap (fun (c : Nat) => beBytes 2 (s.pool.filter (fun (j : Job) => j.state.code == c)).length) ++
          beBytes 2 (s.pool.filter (fun (j : Job) => j.kind == JobKind.store || j.kind == JobKind.retrieve)).length ++
          beBytes 1 (s.pool.filter (fun (j : Job) => j.kind == JobKind.relocate || j.kind == JobKind.recover)).length ++
          beBytes 2 s.link.ring.length ++ beBytes 2 (s.link.ring.map (fun (b : List Byte) => b.length + 2)).sum ++
          beBytes 1 s.link.out.length ++ beBytes 2 s.link.errors ++ beBytes 2 s.link.lost ++
          [1, 2, 3, 4, 5, 6, 7, 8, 9, 10, 11, 12].flatMap (fun (k : Nat) =>
            beBytes 1 ((if (s.crane k).cfg = none then 0 else 128) + (s.crane k).chan.code)))))

/-- QUERY_POLICY, taken in every run state, replies the policy in force, in the form of the reply of a SET_POLICY that is
taken (R170): the class offsets, the aging threshold, the pairing policy, the minimum saving, the window, the outfeed hold
time, the leg timeout margin in tens of milliseconds and the parking hold time. It changes nothing else. -/
def Obligations.QueryPolicyShowsThePolicy : Prop :=
  ∀ (tag : Nat) (s : State), s.takes → s.quiet →
    let form : Policy → List Byte := fun p =>
      beBytes 4 p.offset0 ++ beBytes 4 p.offset1 ++ beBytes 4 p.offset2 ++ beBytes 4 p.offset3 ++ beBytes 1 p.aging ++
        beBytes 1 p.pairing.code ++ beBytes 2 p.minSaving ++ beBytes 1 p.window ++ beBytes 2 p.holdTime ++
        beBytes 2 (p.margin / 10) ++ beBytes 2 p.parkHold
    exec (.queryPolicy tag) s = .next (s.replied 0x87 tag .ok (form s.policy)) ∧
    (∀ q, s.checkPolicy q = .ok → ∃ t : State, exec (.setPolicy tag q) s = .next t ∧
      t.link = s.link.answer 0x93 tag .ok (form t.policy))

/-- The queries (R21, R48, R122, R154) change nothing but the output queue. A number out of range is BAD_FIELD; a job,
location, crane or group that is not there has its result; else the reply carries the record, its items in the order of
the rule, an absent one as zeros, and for a crane of a twin aisle the items of R136. The encodings of items that R184
does not fix and the order of a group's held cranes are the model's choice (entry 16), as are which cranes R136 speaks of
and a range that does not exist (entries 46 and 47). -/
def Obligations.QueriesChangeNothing : Prop :=
  ∀ (tag : Nat) (s : State), s.takes → s.quiet →
    let flag : Bool → List Byte := fun b => beBytes 1 (if b = true then 1 else 0)
    let point : Option Point → List Byte := fun p => match p with
      | some p => beBytes 1 1 ++ beBytes 4 p.x ++ beBytes 2 p.y
      | none => beBytes 7 0
    let span : Option Span → List Byte := fun v => match v with
      | some v => beBytes 1 1 ++ beBytes 4 v.lo ++ beBytes 4 v.hi
      | none => beBytes 9 0
    let place : Option Loc → List Byte := fun l => match l with
      | some l => beBytes 1 l.aisle ++ beBytes 1 l.side.code ++ beBytes 1 l.column ++ beBytes 1 l.level ++ beBytes 1 l.depth.code
      | none => beBytes 5 0
    let legItems : Leg → List Byte := fun g =>
      beBytes 1 g.kind.code ++ beBytes 1 g.target.code ++ place g.target.loc ++ beBytes 1 g.target.stationNo ++
        beBytes 4 (g.job.getD 0) ++ beBytes 4 g.est ++ flag g.approach
    let jobItems : Job → List Byte := fun j =>
      let held : List (Nat × Nat) := (j.srcRes.toList.map (fun o => (1, o.code))) ++
        (j.dstRes.toList.map (fun r => (if r.kind = .location then 2 else 3, r.origin.code)))
      beBytes 1 j.kind.code ++ beBytes 1 j.originator ++ beBytes 1 j.cls ++ beBytes 4 j.adm ++ beBytes 1 j.bypass ++
        beBytes 4 j.pallet ++ beBytes 1 j.state.code ++ beBytes 1 (match j.state with
          | .waiting r => r.code
          | _ => 0) ++
        beBytes 1 j.station ++ place j.source ++ place j.dest ++ beBytes 2 j.group ++ beBytes 1 j.position ++
        beBytes 2 ((j.delay.getD 0 + 999) / 1000) ++ beBytes 4 j.linked ++ flag j.holdReleased ++ beBytes 1 j.crane ++
        (beBytes 1 held.length ++ held.flatMap (fun r => beBytes 1 r.1 ++ beBytes 1 r.2))
    let craneItems : Nat → CraneCfg → List Byte := fun k g =>
      let c := s.crane k
      let plan : List Byte := match c.parkLeg with
        | some p => beBytes 1 CycleKind.park.code ++ (beBytes 1 1 ++ legItems p) ++ beBytes 4 p.est
        | none => beBytes 1 ((c.cycle.map CycleKind.code).getD 0) ++
            (beBytes 1 c.plan.length ++ c.plan.flatMap legItems) ++ beBytes 4 c.estimate
      let reach : List Byte := match c.reach with
        | some r => beBytes 2 r.a.code ++ beBytes 2 r.a.mask ++ (beBytes 2 r.b.code ++ beBytes 2 r.b.mask) ++ flag r.bOn
        | none => beBytes 9 0
      let twin : List Byte := span c.claim ++ span c.railSpan ++ span c.request ++
        (match c.request, c.nextLeg with
          | some _, some g => beBytes 1 g.kind.code ++ beBytes 4 (g.job.getD 0)
          | _, _ => beBytes 5 0) ++
        span (s.configuredRange k) ++ span (s.effectiveRange k)
      beBytes 1 g.aisle ++ beBytes 1 g.role.code ++ point (some g.endPos) ++ beBytes 2 g.gap ++ beBytes 1 c.chan.code ++
        beBytes 1 ((c.lastFault.map FaultReason.code).getD 0) ++ flag c.powerReturn ++ flag c.stopHalted ++
        flag c.pendingPark ++ point c.pos ++ beBytes 4 ((c.load.map Load.id).getD 0) ++
        flag ((c.load.map Load.resolved).getD false) ++ beBytes 4 (((s.recoverJob k).map Job.num).getD 0) ++
        beBytes 1 c.speed.code ++ beBytes 1 ((c.pendSpeed.map SpeedClass.code).getD 0) ++
        flag (decide (c.pendFigures ≠ none)) ++ flag (decide (c.pendReach ≠ none)) ++ reach ++ plan ++ beBytes 1 c.curLeg ++
        beBytes 1 c.lastLeg ++ beBytes 4 c.legEst ++ beBytes 4 (((s.uncertainJob k).map Job.num).getD 0) ++
        beBytes 1 (if k ∈ s.readyOrder then s.readyOrder.idxOf k + 1 else 0) ++ beBytes 4 (min c.silence 65535) ++
        beBytes 1 c.bad ++ (if s.inTwin k = true then twin else [])
    let groupItems : Nat → Group → List Byte := fun n g =>
      let holds := s.holds.filter (fun e => decide (e.2.group = n))
      beBytes 1 g.status.code ++ beBytes 2 g.d ++
        (beBytes 1 g.held.length ++ g.held.flatMap (fun e => beBytes 1 e.1 ++ beBytes 4 e.2 ++ (match s.job e.2 with
          | some j => beBytes 1 j.state.code ++ beBytes 1 j.station
          | none => beBytes 2 0))) ++
        (beBytes 1 g.settled.length ++ g.settled.flatMap (fun p => beBytes 1 p)) ++
        (beBytes 1 holds.length ++ holds.flatMap (fun e =>
          beBytes 1 e.1 ++ beBytes 1 e.2.position ++ beBytes 2 ((e.2.timer + 999) / 1000)))
    (∀ n, exec (.queryJob tag n) s = .next (
      if n = 0 then s.replied 0x83 tag .badField []
      else match s.job n with
        | none => s.replied 0x83 tag .unknownJob []
        | some j => s.replied 0x83 tag .ok (jobItems j))) ∧
    (∀ q, exec (.queryLoc tag q) s = .next (
      match s.checkLoc q with
      | .error r => s.replied 0x84 tag r []
      | .ok l => s.replied 0x84 tag .ok (beBytes 1 (s.loc l).occ.code ++ beBytes 4 ((s.loc l).pallet.getD 0) ++
          beBytes 1 (s.loc l).height ++ beBytes 1 (s.loc l).attrs.byte ++ beBytes 4 (s.holderOf l)))) ∧
    (∀ l, s.holderOf l =
      if (s.loc l).occ = .inbound ∨ (s.loc l).occ = .outbound then
        ((s.pool.find? (fun j => decide ((j.srcRes ≠ none ∧ j.source = some l) ∨
          (j.dest = some l ∧ j.dstRes.map DstRes.kind = some .location)))).map Job.num).getD 0
      else 0) ∧
    (∀ k, exec (.queryCrane tag k) s = .next (
      if k < 1 ∨ 12 < k then s.replied 0x85 tag .badField []
      else match (s.crane k).cfg with
        | none => s.replied 0x85 tag .notConfigured []
        | some g => s.replied 0x85 tag .ok (craneItems k g))) ∧
    (∀ g, exec (.queryGroup tag g) s = .next (
      if g < 1 ∨ 65535 < g then s.replied 0x86 tag .badField []
      else match s.group g with
        | none => s.replied 0x86 tag .noGroup []
        | some e => s.replied 0x86 tag .ok (groupItems g e)))

/-! ## Configuration -/

/-- SET_AISLE (R1): WRONG_MODE outside CONFIG, BAD_FIELD for a field out of range or a geometry beyond rail or mast; else
the aisle has the geometry given and every location of it starts again, the other aisles and locations stay, and the
claims and waiting requests of the aisle's cranes are discarded (R125). Nothing else changes. -/
def Obligations.SetAisleDefinesTheAisle : Prop :=
  ∀ (tag : Nat) (q : AisleFields) (s : State), s.takes → s.quiet →
    (s.mode.run ≠ .config → exec (.setAisle tag q) s = .next (s.replied 0x90 tag .wrongMode [])) ∧
    (s.mode.run = .config →
      if 1 ≤ q.aisle ∧ q.aisle ≤ 8 ∧ 1 ≤ q.columns ∧ q.columns ≤ 96 ∧ 1 ≤ q.levels ∧ q.levels ≤ 32 ∧ q.depth ≤ 1 ∧
          q.x1 ≤ 200000 ∧ 500 ≤ q.px ∧ q.px ≤ 5000 ∧ q.y1 ≤ 50000 ∧ 300 ≤ q.py ∧ q.py ≤ 3000 ∧ q.twin ≤ 1 ∧
          q.x1 + (q.columns - 1) * q.px ≤ 200000 ∧ q.y1 + (q.levels - 1) * q.py ≤ 50000 then
        ∃ t : State, exec (.setAisle tag q) s = .next t ∧
          (∀ n, t.aisle n = if n = q.aisle then
              some { columns := q.columns, levels := q.levels, double := decide (q.depth = 1), x1 := q.x1, px := q.px,
                     y1 := q.y1, py := q.py, twin := decide (q.twin = 1) }
            else s.aisle n) ∧
          (∀ l : Loc, 1 ≤ l.column → l.column ≤ 96 → 1 ≤ l.level → l.level ≤ 32 →
            t.loc l = if l.aisle = q.aisle then { occ := .unknown, pallet := none, height := 0, attrs := .none } else s.loc l) ∧
          (∀ k, t.crane k =
            if (s.crane k).inAisle q.aisle then { s.crane k with claim := none, request := none } else s.crane k) ∧
          t = { s with aisles := t.aisles, locs := t.locs, cranes := t.cranes, link := s.link.answer 0x90 tag .ok [] }
      else exec (.setAisle tag q) s = .next (s.replied 0x90 tag .badField []))

/-- SET_CRANE (R97): its checks in order (a B enable byte above 1 is BAD_FIELD by entry 14), then the crane's record takes
the given configuration, figures, filters and speed class NORMAL without pending values, and keeps the rest. A change of
aisle discards the crane's own claim, a change of role or gap in a twin aisle both cranes' claims, anything else no claim
(R125; a move to another aisle that also changes role or gap: entry 45). -/
def Obligations.SetCraneConfiguresTheCrane : Prop :=
  ∀ (tag : Nat) (q : CraneFields) (s : State), s.takes → s.quiet →
    (s.mode.run ≠ .config → exec (.setCrane tag q) s = .next (s.replied 0x91 tag .wrongMode [])) ∧
    (s.mode.run = .config →
      (q.crane < 1 ∨ 12 < q.crane ∨ 200000 < q.endX ∨ 50000 < q.endY ∨ 20000 < q.gap ∨ 2 < q.role ∨
        reachOf q.reach = none ∨ figuresOf q.figures = none) →
      exec (.setCrane tag q) s = .next (s.replied 0x91 tag .badField [])) ∧
    (∀ role reach figures, s.mode.run = .config → 1 ≤ q.crane → q.crane ≤ 12 → q.endX ≤ 200000 → q.endY ≤ 50000 →
      q.gap ≤ 20000 → roleOf q.role = some role → reachOf q.reach = some reach → figuresOf q.figures = some figures →
      match s.aisle q.aisle with
      | none => exec (.setCrane tag q) s = .next (s.replied 0x91 tag .notConfigured [])
      | some a =>
        (((a.twin = true ↔ role = .single) ∨ ∃ j, j ≠ q.crane ∧ (s.crane j).hasRole q.aisle role = true) →
          exec (.setCrane tag q) s = .next (s.replied 0x91 tag .badField [])) ∧
        (¬ ((a.twin = true ↔ role = .single) ∨ ∃ j, j ≠ q.crane ∧ (s.crane j).hasRole q.aisle role = true) →
          ∃ t : State, exec (.setCrane tag q) s = .next t ∧
            t.crane q.crane = { s.crane q.crane with
              cfg := some { aisle := q.aisle, role := role, endPos := { x := q.endX, y := q.endY }, gap := q.gap }
              reach := some reach, figures := some figures, speed := .normal
              pendSpeed := none, pendFigures := none, pendReach := none
              claim := (t.crane q.crane).claim, request := (t.crane q.crane).request } ∧
            (∀ j, j ≠ q.crane →
              t.crane j = { s.crane j with claim := (t.crane j).claim, request := (t.crane j).request }) ∧
            (∀ j, ((t.crane j).claim, (t.crane j).request) =
              match (s.crane q.crane).cfg with
              | none => ((s.crane j).claim, (s.crane j).request)
              | some old =>
                if (j = q.crane ∧ old.aisle ≠ q.aisle) ∨
                    (old.aisle = q.aisle ∧ a.twin = true ∧ (old.role ≠ role ∨ old.gap ≠ q.gap) ∧
                      (s.crane j).inAisle q.aisle = true) then (none, none)
                else ((s.crane j).claim, (s.crane j).request)) ∧
            t = { s with cranes := t.cranes, link := s.link.answer 0x91 tag .ok [] }))

/-- SET_POLICY (R169): its checks in order, then every value in its adjusted form, and where the aging threshold fell the
jobs whose counts reach it promoted (R64). The reply carries the values in force. Nothing else changes. -/
def Obligations.SetPolicyAdjustsAndPromotes : Prop :=
  ∀ (tag : Nat) (q : PolicyFields) (s : State), s.takes → s.quiet →
    (s.mode.run = .run ∨ s.mode.run = .safe → exec (.setPolicy tag q) s = .next (s.replied 0x93 tag .wrongMode [])) ∧
    (s.mode.run = .config ∨ s.mode.run = .hold →
      if q.offset0 ≤ q.offset1 ∧ q.offset1 ≤ q.offset2 ∧ q.offset2 ≤ q.offset3 ∧ q.offset3 ≤ 3600000 ∧ q.pairing ≤ 2 ∧
          5000 ≤ q.marginTens * 10 ∧ q.marginTens * 10 ≤ 600000 ∧ q.parkHold ≤ 600 then
        (min 8 (max 1 q.window) < s.policy.window →
          (∃ e ∈ s.groups, ∃ h ∈ e.2.held, ∃ j, s.job h.2 = some j ∧ e.2.d + min 8 (max 1 q.window) ≤ h.1 ∧
            j.dispatched = true) →
          exec (.setPolicy tag q) s = .next (s.replied 0x93 tag .inProgress [])) ∧
        (s.policy.window ≤ min 8 (max 1 q.window) ∨
            (∀ e ∈ s.groups, ∀ h ∈ e.2.held, ∀ j, s.job h.2 = some j → e.2.d + min 8 (max 1 q.window) ≤ h.1 →
              j.dispatched = false) →
          ∀ p : Policy, p.offset0 = q.offset0 → p.offset1 = q.offset1 → p.offset2 = q.offset2 → p.offset3 = q.offset3 →
            p.aging = max 1 q.aging → p.pairing.code = q.pairing → p.minSaving = min 60000 q.minSaving →
            p.window = min 8 (max 1 q.window) → p.holdTime = min 600 (max 5 q.holdTime) → p.margin = q.marginTens * 10 →
            p.parkHold = q.parkHold →
            exec (.setPolicy tag q) s = .next { s with
              policy := p
              pool := s.pool.map (fun j =>
                if p.aging < s.policy.aging ∧ p.aging ≤ j.bypass then { j with cls := j.cls - 1, bypass := 0 } else j)
              link := s.link.answer 0x93 tag .ok (policyBytes p) })
      else exec (.setPolicy tag q) s = .next (s.replied 0x93 tag .badField []))

/-- SET_STATION (R138): its checks in order, then the record holds the given values with occupancy 0, no pending delivery
and an empty queue. SET_ORIGINATOR (R16): WRONG_MODE outside CONFIG and HOLD, BAD_FIELD for an originator outside 1..7, an
aisle above 8 or an attribute set above 15; else one entry is replaced, or with aisle 0 the originator's entries of all
eight aisles. Nothing else changes. -/
def Obligations.StationsAndOriginatorsAreSet : Prop :=
  (∀ (tag : Nat) (q : StationFields) (s : State), s.takes → s.quiet →
    (s.mode.run ≠ .config → exec (.setStation tag q) s = .next (s.replied 0x92 tag .wrongMode [])) ∧
    (s.mode.run = .config →
      if 1 ≤ q.station ∧ q.station ≤ 16 ∧ 1 ≤ q.aisle ∧ q.aisle ≤ 8 ∧ q.railEnd ≤ 1 ∧ q.kind ≤ 1 ∧ q.x ≤ 200000 ∧
          q.y ≤ 50000 ∧ 1 ≤ q.capacity ∧ q.capacity ≤ 6 then
        if s.aisle q.aisle = none then exec (.setStation tag q) s = .next (s.replied 0x92 tag .notConfigured [])
        else
          ∃ t : State, exec (.setStation tag q) s = .next t ∧
            (∀ n, t.station n = if n = q.station then
                some { aisle := q.aisle, railEnd := (if q.railEnd = 0 then .front else .rear)
                       kind := (if q.kind = 0 then .infeed else .outfeed), point := { x := q.x, y := q.y }
                       capacity := q.capacity, occ := 0, pend := 0, queue := [] }
              else s.station n) ∧
            t = { s with stations := t.stations, link := s.link.answer 0x92 tag .ok [] }
      else exec (.setStation tag q) s = .next (s.replied 0x92 tag .badField []))) ∧
  (∀ (tag originator aisle mask preset : Nat) (s : State), s.takes → s.quiet →
    (s.mode.run = .run ∨ s.mode.run = .safe →
      exec (.setOriginator tag originator aisle mask preset) s = .next (s.replied 0x94 tag .wrongMode [])) ∧
    (s.mode.run = .config ∨ s.mode.run = .hold →
      originator < 1 ∨ 7 < originator ∨ 8 < aisle ∨ 15 < mask ∨ 15 < preset →
      exec (.setOriginator tag originator aisle mask preset) s = .next (s.replied 0x94 tag .badField [])) ∧
    (∀ m p, s.mode.run = .config ∨ s.mode.run = .hold → 1 ≤ originator → originator ≤ 7 → aisle ≤ 8 →
      attrsOf mask = some m → attrsOf preset = some p →
      ∃ t : State, exec (.setOriginator tag originator aisle mask preset) s = .next t ∧
        (∀ o n, n ≤ 8 → t.origin o n = if o = originator ∧ 1 ≤ n ∧ (aisle = 0 ∨ n = aisle) then { mask := m, preset := p }
          else s.origin o n) ∧
        t = { s with originators := t.originators, link := s.link.answer 0x94 tag .ok [] }))

/-- START (R162, R124): WRONG_MODE outside CONFIG; then CONFIG_ERROR with detail code and number for the first configuration
check that fails; then STOP_ACTIVE; else RUN with every configured aisle active, MODE_CHANGED, a pass due. The checks in
their order: no aisle (1; that the number sent with it is 0 is entry 19); the lowest crane whose role does not fit its
aisle (2); the lowest single-crane aisle without its crane (3); the lowest twin aisle that lacks a crane (4), or whose end
positions (5) or what crane A (6) or crane B (7) may be sent to does not keep the two gaps. -/
def Obligations.StartChecksThenRuns : Prop :=
  ∀ (tag : Nat) (s : State), s.takes → s.quiet → s.rolesUnique → s.aislesSound →
    let fits : Nat → Prop := fun k => ∀ g, (s.crane k).cfg = some g →
      ∃ a, s.aisle g.aisle = some a ∧ (a.twin = true ↔ g.role ≠ .single)
    let served : Nat → Aisle → Prop := fun n a => a.twin = false → ∃ k, (s.crane k).hasRole n .single = true
    let ends : Nat → Nat → Prop := fun i j =>
      (s.crane i).endPoint.x + (s.crane i).gap + (s.crane j).gap ≤ (s.crane j).endPoint.x
    let reachA : Nat → Aisle → Nat → Nat → Prop := fun n a i j =>
      (∀ l ∈ a.allLocs n, s.inReach i l = true →
        (a.point l).x + (s.crane i).gap + (s.crane j).gap ≤ (s.crane j).endPoint.x) ∧
      (∀ e ∈ s.stations, e.2.aisle = n → e.2.railEnd = .front →
        e.2.point.x + (s.crane i).gap + (s.crane j).gap ≤ (s.crane j).endPoint.x)
    let reachB : Nat → Aisle → Nat → Nat → Prop := fun n a i j =>
      (∀ l ∈ a.allLocs n, s.inReach j l = true →
        (s.crane i).endPoint.x + (s.crane i).gap + (s.crane j).gap ≤ (a.point l).x) ∧
      (∀ e ∈ s.stations, e.2.aisle = n → e.2.railEnd = .rear →
        (s.crane i).endPoint.x + (s.crane i).gap + (s.crane j).gap ≤ e.2.point.x)
    let paired : Nat → Aisle → Prop := fun n a => a.twin = true →
      ∃ i j, (s.crane i).hasRole n .a = true ∧ (s.crane j).hasRole n .b = true ∧ ends i j ∧ reachA n a i j ∧ reachB n a i j
    (s.mode.run ≠ .config → exec (.start tag) s = .next (s.replied 0x96 tag .wrongMode [])) ∧
    (∀ detail n, s.mode.run = .config → s.configFault = some (detail, n) →
      exec (.start tag) s = .next (s.replied 0x96 tag .configError (beBytes 1 detail ++ beBytes 1 n))) ∧
    (s.mode.run = .config → s.configFault = none → s.mode.stop = true →
      exec (.start tag) s = .next (s.replied 0x96 tag .stopActive [])) ∧
    (s.mode.run = .config → s.configFault = none → s.mode.stop = false →
      exec (.start tag) s = .next (State.replied { s with
        mode := { s.mode with run := .run, active := s.aisles.map Prod.fst }
        passDue := true
        link := s.link.report (.modeChanged .start .run s.mode.speed (s.aisles.map Prod.fst) false) } 0x96 tag .ok [])) ∧
    (s.configFault = some (1, 0) ↔ s.aisles = []) ∧
    (s.configFault = none ↔ s.aisles ≠ [] ∧ (∀ k, fits k) ∧ (∀ e ∈ s.aisles, served e.1 e.2) ∧
      (∀ e ∈ s.aisles, paired e.1 e.2)) ∧
    (∀ k, s.aisles ≠ [] → ¬ fits k → (∀ j, j < k → fits j) → s.configFault = some (2, k)) ∧
    (∀ n a, (∀ k, fits k) → (n, a) ∈ s.aisles → ¬ served n a → (∀ e ∈ s.aisles, e.1 < n → served e.1 e.2) →
      s.configFault = some (3, n)) ∧
    (∀ n a, (∀ k, fits k) → (∀ e ∈ s.aisles, served e.1 e.2) → (n, a) ∈ s.aisles → a.twin = true →
      (∀ e ∈ s.aisles, e.1 < n → paired e.1 e.2) →
      ((∀ k, (s.crane k).hasRole n .a = false) ∨ (∀ k, (s.crane k).hasRole n .b = false) →
        s.configFault = some (4, n)) ∧
      (∀ i j, (s.crane i).hasRole n .a = true → (s.crane j).hasRole n .b = true →
        (¬ ends i j → s.configFault = some (5, n)) ∧
        (ends i j → ¬ reachA n a i j → s.configFault = some (6, n)) ∧
        (ends i j → reachA n a i j → ¬ reachB n a i j → s.configFault = some (7, n))))

/-! ## The rack map -/

/-- Addresses are checked against the aisle's geometry (R3), and a checked location's code is
(column - 1) × 128 + (level - 1) × 4 + 2 × side + depth, below 16,384 and its own in its aisle (R4); a location matches a
filter when the codes agree wherever the mask holds 0 (R5). -/
def Obligations.AddressesCodesAndFilters : Prop :=
  (∀ (s : State) (q : LocFields), s.aisle q.aisle = none → s.checkLoc q = .error .notConfigured) ∧
  (∀ (s : State) (q : LocFields) (a : Aisle), s.aisle q.aisle = some a →
    if q.side ≤ 1 ∧ 1 ≤ q.column ∧ q.column ≤ a.columns ∧ 1 ≤ q.level ∧ q.level ≤ a.levels ∧ q.depth ≤ 1 ∧
        (q.depth = 1 → a.double = true) then
      ∃ l, s.checkLoc q = .ok l ∧ l.aisle = q.aisle ∧ l.column = q.column ∧ l.level = q.level ∧
        l.side.code = q.side ∧ l.depth.code = q.depth ∧
        locCode l = (q.column - 1) * 128 + (q.level - 1) * 4 + 2 * q.side + q.depth
    else s.checkLoc q = .error .badField) ∧
  (∀ l m : Loc, l.inRanges → m.inRanges → l.aisle = m.aisle → locCode l = locCode m → l = m) ∧
  (∀ l : Loc, l.inRanges → locCode l < 16384) ∧
  (∀ (f : Filter) (l : Loc), f.hits (locCode l) = true ↔
    ∀ i, i < 14 → f.mask.testBit i = false → (locCode l).testBit i = f.code.testBit i)

/-- SET_LOC (R14, R8): its checks in order, then the one location takes occupancy and height class, a pallet id only when
FULL, and keeps its attributes; its pair is to be re-examined, and EMPTY or FULL makes a pass due in RUN. Nothing else
changes before the end of the request. -/
def Obligations.SetLocRewritesOneLocation : Prop :=
  ∀ (tag : Nat) (q : SetLocFields) (s : State), s.takes → s.quiet →
    (∀ r, s.checkLoc q.location = .error r → exec (.setLoc tag q) s = .next (s.replied 0xB0 tag r [])) ∧
    (∀ l, s.checkLoc q.location = .ok l → l.inRanges →
      if ¬ (q.occupancy = 0 ∨ q.occupancy = 1 ∨ q.occupancy = 4) ∨ (q.occupancy = 1 ∧ q.pallet = 0) ∨ 3 < q.height then
        exec (.setLoc tag q) s = .next (s.replied 0xB0 tag .badField [])
      else if (s.loc l).occ = .inbound ∨ (s.loc l).occ = .outbound then
        exec (.setLoc tag q) s = .next (s.replied 0xB0 tag .locationReserved [])
      else if q.occupancy = 1 ∧ s.palletHeld q.pallet [locKey l] = true then
        exec (.setLoc tag q) s = .next (s.replied 0xB0 tag .duplicatePallet [])
      else
        ∃ u : State, exec (.setLoc tag q) s = .next (u.conclude 0x30 tag .ok []) ∧
          (∀ m : Loc, m.inRanges → u.loc m = if m = l then
              { (s.loc l) with
                occ := if q.occupancy = 0 then .empty else if q.occupancy = 1 then .full else .unknown
                pallet := if q.occupancy = 1 then some q.pallet else none, height := q.height }
            else s.loc m) ∧
          u = { s with locs := u.locs, work := { pairs := [locKey { l with depth := .front }], allBusy := false }
                       passDue := s.passDue || decide (q.occupancy ≤ 1 ∧ s.mode.run = .run) }) ∧
    (∀ id keys, s.palletHeld id keys = true ↔
      (∃ e ∈ s.locs, e.1 ∉ keys ∧ e.2.pallet = some id ∧ (e.2.occ = .full ∨ e.2.occ = .outbound ∨ e.2.occ = .inbound)) ∨
      (∃ k b, (s.crane k).load = some { id := id, resolved := b }) ∨
      (∃ j ∈ s.pool, j.kind = .store ∧ j.pallet = id ∧
        ((∃ w, j.state = .waiting w) ∨ j.state = .ready ∨ j.state = .assigned ∨ j.state = .active ∨
          j.state = .uncertain .fetch)))

/-- LOAD_MAP (R15): its checks in order, then level k of the column takes entry k, levels above the list keep their
records, attributes stay; the pairs written are to be re-examined, and the reply carries the number of levels written.
Nothing else changes before the end of the request. -/
def Obligations.LoadMapRewritesOneColumn : Prop :=
  ∀ (tag : Nat) (q : ColFields) (entries : List LevelFields) (s : State), s.takes → s.quiet →
    (s.mode.run = .run ∨ s.mode.run = .safe →
      exec (.loadMap tag q entries) s = .next (s.replied 0x95 tag .wrongMode [])) ∧
    (∀ r, s.mode.run = .config ∨ s.mode.run = .hold → s.checkCol q = .error r →
      exec (.loadMap tag q entries) s = .next (s.replied 0x95 tag r [])) ∧
    (∀ l a, s.mode.run = .config ∨ s.mode.run = .hold → s.checkCol q = .ok l → s.aisle q.aisle = some a →
      l.inRanges → a.levels ≤ 32 →
      (entries = [] ∨ a.levels < entries.length ∨ (∃ e ∈ entries, ¬ (e.occupancy = 0 ∨ e.occupancy = 1 ∨ e.occupancy = 4) ∨
          (e.occupancy = 1 ∧ e.pallet = 0) ∨ 3 < e.height) →
        exec (.loadMap tag q entries) s = .next (s.replied 0x95 tag .badField [])) ∧
      (entries ≠ [] → entries.length ≤ a.levels → (∀ e ∈ entries, (e.occupancy = 0 ∨ e.occupancy = 1 ∨ e.occupancy = 4) ∧
          (e.occupancy = 1 → e.pallet ≠ 0) ∧ e.height ≤ 3) →
        ((∃ v, 1 ≤ v ∧ v ≤ a.levels ∧
            ((s.loc { l with level := v }).occ = .inbound ∨ (s.loc { l with level := v }).occ = .outbound)) →
          exec (.loadMap tag q entries) s = .next (s.replied 0x95 tag .locationReserved [])) ∧
        ((∀ v, 1 ≤ v → v ≤ a.levels →
            (s.loc { l with level := v }).occ ≠ .inbound ∧ (s.loc { l with level := v }).occ ≠ .outbound) →
          let ids := (entries.filter (fun e => decide (e.occupancy = 1))).map LevelFields.pallet
          let keys := (List.range entries.length).map (fun i => locKey { l with level := i + 1 })
          (¬ ids.Nodup ∨ (∃ id ∈ ids, s.palletHeld id keys = true) →
            exec (.loadMap tag q entries) s = .next (s.replied 0x95 tag .duplicatePallet [])) ∧
          (ids.Nodup → (∀ id ∈ ids, s.palletHeld id keys = false) →
            ∃ u : State, exec (.loadMap tag q entries) s = .next (u.conclude 0x15 tag .ok (beBytes 1 entries.length)) ∧
              (∀ m : Loc, m.inRanges →
                u.loc m = match (if m = { l with level := m.level } then entries[m.level - 1]? else none) with
                  | some e => { (s.loc m) with
                      occ := if e.occupancy = 0 then .empty else if e.occupancy = 1 then .full else .unknown
                      pallet := if e.occupancy = 1 then some e.pallet else none, height := e.height }
                  | none => s.loc m) ∧
              (∀ key, key ∈ u.work.pairs ↔
                ∃ v, 1 ≤ v ∧ v ≤ entries.length ∧ key = locKey { l with level := v, depth := .front }) ∧
              u = { s with locs := u.locs, work := { pairs := u.work.pairs, allBusy := false } }))))

/-- SET_ATTR (R17, R11, R13): originator and address checked, and the attribute set behind them (an order that entry 18
chooses), then every attribute open to the originator takes the value given and every closed one keeps its value; the
reply carries the set that results. Where the request sets NO_RETRIEVE, which the location did not carry before it
(entry 15), a READY retrieve from the location returns to WAITING(BLOCKED_OUT) and its source to FULL. A cleared attribute
re-examines the pair and makes a pass due in RUN. Nothing else changes before the end of the request. -/
def Obligations.SetAttrWritesOpenAttributes : Prop :=
  ∀ (tag originator attrs : Nat) (q : LocFields) (s : State), s.takes → s.quiet →
    (originator < 1 ∨ 7 < originator → exec (.setAttr tag originator q attrs) s = .next (s.replied 0xB1 tag .badField [])) ∧
    (∀ r, 1 ≤ originator → originator ≤ 7 → s.checkLoc q = .error r →
      exec (.setAttr tag originator q attrs) s = .next (s.replied 0xB1 tag r [])) ∧
    (∀ l, 1 ≤ originator → originator ≤ 7 → s.checkLoc q = .ok l → 15 < attrs →
      exec (.setAttr tag originator q attrs) s = .next (s.replied 0xB1 tag .badField [])) ∧
    (∀ l want, 1 ≤ originator → originator ≤ 7 → s.checkLoc q = .ok l → l.inRanges → attrsOf attrs = some want →
      ∀ new : Attrs,
      (∀ f : Attrs → Bool, f = Attrs.noStore ∨ f = Attrs.noRetrieve ∨ f = Attrs.inspect ∨ f = Attrs.noRelocate →
        f new = if f (s.origin originator l.aisle).mask then f want else f (s.loc l).attrs) →
      ∃ u : State, exec (.setAttr tag originator q attrs) s = .next (u.conclude 0x31 tag .ok (beBytes 1 new.byte)) ∧
        let cleared : Bool := (s.loc l).attrs.clearedBy new
        ((new.noRetrieve = false ∨ (s.loc l).attrs.noRetrieve = true ∨ ∀ j ∈ s.pool, j.kind = .retrieve → j.state = .ready → j.source ≠ some l) →
          (∀ m : Loc, m.inRanges → u.loc m = if m = l then { (s.loc l) with attrs := new } else s.loc m) ∧
          u = { s with
            locs := u.locs
            work := { pairs := if cleared then [locKey { l with depth := .front }] else [], allBusy := false }
            passDue := s.passDue || decide (cleared = true ∧ s.mode.run = .run) }) ∧
        (∀ j ∈ s.pool, new.noRetrieve = true → (s.loc l).attrs.noRetrieve = false → j.kind = .retrieve → j.state = .ready → j.source = some l →
          j.srcRes ≠ none → (∀ i ∈ s.pool, i.num = j.num ∨ i.source = some l → i = j) →
          (∀ m : Loc, m.inRanges → u.loc m = if m = l then { (s.loc l) with attrs := new, occ := .full } else s.loc m) ∧
          u = { s with
            locs := u.locs
            pool := s.pool.map (fun i => if i.num = j.num then { j with state := .waiting .blockedOut, srcRes := none } else i)
            work := { pairs := [locKey { l with depth := .front }], allBusy := false }
            passDue := s.passDue || decide (cleared = true ∧ s.mode.run = .run) }))

/-- MARK (R18): originator and column checked, in the order that entry 18 chooses, then on every level whose bit is clear
each open attribute takes its value from the originator's preset and each closed one keeps its value; the reply carries
the number of selected locations whose set is different. A cleared attribute re-examines the pair and makes a pass due in
RUN (R13). A MARK that selects no level changes nothing. Where it sets NO_RETRIEVE (R11, entry 15) on the source of a
READY retrieve, that job returns to WAITING(BLOCKED_OUT) and its source to FULL; where it does so on none, nothing else
changes before the end of the request. -/
def Obligations.MarkWritesThePreset : Prop :=
  ∀ (tag originator word : Nat) (q : ColFields) (s : State), s.takes → s.quiet →
    (originator < 1 ∨ 7 < originator → exec (.mark tag originator q word) s = .next (s.replied 0xB2 tag .badField [])) ∧
    (∀ r, 1 ≤ originator → originator ≤ 7 → s.checkCol q = .error r →
      exec (.mark tag originator q word) s = .next (s.replied 0xB2 tag r [])) ∧
    (∀ l a, 1 ≤ originator → originator ≤ 7 → s.checkCol q = .ok l → s.aisle q.aisle = some a → l.inRanges →
      a.levels ≤ 32 →
      let e := s.origin originator l.aisle
      let levels := ((List.range a.levels).map (· + 1)).filter (fun v => !word.testBit (v - 1))
      let after := fun m : Loc => (s.loc m).attrs.write e.mask e.preset
      ∃ u : State, exec (.mark tag originator q word) s = .next (u.conclude 0x32 tag .ok
          (beBytes 1 (levels.filter (fun v => decide (after { l with level := v } ≠ (s.loc { l with level := v }).attrs))).length)) ∧
        (∀ m : Loc, m.inRanges →
          (u.loc m).attrs = (if m.level ∈ levels ∧ m = { l with level := m.level } then after m else (s.loc m).attrs) ∧
          (u.loc m).pallet = (s.loc m).pallet ∧ (u.loc m).height = (s.loc m).height) ∧
        (levels = [] → u = s) ∧
        (let sets : Loc → Prop := fun m => m.level ∈ levels ∧ m = { l with level := m.level } ∧
            (after m).noRetrieve = true ∧ (s.loc m).attrs.noRetrieve = false;
          let cleared : Nat → Prop := fun v => (s.loc { l with level := v }).attrs.clearedBy (after { l with level := v }) = true;
          (u.passDue = true ↔ s.passDue = true ∨ (s.mode.run = .run ∧ ∃ v ∈ levels, cleared v)) ∧
          ((∀ j ∈ s.pool, j.kind = .retrieve → j.state = .ready → ∀ m, sets m → j.source ≠ some m) →
            (∀ m : Loc, (u.loc m).occ = (s.loc m).occ) ∧
            (∀ key, key ∈ u.work.pairs ↔ ∃ v ∈ levels, cleared v ∧ key = locKey { l with level := v, depth := .front }) ∧
            u = { s with locs := u.locs, work := { pairs := u.work.pairs, allBusy := false }, passDue := u.passDue }) ∧
          (∀ j ∈ s.pool, ∀ m, j.kind = .retrieve → j.state = .ready → j.source = some m → sets m → j.srcRes ≠ none →
            (∀ i ∈ s.pool, i.num = j.num ∨ i.source = some m → i = j) →
            (∀ i ∈ s.pool, i.kind = .retrieve → i.state = .ready → ∀ x, sets x → i.source = some x → i = j) →
            (∀ x : Loc, x.inRanges → (u.loc x).occ = if x = m then .full else (s.loc x).occ) ∧
            (∀ key, key ∈ u.work.pairs ↔ key = locKey { m with depth := .front } ∨
              ∃ v ∈ levels, cleared v ∧ key = locKey { l with level := v, depth := .front }) ∧
            u = { s with
              locs := u.locs
              pool := s.pool.map (fun i => if i.num = j.num then { j with state := .waiting .blockedOut, srcRes := none } else i)
              work := { pairs := u.work.pairs, allBusy := false }
              passDue := u.passDue })))

/-! ## Jobs -/

/-- STORE: the checks in their order (R30; the plain fields before the address is entry 18), then the effects (R31): the
record behind all others with the next admission number, an explicit target INBOUND, the tail of the infeed queue, READY
at its head with a pass due in RUN, and the reply. Nothing else changes before the end of the request. -/
def Obligations.StoreIsCheckedThenQueued : Prop :=
  ∀ (tag : Nat) (q : StoreFields) (s : State), s.takes → s.quiet →
    let refused : Result → Prop := fun r => exec (.store tag q) s = .next (s.replied 0xA0 tag r [])
    let address : Result :=
      if q.form = 0 then exceptResult (s.checkLoc q.target)
      else if q.zone.code ≤ 16383 ∧ q.zone.mask ≤ 16383 then .ok else .badField
    if s.mode.run = .config then refused .wrongMode
    else if ¬ (1 ≤ q.job ∧ q.job ≤ 2147483647 ∧ 1 ≤ q.originator ∧ q.originator ≤ 7 ∧ q.pallet ≠ 0 ∧ q.height ≤ 3 ∧
        1 ≤ q.station ∧ q.station ≤ 16 ∧ q.form ≤ 1) then refused .badField
    else if address ≠ .ok then refused address
    else if ∃ j ∈ s.pool, j.num = q.job then refused .duplicateJob
    else if 496 ≤ (s.pool.filter (fun (j : Job) => j.kind == JobKind.store || j.kind == JobKind.retrieve)).length ∨
        4294967295 < s.admNext then refused .poolFull
    else if (∃ e ∈ s.locs, (e.2.occ = .full ∨ e.2.occ = .outbound) ∧ e.2.pallet = some q.pallet) ∨
        (∃ k ∈ craneNumbers, (s.crane k).load.map Load.id = some q.pallet) ∨
        (∃ j ∈ s.pool, j.kind = .store ∧ j.pallet = q.pallet) then refused .duplicatePallet
    else match s.station q.station with
      | none => refused .badField
      | some t =>
        if t.kind = .outfeed then refused .badField
        else if t.capacity ≤ t.queue.length then refused .infeedFull
        else
          let reached : Loc → Prop := fun l =>
            ∃ k r, s.servingCrane t = some k ∧ (s.crane k).reach = some r ∧ r.hits (locCode l) = true
          let taken : Option Loc → Prop := fun target =>
            ∃ u : State,
              exec (.store tag q) s = .next (u.conclude 0x20 tag .ok (beBytes 4 s.admNext ++
                beBytes 1 (if t.queue = [] then 2 else 1) ++ beBytes 1 (if t.queue = [] then 0 else 2))) ∧
              (∀ n, u.station n = if n = q.station then some { t with queue := t.queue ++ [q.job] } else s.station n) ∧
              (∀ m : Loc, m.inRanges → u.loc m =
                if target = some m then { (s.loc m) with occ := .inbound, pallet := some q.pallet } else s.loc m) ∧
              u = { s with
                pool := s.pool ++ [{
                  num := q.job, kind := .store, originator := q.originator, cls := min q.cls 3, adm := s.admNext
                  pallet := q.pallet, height := q.height, station := q.station, stationNamed := true
                  source := none, dest := target
                  zone := (if q.form = 0 then none else some { code := q.zone.code, mask := q.zone.mask })
                  group := 0, position := 0, delay := none, linked := 0
                  state := (if t.queue = [] then .ready else .waiting .queued)
                  bypass := 0, crane := 0, srcRes := none
                  dstRes := target.map (fun _ => { kind := .location, origin := .admission })
                  inspect := false, holdReleased := false }]
                admNext := s.admNext + 1
                locs := u.locs
                stations := u.stations
                work := { pairs := target.toList.map (fun l => locKey { l with depth := .front }), allBusy := false }
                passDue := s.passDue || decide (t.queue = [] ∧ s.mode.run = .run) }
          (∀ l, q.form = 0 → s.checkLoc q.target = .ok l → l.inRanges →
            if ¬ (l.aisle = t.aisle ∧ (s.loc l).occ = .empty ∧ (s.loc l).attrs.noStore = false ∧ q.height ≤ (s.loc l).height ∧
                (∀ d ∈ [Depth.front, Depth.rear],
                  (s.loc { l with depth := d }).occ ≠ .inbound ∧ (s.loc { l with depth := d }).occ ≠ .outbound) ∧
                (l.depth = .rear → (s.loc { l with depth := .front }).occ = .empty)) then refused .locationUnavailable
            else (¬ reached l → refused .noReach) ∧ (reached l → taken (some l))) ∧
          (q.form ≠ 0 →
            let common := ∃ a l, s.aisle t.aisle = some a ∧ l ∈ a.allLocs t.aisle ∧
              ({ code := q.zone.code, mask := q.zone.mask } : Filter).hits (locCode l) = true ∧ reached l
            (¬ common → refused .noReach) ∧ (common → taken none))

/-- RETRIEVE: the checks in their order (R34; the plain fields before the address is entry 18), then the effects (R35):
the record behind all others with the next admission number, the position held in its group, and with a delay
WAITING(NOT_YET) and the timer at the delay; without one the readiness is evaluated at once. Nothing else changes before
the end of the request. -/
def Obligations.RetrieveIsCheckedThenAdmitted : Prop :=
  ∀ (tag : Nat) (q : RetrieveFields) (s : State), s.takes → s.quiet →
    let refused : Result → Prop := fun r => exec (.retrieve tag q) s = .next (s.replied 0xA1 tag r [])
    let address : Result := if q.form = 1 then exceptResult (s.checkLoc q.location) else .ok
    (∀ id, s.findPallet id = none ↔ ∀ e ∈ s.locs, ¬ ((e.2.occ = .full ∨ e.2.occ = .outbound) ∧ e.2.pallet = some id)) ∧
    (∀ id l, s.findPallet id = some l →
      ∃ e ∈ s.locs, keyLoc e.1 = l ∧ (e.2.occ = .full ∨ e.2.occ = .outbound) ∧ e.2.pallet = some id) ∧
    (if s.mode.run = .config then refused .wrongMode
    else if ¬ (1 ≤ q.job ∧ q.job ≤ 2147483647 ∧ 1 ≤ q.originator ∧ q.originator ≤ 7 ∧ q.form ≤ 1 ∧
        (q.form = 0 → q.pallet ≠ 0) ∧ q.station ≤ 16 ∧ q.delay ≤ 65535 ∧ q.group ≤ 65535 ∧
        (q.group ≠ 0 → 1 ≤ q.position ∧ q.position ≤ 255)) then refused .badField
    else if address ≠ .ok then refused address
    else if ∃ j ∈ s.pool, j.num = q.job then refused .duplicateJob
    else if 496 ≤ (s.pool.filter (fun (j : Job) => j.kind == JobKind.store || j.kind == JobKind.retrieve)).length ∨
        4294967295 < s.admNext then refused .poolFull
    else
      (q.form = 0 → s.findPallet q.pallet = none → refused .unknownPallet) ∧
      (∀ l, (q.form = 1 ∧ s.checkLoc q.location = .ok l) ∨ (q.form = 0 ∧ s.findPallet q.pallet = some l) →
        let p := (s.loc l).pallet.getD 0
        if (s.loc l).occ = .outbound then refused .duplicatePallet
        else if q.form = 1 ∧ (s.loc l).occ ≠ .full then refused .locationUnavailable
        else if ∃ j ∈ s.pool, j.kind = .retrieve ∧ j.pallet = p then refused .duplicatePallet
        else
          let outfeed := q.station = 0 ∨ ∃ t, s.station q.station = some t ∧ t.kind = .outfeed ∧ t.aisle = l.aisle
          let group : Result := if q.group = 0 then .ok else match s.group q.group with
            | none => .noGroup
            | some g =>
              if g.status = .closing then .groupClosing
              else if q.position < g.d then .stalePosition
              else if tableGet q.position g.held ≠ none ∨ q.position ∈ g.settled then .duplicatePosition else .ok
          let reach := ∃ k r, (s.crane k).inAisle l.aisle = true ∧ (s.crane k).reach = some r ∧
            r.hits (locCode l) = true ∧ ∃ e ∈ s.stations, (q.station = 0 ∨ e.1 = q.station) ∧ e.2.kind = .outfeed ∧
              e.2.aisle = l.aisle ∧ s.serves k e.2 = true
          (¬ outfeed → refused .badField) ∧
          (outfeed → group ≠ .ok → refused group) ∧
          (outfeed → group = .ok → ¬ reach → refused .noReach) ∧
          (outfeed → group = .ok → reach →
            ∃ u : State,
              exec (.retrieve tag q) s = .next (
                if q.delay = 0 then (u.evaluate q.job).conclude 0x21 tag .ok ((u.evaluate q.job).admissionData q.job)
                else u.conclude 0x21 tag .ok (beBytes 4 s.admNext ++ beBytes 1 1 ++ beBytes 1 1)) ∧
              (∀ n, u.group n = if n = q.group ∧ n ≠ 0 then
                  (s.group n).map (fun g => { g with held := tablePut q.position q.job g.held }) else s.group n) ∧
              u = { s with
                pool := s.pool ++ [{
                  num := q.job, kind := .retrieve, originator := q.originator, cls := min q.cls 3, adm := s.admNext
                  pallet := p, height := 0, station := q.station, stationNamed := decide (q.station ≠ 0)
                  source := some l, dest := none, zone := none
                  group := q.group, position := (if q.group = 0 then 0 else q.position)
                  delay := (if q.delay = 0 then none else some (q.delay * 1000)), linked := 0
                  state := .waiting (if q.delay = 0 then .pairBusy else .notYet)
                  bypass := 0, crane := 0, srcRes := none, dstRes := none, inspect := false, holdReleased := false }]
                admNext := s.admNext + 1
                groups := u.groups })))

/-- The readiness of a retrieve (R37), and the expiry of its earliest-start timer (R36), which evaluates a job that is
WAITING(NOT_YET) and does nothing to another: a relocation of the pallet, the source not FULL with it, NO_RETRIEVE, a busy
pair, the FRONT before a REAR source, and else the reservation of the source. -/
def Obligations.ReadinessIsEvaluatedInOrder : Prop :=
  ∀ (s : State) (n : Nat) (j : Job) (l : Loc), s.job n = some j → j.source = some l → l.inRanges →
    let front : Loc := { l with depth := .front }
    let waits : WaitReason → Nat → Prop := fun r m => s.evaluate n = { s with
      pool := s.pool.map (fun i => if i.num = n then { i with state := .waiting r, linked := m, delay := none } else i) }
    (exec (.earliestStartExpiry n) s = .next (if j.state = .waiting .notYet then (s.evaluate n).finish else s)) ∧
    (∀ r, s.relocationOf j.pallet = some r → waits .relocating r.num) ∧
    (s.relocationOf j.pallet = none →
      if (s.loc l).occ ≠ .full ∨ (s.loc l).pallet ≠ some j.pallet then
        s.evaluate n = s.leaveCore n (.failed .conflict) ∧
        (j.kind = .retrieve → j.group = 0 → j.srcRes = none → j.dstRes = none →
          s.evaluate n = { s with
            pool := (s.pool.filter (fun i => i.num != n)).map
              (fun r => if r.kind = .relocate ∧ r.linked = n then { r with linked := 0 } else r)
            link := s.link.report (.jobFailed n .retrieve j.pallet j.crane .conflict)
            passDue := s.passDue || decide (s.mode.run = .run) })
      else if (s.loc l).attrs.noRetrieve = true then waits .blockedOut 0
      else if ∃ d ∈ [Depth.front, Depth.rear],
          (s.loc { l with depth := d }).occ = .inbound ∨ (s.loc { l with depth := d }).occ = .outbound then waits .pairBusy 0
      else if l.depth = .rear ∧ ((s.loc front).occ = .unknown ∨
          ((s.loc front).occ = .full ∧ (s.loc front).attrs.noRelocate = true)) then waits .frontFixed 0
      else if l.depth = .rear ∧ (s.loc front).occ = .full ∧
          (16 ≤ (s.pool.filter (fun (i : Job) => i.kind == JobKind.relocate || i.kind == JobKind.recover)).length ∨
            4294967295 < s.admNext) then waits .pairBusy 0
      else if l.depth = .rear ∧ (s.loc front).occ = .full then
        ∀ m, s.internalNumber = m → (∀ i ∈ s.pool, i.num ≠ m) →
          (∀ k : Loc, k.inRanges → (s.evaluate n).loc k =
            if k = front then { (s.loc k) with occ := .outbound } else s.loc k) ∧
          s.evaluate n = { s with
            locs := (s.evaluate n).locs
            pool := s.pool.map (fun i =>
                if i.num = n then { i with state := .waiting .relocating, linked := m, delay := none } else i) ++ [{
              num := m, kind := .relocate, originator := 0, cls := j.cls, adm := s.admNext
              pallet := (s.loc front).pallet.getD 0, height := 0, station := 0, stationNamed := false
              source := some front, dest := none, zone := none, group := 0, position := 0, delay := none, linked := n
              state := .ready, bypass := 0, crane := 0, srcRes := some .admission, dstRes := none, inspect := false
              holdReleased := false }]
            admNext := s.admNext + 1
            intNext := if m < 4294967295 then m + 1 else 2147483648
            link := s.link.report (.jobCreated m .relocate ((s.loc front).pallet.getD 0) n 0 (some front) none 0)
            work := (s.touchPair l).work
            passDue := s.passDue || decide (s.mode.run = .run) }
      else
        (∀ k : Loc, k.inRanges → (s.evaluate n).loc k =
          if k = l then { (s.loc k) with occ := .outbound } else s.loc k) ∧
        s.evaluate n = { s with
          locs := (s.evaluate n).locs
          pool := s.pool.map (fun i =>
            if i.num = n then { i with srcRes := some .admission, state := .ready, linked := 0, delay := none } else i)
          work := (s.touchPair l).work
          passDue := s.passDue || decide (s.mode.run = .run) })

/-- Re-examination (R38; entry 6). An event has touched pairs, and where an internal job has left, every PAIR_BUSY
retrieve. The retrieves concerned wait as PAIR_BUSY, FRONT_FIXED or BLOCKED_OUT, with their source in a touched pair, or
as PAIR_BUSY where every such one is concerned; NOT_YET, QUEUED and RELOCATING, and READY or later jobs, are passed over.
A round takes them in pool order, which is the order of admission, each with its outcome before the next, and evaluates by
R37 those that still wait so. What a round has touched makes the next, so that of two retrieves of a pair the older takes
it and the younger finds it busy, and the end of the event is the state after the round that concerns no job, nothing
owed. -/
def Obligations.ReexaminationTakesTheWaitersOldestFirst : Prop :=
  let waits : JobState → Bool := fun st => st == .waiting .pairBusy || st == .waiting .frontFixed || st == .waiting .blockedOut
  let concerned : State → List Nat := fun s => (s.pool.filter (fun j => j.kind == .retrieve && waits j.state &&
    ((s.work.allBusy && j.state == .waiting .pairBusy) ||
      j.source.any (fun l => s.work.pairs.contains (locKey { l with depth := .front }))))).map Job.num
  let round : State → State := fun s => (concerned s).foldl
    (fun u n => if ∃ j, u.job n = some j ∧ waits j.state = true then u.evaluate n else u)
    { s with work := { pairs := [], allBusy := false } }
  ∀ (s : State) (rounds : Nat), rounds ≤ s.pool.length + 8 → concerned (Nat.repeat round rounds s) = [] →
    s.finish = { Nat.repeat round rounds s with work := { pairs := [], allBusy := false } }

/-- CANCEL: the checks in their order (R43), then the job leaves the pool (R44, R47), an ASSIGNED one first withdrawn from
its crane's plan, which then goes on (R45); the reply carries the state the job held. Shown whole for a retrieve without a
group in WAITING or READY and for a store with an explicit target: the source returns to FULL, the target to EMPTY, the
queue closes up and its next job becomes READY. -/
def Obligations.CancelWithdrawsTheJob : Prop :=
  ∀ (tag n : Nat) (s : State), s.takes → s.quiet →
    let refused : Result → Prop := fun r => exec (.cancel tag n) s = .next (s.replied 0xA2 tag r [])
    let unlinked : List Job := (s.pool.filter (fun i => i.num != n)).map
      (fun r => if r.kind = .relocate ∧ r.linked = n then { r with linked := 0 } else r)
    if s.mode.run = .config then refused .wrongMode
    else if n = 0 then refused .badField
    else match s.job n with
      | none => refused .unknownJob
      | some j =>
        let taken : State → Prop := fun u => exec (.cancel tag n) s = .next (u.conclude 0x22 tag .ok (
          beBytes 1 j.state.code ++ beBytes 1 (match j.state with
            | .waiting r => r.code
            | _ => 0)))
        if j.kind = .relocate ∨ j.kind = .recover then refused .notOwner
        else if j.state = .active ∨ j.state = .carried then refused .inProgress
        else if ∃ k ∈ [LegKind.fetch, LegKind.put, LegKind.move], j.state = .uncertain k then refused .jobUncertain
        else if j.state = .assigned then
          taken (((s.removeLegs j.crane n).leave n .cancelled).continueCrane j.crane)
        else
          taken (s.leave n .cancelled) ∧
          (j.kind = .retrieve → j.group = 0 → j.srcRes = none → j.dstRes = none →
            s.leave n .cancelled = { s with pool := unlinked, passDue := s.passDue || decide (s.mode.run = .run) }) ∧
          (∀ l, j.kind = .retrieve → j.group = 0 → j.srcRes ≠ none → j.source = some l → l.inRanges → j.dstRes = none →
            (∀ m : Loc, m.inRanges → (s.leave n .cancelled).loc m =
              if m = l then { (s.loc m) with occ := .full } else s.loc m) ∧
            s.leave n .cancelled = { s with
              locs := (s.leave n .cancelled).locs
              pool := unlinked
              work := { pairs := [locKey { l with depth := .front }], allBusy := false }
              passDue := s.passDue || decide (s.mode.run = .run) }) ∧
          (∀ l t, j.kind = .store → j.dest = some l → l.inRanges → j.dstRes = some { kind := .location, origin := .admission } →
            j.srcRes = none → s.station j.station = some t → n ∈ t.queue →
            let rest := t.queue.filter (fun m => m != n)
            (∀ m : Loc, m.inRanges → (s.leave n .cancelled).loc m =
              if m = l then { (s.loc m) with occ := .empty, pallet := none } else s.loc m) ∧
            (∀ k, (s.leave n .cancelled).station k =
              if k = j.station then some { t with queue := rest } else s.station k) ∧
            s.leave n .cancelled = { s with
              locs := (s.leave n .cancelled).locs
              stations := (s.leave n .cancelled).stations
              pool := unlinked.map (fun i =>
                if t.queue.head? = some n ∧ rest.head? = some i.num then { i with state := .ready } else i)
              work := { pairs := [locKey { l with depth := .front }], allBusy := false }
              passDue := s.passDue || decide (s.mode.run = .run) })

/-- RECOVER: the checks in their order (R114; the plain fields before the address is entry 18), then a RECOVER job of
class 0 is created READY with the crane's pallet, its destination reserved at once (R24), JOB_CREATED is reported, and a
pass is due in RUN; the reply carries the job number. Nothing else changes before the end of the request. -/
def Obligations.RecoverCreatesItsJob : Prop :=
  ∀ (tag : Nat) (q : RecoverFields) (s : State), s.takes → s.quiet →
    let refused : Result → Prop := fun r => exec (.recover tag q) s = .next (s.replied 0xA3 tag r [])
    let address : Result := if q.form = 0 then exceptResult (s.checkLoc q.location) else .ok
    if s.mode.run = .config ∨ s.mode.run = .safe then refused .wrongMode
    else if ¬ (1 ≤ q.crane ∧ q.crane ≤ 12 ∧ q.form ≤ 1 ∧ (q.form = 1 → 1 ≤ q.station ∧ q.station ≤ 16)) then
      refused .badField
    else if address ≠ .ok then refused address
    else if (s.crane q.crane).cfg = none then refused .notConfigured
    else match (s.crane q.crane).load with
      | none => refused .noLoad
      | some load =>
        if load.resolved = true then refused .noLoad
        else if ∃ j ∈ s.pool, j.kind = .recover ∧ j.crane = q.crane then refused .duplicateJob
        else if 16 ≤ (s.pool.filter (fun (j : Job) => j.kind == JobKind.relocate || j.kind == JobKind.recover)).length ∨
            4294967295 < s.admNext then refused .poolFull
        else
          let record : Nat → Option Loc → DstKind → Job := fun m l kind =>
            { num := m, kind := .recover, originator := 0, cls := 0, adm := s.admNext, pallet := load.id, height := 0
              station := (if q.form = 0 then 0 else q.station), stationNamed := false, source := none, dest := l
              zone := none, group := 0, position := 0, delay := none, linked := 0, state := .ready, bypass := 0
              crane := q.crane, srcRes := none, dstRes := some { kind := kind, origin := .admission }
              inspect := false, holdReleased := false }
          (∀ l, q.form = 0 → s.checkLoc q.location = .ok l → l.inRanges →
            if (s.crane q.crane).inAisle l.aisle = true ∧ (s.loc l).occ = .empty ∧
                (∀ d ∈ [Depth.front, Depth.rear],
                  (s.loc { l with depth := d }).occ ≠ .inbound ∧ (s.loc { l with depth := d }).occ ≠ .outbound) ∧
                (s.loc l).attrs.noStore = false ∧ (l.depth = .rear → (s.loc { l with depth := .front }).occ = .empty) ∧
                s.inReach q.crane l = true then
              ∀ m, s.internalNumber = m → (∀ i ∈ s.pool, i.num ≠ m) →
                ∃ u : State, exec (.recover tag q) s = .next (u.conclude 0x23 tag .ok (beBytes 4 m)) ∧
                  (∀ k : Loc, k.inRanges → u.loc k =
                    if k = l then { (s.loc k) with occ := .inbound, pallet := some load.id } else s.loc k) ∧
                  u = { s with
                    locs := u.locs
                    pool := s.pool ++ [record m (some l) .location]
                    admNext := s.admNext + 1
                    intNext := if m < 4294967295 then m + 1 else 2147483648
                    link := s.link.report (.jobCreated m .recover load.id 0 q.crane none (some l) 0)
                    work := { pairs := [locKey { l with depth := .front }], allBusy := false }
                    passDue := s.passDue || decide (s.mode.run = .run) }
            else refused .locationUnavailable) ∧
          (q.form = 1 →
            (¬ (∃ t, s.station q.station = some t ∧ t.kind = .outfeed ∧ s.serves q.crane t = true ∧
              t.occ + t.pend < t.capacity) → refused .badField) ∧
            (∀ t, s.station q.station = some t → t.kind = .outfeed → s.serves q.crane t = true →
              t.occ + t.pend < t.capacity → ∀ m, s.internalNumber = m → (∀ i ∈ s.pool, i.num ≠ m) →
                ∃ u : State, exec (.recover tag q) s = .next (u.conclude 0x23 tag .ok (beBytes 4 m)) ∧
                  (∀ n, u.station n = if n = q.station then some { t with pend := t.pend + 1 } else s.station n) ∧
                  u = { s with
                    stations := u.stations
                    pool := s.pool ++ [record m none .delivery]
                    admNext := s.admNext + 1
                    intNext := if m < 4294967295 then m + 1 else 2147483648
                    link := s.link.report (.jobCreated m .recover load.id 0 q.crane none none q.station)
                    passDue := s.passDue || decide (s.mode.run = .run) }))

/-! ## Stations and groups -/

/-- GROUP_OPEN and GROUP_CLOSE: the checks in their order, then an entry added OPEN with the first position as its counter
(R141), and an entry removed at once when no job holds a position of it, else CLOSING (R145). Nothing else changes.
GROUP_SKIP (R144): the checks in their order, then the position is settled (R143). Above the counter it joins the settled
set; at the counter, the counter goes on to the first position not settled, which leaves only later positions in the set,
a pass is due in RUN, and the crane held for the new counter is released (R151). Nothing else changes before the end of
the request. -/
def Obligations.GroupsOpenCloseAndSkip : Prop :=
  (∀ (tag gid first : Nat) (s : State), s.takes → s.quiet →
    (let refused : Result → Prop := fun r => exec (.groupOpen tag gid first) s = .next (s.replied 0xA8 tag r [])
    if s.mode.run = .config then refused .wrongMode
    else if ¬ (1 ≤ gid ∧ gid ≤ 65535 ∧ 1 ≤ first ∧ first ≤ 255) then refused .badField
    else if s.group gid ≠ none then refused .duplicateJob
    else if 32 ≤ s.groups.length then refused .groupTableFull
    else ∃ u : State, exec (.groupOpen tag gid first) s = .next (u.replied 0xA8 tag .ok []) ∧
      (∀ n, u.group n = if n = gid then some { status := .opened, d := first, held := [], settled := [] } else s.group n) ∧
      u = { s with groups := u.groups }) ∧
    (let refused : Result → Prop := fun r => exec (.groupClose tag gid) s = .next (s.replied 0xA9 tag r [])
    if s.mode.run = .config then refused .wrongMode
    else if ¬ (1 ≤ gid ∧ gid ≤ 65535) then refused .badField
    else match s.group gid with
      | none => refused .noGroup
      | some g =>
        if g.status = .closing then refused .groupClosing
        else ∃ u : State,
          exec (.groupClose tag gid) s = .next (u.replied 0xA9 tag .ok (beBytes 1 (if g.held = [] then 1 else 0))) ∧
          (∀ n, u.group n = if n = gid then (if g.held = [] then none else some { g with status := .closing })
            else s.group n) ∧
          u = { s with groups := u.groups })) ∧
  (∀ (tag gid p : Nat) (s : State), s.takes → s.quiet →
    let refused : Result → Prop := fun r => exec (.groupSkip tag gid p) s = .next (s.replied 0xAA tag r [])
    if s.mode.run = .config then refused .wrongMode
    else if ¬ (1 ≤ gid ∧ gid ≤ 65535 ∧ 1 ≤ p ∧ p ≤ 255) then refused .badField
    else match s.group gid with
      | none => refused .noGroup
      | some g =>
        if p < g.d then refused .stalePosition
        else if p ∈ g.settled then refused .duplicatePosition
        else if tableGet p g.held ≠ none then refused .inProgress
        else
          g.settled.Pairwise (· < ·) → (∀ x ∈ g.settled, g.d < x) →
          ∃ (g' : Group) (v u : State),
            exec (.groupSkip tag gid p) s = .next (u.conclude 0x2A tag .ok (beBytes 2 g'.d)) ∧
            g'.status = g.status ∧ (∀ x, tableGet x g'.held = tableGet x g.held) ∧
            (g.d < p → g'.d = g.d ∧ ∀ x, x ∈ g'.settled ↔ x = p ∨ x ∈ g.settled) ∧
            (p = g.d → g.d < g'.d ∧ g'.d ∉ g.settled ∧ (∀ x, g.d < x → x < g'.d → x ∈ g.settled) ∧
              ∀ x, x ∈ g'.settled ↔ x ∈ g.settled ∧ g'.d < x) ∧
            (∀ n, v.group n = if n = gid then some g' else s.group n) ∧
            v = { s with groups := v.groups, passDue := s.passDue || decide (s.mode.run = .run) } ∧
            (g'.d = g.d ∨ (∀ e ∈ s.holds, ¬ (e.2.group = gid ∧ e.2.position = g'.d)) → u = v) ∧
            (∀ k, g'.d ≠ g.d → s.heldCrane gid g'.d = some k → u = { v with holds := tableDrop k s.holds }.goOn k))

/-- STATION_CLEAR (R140): the checks in their order; then the occupancy falls by the count, to 0 at least, and the reply
carries the pallets cleared with the occupancy and the pending deliveries after it. A clear of at least one pallet makes a
pass due in RUN and sends the PUT that waits for room at the station where the station now has room; a clear of none
changes nothing. Pending deliveries and holds are not touched. -/
def Obligations.StationClearEmptiesTheLane : Prop :=
  ∀ (tag n count : Nat) (s : State), s.takes → s.quiet →
    let refused : Result → Prop := fun r => exec (.stationClear tag n count) s = .next (s.replied 0xAB tag r [])
    if s.mode.run = .config then refused .wrongMode
    else if ¬ (1 ≤ n ∧ n ≤ 16 ∧ count ≤ 255) then refused .badField
    else match s.station n with
      | none => refused .notConfigured
      | some t =>
        if t.kind = .infeed then refused .badField
        else
          let data : List Byte := beBytes 1 (min count t.occ) ++ (beBytes 1 (t.occ - count) ++ beBytes 1 t.pend)
          (min count t.occ = 0 → exec (.stationClear tag n count) s = .next (s.replied 0xAB tag .ok data)) ∧
          (0 < min count t.occ → ∃ v u : State,
            exec (.stationClear tag n count) s = .next (u.conclude 0x2B tag .ok data) ∧
            (∀ m, v.station m = if m = n then some { t with occ := t.occ - count } else s.station m) ∧
            v = { s with stations := v.stations, passDue := s.passDue || decide (s.mode.run = .run) } ∧
            (s.roomWaiter n = none ∨ t.capacity ≤ t.occ - count + t.pend → u = v) ∧
            (∀ k, s.roomWaiter n = some k → t.occ - count + t.pend < t.capacity →
              u = (v.updCrane k (fun c => { c with roomWait := false })).goOn k) ∧
            u.stations = v.stations ∧ u.holds = s.holds)

/-! ## Modes -/

/-- SET_MODE (R159): the checks in their order, then the speed class goes to every configured crane (R57), at once to a
crane that is not BUSY, with all it has pending (R59); the run state, speed class and active aisle set become those given,
MODE_CHANGED is made when one of them changed, and the reply carries them. A pass is due in RUN alone: on entry from
HOLD, when an aisle joins the set, when pending values were applied, or as before; in HOLD a running pass visits no
further crane (R71). Nothing else changes before the end of the request. -/
def Obligations.SetModeSetsTheThreeValues : Prop :=
  ∀ (tag r v a : Nat) (s : State), s.takes → s.quiet → a < 256 →
    (s.mode.run = .config ∨ s.mode.run = .safe →
      exec (.setMode tag r v a) s = .next (s.replied 0xB8 tag .wrongMode [])) ∧
    (s.mode.run = .run ∨ s.mode.run = .hold →
      (r ≠ 1 ∧ r ≠ 2) ∨ 1 < v → exec (.setMode tag r v a) s = .next (s.replied 0xB8 tag .badField [])) ∧
    (∀ new speed, s.mode.run = .run ∨ s.mode.run = .hold → modeRunOf r = some new → speedOf v = some speed →
      ((∃ n, 1 ≤ n ∧ n ≤ 8 ∧ a.testBit (n - 1) = true ∧ s.aisle n = none) →
        exec (.setMode tag r v a) s = .next (s.replied 0xB8 tag .notConfigured [])) ∧
      ((∀ n, 1 ≤ n → n ≤ 8 → a.testBit (n - 1) = true → s.aisle n ≠ none) →
        ∃ (u : State) (set : List Nat),
          exec (.setMode tag r v a) s = .next (u.conclude 0x38 tag .ok (beBytes 1 r ++ beBytes 1 v ++ beBytes 1 a)) ∧
          (∀ n, n ∈ set ↔ 1 ≤ n ∧ n ≤ 8 ∧ a.testBit (n - 1) = true) ∧
          (∀ k, u.crane k =
            let c := s.crane k
            if c.cfg = none then c
            else if c.chan = .busy then { c with pendSpeed := if c.speed = speed then none else some speed }
            else { c with
              speed := speed, pendSpeed := none
              figures := (if c.pendFigures = none then c.figures else c.pendFigures), pendFigures := none
              reach := (if c.pendReach = none then c.reach else c.pendReach), pendReach := none }) ∧
          (u.passDue = true ↔ new = .run ∧ (s.passDue = true ∨ s.mode.run = .hold ∨ (∃ n ∈ set, n ∉ s.mode.active) ∨
            ∃ k, (s.crane k).cfg ≠ none ∧ (s.crane k).chan ≠ .busy ∧
              ((s.crane k).speed ≠ speed ∨ (s.crane k).pendFigures ≠ none ∨ (s.crane k).pendReach ≠ none))) ∧
          u = { s with
            mode := { s.mode with run := new, speed := speed, active := set }
            cranes := u.cranes
            passDue := u.passDue
            passRun := (if new = .run then s.passRun else s.passRun.map (fun p => { p with toVisit := [] }))
            link :=
              if new = s.mode.run ∧ speed = s.mode.speed ∧ set = s.mode.active then s.link
              else s.link.report (.modeChanged .setMode new speed set s.mode.stop) }))

/-- The stop input (R163, R172): a state it already has changes nothing (entry 27), and a change settles it. In CONFIG it
is recorded; asserted in RUN and HOLD it makes SAFE entry (R164): a due or running pass ends, the channels act, the
snapshot of the cranes just stopped is taken, and MODE_CHANGED comes last, behind the re-examinations (R161); in SAFE a
release starts a resume check of 5,000 ms over the stop-halted channels (R165), and an assertion abandons it. Each channel
in READY, BUSY or PARKING is taken to LISTEN and marked stop-halted (R120), STOP going out to a BUSY one and for an
outstanding park leg; in SAFE no waiting request is granted and no leg sent (entry 9). -/
def Obligations.StopInputActsByRunState : Prop :=
  ∀ (b : Bool) (s : State), s.quiet →
    let settled : State := { s with mode := { s.mode with stop := b, settled := true } }
    exec (.stopInputSettled b) s = (if s.mode.settled = true then .next s else exec (.stopInputChange b) s) ∧
    (s.mode.stop = b ∨ s.mode.run = .config → exec (.stopInputChange b) s = .next settled) ∧
    (s.mode.stop ≠ b → s.mode.run = .safe → exec (.stopInputChange b) s = .next { settled with mode := { settled.mode with
      check := if b = true then none else some {
        remaining := 5000
        records := (craneNumbers.filter (fun k => (s.crane k).stopHalted)).map
          (fun k => (k, { auto := false, powerUp := false, manual := false })) } } }) ∧
    (s.mode.stop ≠ b → b = true → s.mode.run = .run ∨ s.mode.run = .hold →
      let stopped := craneNumbers.filter (fun k => (s.crane k).configured && (s.crane k).chan.inService)
      let safe : State := { settled with
        mode := { settled.mode with run := .safe }, passDue := false, passRun := none }
      let t := craneNumbers.foldl State.safeCrane safe
      let u := ({ t with
        mode := { t.mode with snapshot := some (stopped.map (fun k => (k, (t.crane k).load))) } } : State).reexamine
      exec (.stopInputChange b) s = .next { u with
        link := u.link.report (.modeChanged .stop .safe s.mode.speed s.mode.active true) } ∧
      (stopped = [] → t = safe)) ∧
    (∀ k, s.mode.run = .safe → 1 ≤ k → k ≤ 12 →
      ((s.crane k).cfg = none ∨ (s.crane k).chan.inService = false → s.safeCrane k = s) ∧
      ((s.crane k).cfg ≠ none → (s.crane k).chan.inService = true →
        let sent : State := if (s.crane k).chan = .busy ∨ (s.crane k).curLeg ≠ 0 then
            { s with portOut := s.portOut ++ [(k, [0x02, BitVec.ofNat 8 k])] } else s
        let halted : State := match (s.crane k).chan with
          | .busy => sent.breakPlan k none
          | .parking => sent.updCrane k (fun c => { c with
              parkLeg := none, parkHold := none, takenTimer := none, legTimer := none, curLeg := 0, legEst := 0
              request := none })
          | _ => sent
        (s.safeCrane k).crane k = { halted.crane k with chan := .listen, stopHalted := true } ∧
        (∀ j, j ≠ k → (s.safeCrane k).crane j = halted.crane j) ∧
        s.safeCrane k = { halted with
          cranes := (s.safeCrane k).cranes
          readyOrder := halted.readyOrder.filter (fun j => j != k)
          passRun := halted.passWithout k
          link := halted.link.report (.craneState k .listen .stop (halted.crane k).pos) }))

/-- The end of the resume check (R166): each stop-halted channel takes the result of the first row that applies; READY and
LOAD_CHANGED bring it into READY, SILENT into FAULT(SILENT), the others leave it; every stop-halted flag, the records and
the snapshot are gone, and the run state is HOLD. The CRANE_STATE reports come in ascending crane number, and RESUME_CHECK
and MODE_CHANGED last; the cranes brought into READY join the ready order in that order. That no pass is due after it is
entry 37. Without a running check the expiry does nothing. -/
def Obligations.ResumeCheckEndsInHold : Prop :=
  ∀ (s : State), s.quiet →
    (s.mode.check = none → exec .resumeCheckExpiry s = .next s) ∧
    (∀ c, s.mode.check = some c → s.mode.run = .safe →
      (∀ k, (s.crane k).stopHalted = true → (s.crane k).curLeg = 0 ∧
        ((s.crane k).chan = .listen ∨ (s.crane k).chan = .manual ∨ (s.crane k).chan = .fault)) →
      let result : Nat → CheckResult := fun k =>
        let m := (tableGet k c.records).getD { auto := false, powerUp := false, manual := false }
        let snap := ((s.mode.snapshot.getD []).find? (fun e => e.1 == k)).bind Prod.snd
        if (s.crane k).chan = .fault then .fault
        else if (s.crane k).chan = .manual ∨ m.manual = true then .manual
        else if m.powerUp = true then .powerUp
        else if m.auto = false then .silent
        else if (s.crane k).load = snap then .ready else .loadChanged
      let halted := craneNumbers.filter (fun k => (s.crane k).stopHalted)
      let resumed := halted.filter (fun k => decide (result k = .ready ∨ result k = .loadChanged))
      let entered : Nat → Option Report := fun k => match result k with
        | .ready | .loadChanged => some (.craneState k .ready .resumeCheck (s.crane k).pos)
        | .silent => some (.craneState k .fault (.fault .silent) (s.crane k).pos)
        | .manual | .powerUp | .fault => none
      ∃ t : State, exec .resumeCheckExpiry s = .next t ∧
        (∀ k, t.crane k =
          if (s.crane k).stopHalted = false then s.crane k
          else match result k with
            | .ready | .loadChanged => { s.crane k with
                chan := .ready, powerReturn := false, stopHalted := false, lastFault := none, bad := 0 }
            | .silent => { s.crane k with chan := .fault, lastFault := some .silent, stopHalted := false }
            | .manual | .powerUp | .fault => { s.crane k with stopHalted := false }) ∧
        t = { s with
          cranes := t.cranes
          readyOrder := s.readyOrder.filter (fun k => decide (k ∉ halted ∨ entered k = none)) ++ resumed
          passDue := false, passRun := none
          mode := { s.mode with run := .hold, check := none, snapshot := none }
          link := (((halted.filterMap entered).foldl Link.report s.link).report
              (.resumeCheck (halted.map (fun k => (k, result k))))).report
            (.modeChanged .resumeCheck .hold s.mode.speed s.mode.active s.mode.stop) })

/-- RESTART (R167), in every run state: INBOUND locations EMPTY and OUTBOUND FULL (R22), the pool and the counters started
again (R49), pending deliveries, queues, groups and holds gone (R155), the crane records as R121 says with STOP to BUSY
cranes and outstanding park legs, requests and reports discarded but for a telegram begun (R181), and the reply with the
run state after it. All else is kept; that every load of record becomes unresolved is
entry 31's reading of R121, and that a crane port's receiver searches again is entry 41's of R173. -/
def Obligations.RestartClearsTheWork : Prop :=
  ∀ (tag : Nat) (s : State), s.takes →
    let after : RunState := match s.mode.run with
      | .config => .config
      | .run | .hold => .hold
      | .safe => if s.mode.stop = true then .safe else .hold
    ∃ t : State, exec (.restart tag) s = .next t ∧
      (∀ l, t.loc l = match (s.loc l).occ with
        | .inbound => { s.loc l with occ := .empty, pallet := none }
        | .outbound => { s.loc l with occ := .full }
        | .empty | .full | .unknown => s.loc l) ∧
      (∀ n, t.station n = (s.station n).map (fun e => { e with pend := 0, queue := [] })) ∧
      (∀ k, 1 ≤ k → k ≤ 12 → t.crane k =
        let c := s.crane k
        { c with
          chan := (if c.chan = .offline then .offline else if c.chan = .parked then .parked else .listen)
          speed := c.pendSpeed.getD c.speed, pendSpeed := none
          figures := (if c.pendFigures = none then c.figures else c.pendFigures), pendFigures := none
          reach := (if c.pendReach = none then c.reach else c.pendReach), pendReach := none
          stopHalted := false, pendingPark := false, plan := [], cycle := none, estimate := 0, parkLeg := none
          curLeg := 0, legEst := 0, takenTimer := none, legTimer := none, parkHold := none, bad := 0
          roomWait := false, request := none, rx := .searching, load := c.load.map (fun l => { l with resolved := false }) }) ∧
      t = { s with
        locs := t.locs, stations := t.stations, cranes := t.cranes
        pool := [], admNext := 1, intNext := 2147483648, groups := [], holds := [], readyOrder := [], passDue := false
        passRun := none
        work := { pairs := [], allBusy := false }
        mode := { s.mode with run := after, check := none, snapshot := none }
        portOut := s.portOut ++ (craneNumbers.filter (fun k =>
          decide ((s.crane k).chan = .busy ∨ ((s.crane k).chan = .parking ∧ (s.crane k).curLeg ≠ 0)))).map
            (fun k => (k, [0x02, BitVec.ofNat 8 k]))
        link := { s.link with
          rx := .searching, ring := [], overrun := false, lost := 0
          out := (if s.link.begun = true then s.link.out.take 1 else []) ++
            [.reply 0xBF tag .ok false false [BitVec.ofNat 8 after.code]]
          begun := s.link.begun || s.link.hostReady } }

/-! ## Crane control -/

/-- RESUME (R117): the shared checks (R116), then by channel state: READY for a crane heard within 3,000 ms with no
UNCERTAIN job, READY for a park that is not under way, WAKE and OFFLINE for a parked crane, WRONG_MODE else. The change of
state is shown whole where no request of a twin waits; the reply carries the state after it. -/
def Obligations.ResumeReturnsACrane : Prop :=
  ∀ (tag k : Nat) (s : State), s.takes → s.quiet →
    let refused : Result → Prop := fun r => exec (.craneCtlResume tag k) s = .next (s.replied 0xB9 tag r [])
    if s.mode.run = .config ∨ s.mode.run = .safe then refused .wrongMode
    else if ¬ (1 ≤ k ∧ k ≤ 12) then refused .badField
    else if (s.crane k).cfg = none then refused .notConfigured
    else
      let ready : Crane → Prop := fun c =>
        exec (.craneCtlResume tag k) s = .next (((s.updCrane k (fun _ => c)).enter k .ready .resume).conclude 0x39 tag .ok
          (beBytes 1 ((((s.updCrane k (fun _ => c)).enter k .ready .resume)).crane k).chan.code ++ beBytes 1 0)) ∧
        ((∀ t, s.twinOf k = some t → (s.crane t).request = none) → ∃ u : State,
          exec (.craneCtlResume tag k) s = .next (u.conclude 0x39 tag .ok (beBytes 1 2 ++ beBytes 1 0)) ∧
          u.crane k = { c with chan := .ready, powerReturn := false, stopHalted := false, lastFault := none, bad := 0 } ∧
          (∀ j, j ≠ k → u.crane j = s.crane j) ∧
          u = { s with
            cranes := u.cranes
            readyOrder := s.readyOrder.filter (fun j => j != k) ++ [k]
            passRun := s.passWithout k
            passDue := s.passDue || decide (s.mode.run = .run)
            link := s.link.report (.craneState k .ready .resume c.pos) })
      match (s.crane k).chan with
      | .listen | .fault =>
        if 3000 < (s.crane k).silence then refused .craneSilent
        else if ∃ j ∈ s.pool, j.crane = k ∧ j.state.isUncertain = true then refused .jobUncertain
        else ready (s.crane k)
      | .parking =>
        if (s.crane k).curLeg ≠ 0 then refused .wrongMode
        else ready { s.crane k with
          parkLeg := none, parkHold := none, takenTimer := none, legTimer := none, curLeg := 0, legEst := 0, request := none }
      | .parked =>
        (∀ t, s.twinOf k = some t → (s.crane t).request = none) → ∃ u : State,
          exec (.craneCtlResume tag k) s = .next (u.conclude 0x39 tag .ok (beBytes 1 0 ++ beBytes 1 0)) ∧
          u.crane k = { s.crane k with chan := .offline } ∧ (∀ j, j ≠ k → u.crane j = s.crane j) ∧
          u = { s with
            cranes := u.cranes
            readyOrder := s.readyOrder.filter (fun j => j != k)
            passRun := s.passWithout k
            passDue := s.passDue || decide (s.mode.run = .run ∧ s.inTwin k = true)
            portOut := s.portOut ++ [(k, [0x04, BitVec.ofNat 8 k])]
            link := s.link.report (.craneState k .offline .wake (s.crane k).pos) }
      | .offline | .ready | .busy | .manual => refused .wrongMode

/-- PARK (R118): the shared checks (R116); on a READY crane with a recorded position the park leg is written, the channel
enters PARKING and the leg is sent, shown whole with no leg outstanding: in a twin aisle the leg first asks for its claim,
and waits as the request where the twin stands in the way and has none itself (R126, R127, R130); on a BUSY crane the
pending park flag is set; WRONG_MODE else. That the flag ends as the park leg is written is entry 20. At the expiry of the
parking hold, SLEEP goes out and the channel enters PARKED. -/
def Obligations.ParkSendsTheCraneHome : Prop :=
  ∀ (tag k : Nat) (s : State), s.quiet →
    (s.takes →
      let refused : Result → Prop := fun r => exec (.craneCtlPark tag k) s = .next (s.replied 0xB9 tag r [])
      if s.mode.run = .config ∨ s.mode.run = .safe then refused .wrongMode
      else if ¬ (1 ≤ k ∧ k ≤ 12) then refused .badField
      else match (s.crane k).cfg with
        | none => refused .notConfigured
        | some g =>
          match (s.crane k).chan with
          | .ready =>
            match (s.crane k).pos with
            | none => refused .wrongMode
            | some p =>
              exec (.craneCtlPark tag k) s = .next ((s.startPark k).conclude 0x39 tag .ok
                (beBytes 1 ((s.startPark k).crane k).chan.code ++ beBytes 1 0)) ∧
              ((s.crane k).curLeg = 0 → (s.crane k).roomWait = false → tableGet k s.holds = none →
                (s.crane k).request = none →
                let id := if (s.crane k).lastLeg < 255 then (s.crane k).lastLeg + 1 else 1
                let est := (s.crane k).legEstimate .move false p g.endPos
                let parked : Crane := { s.crane k with
                  chan := .parking, pendingPark := false
                  parkLeg := some { kind := .move, target := .endPos, job := none, pallet := none, approach := false
                                    start := p, est := est } }
                let sent : Option Span → Crane := fun claim => { parked with
                  lastLeg := id, curLeg := id, legEst := est, takenTimer := some 1000, legTimer := none, claim := claim }
                let parks : Crane → List (Nat × List Byte) → Prop := fun v out => ∃ u : State,
                  exec (.craneCtlPark tag k) s = .next (u.conclude 0x39 tag .ok (beBytes 1 4 ++ beBytes 1 0)) ∧
                  u.crane k = v ∧ (∀ j, j ≠ k → u.crane j = s.crane j) ∧
                  u = { s with
                    cranes := u.cranes
                    readyOrder := s.readyOrder.filter (fun j => j != k)
                    passRun := s.passWithout k
                    passDue := s.passDue || decide (s.mode.run = .run ∧ s.inTwin k = true)
                    portOut := s.portOut ++ out
                    link := s.link.report (.craneState k .parking .park (some p)) }
                let telegram : Nat × List Byte := (k, beBytes 1 1 ++ beBytes 1 id ++ beBytes 1 3 ++ beBytes 1 3 ++
                  beBytes 4 g.endPos.x ++ beBytes 2 g.endPos.y ++ beBytes 1 0 ++ beBytes 1 0 ++
                  beBytes 1 (if (s.crane k).speed = .normal then 0 else 1) ++
                  beBytes 4 (((s.crane k).load.map Load.id).getD 0))
                (s.inTwin k = false → parks (sent (s.crane k).claim) [telegram]) ∧
                (∀ t, s.twinOf k = some t → (s.crane t).request = none →
                  let v : Span := { lo := min p.x g.endPos.x, hi := max p.x g.endPos.x }
                  let clear : Prop := ∃ w, (s.crane t).railSpan = some w ∧
                    (g.role = .a → v.hi + (g.gap + (s.crane t).gap) ≤ w.lo) ∧
                    (g.role = .b → w.hi + (g.gap + (s.crane t).gap) ≤ v.lo)
                  (clear → parks (sent (some v)) [telegram]) ∧
                  (¬ clear → (s.crane t).canEvade = false → parks { parked with request := some v } [])))
          | .busy => ∃ u : State,
              exec (.craneCtlPark tag k) s = .next (u.replied 0xB9 tag .ok (beBytes 1 3 ++ beBytes 1 0)) ∧
              u.crane k = { s.crane k with pendingPark := true } ∧ (∀ j, j ≠ k → u.crane j = s.crane j) ∧
              u = { s with cranes := u.cranes }
          | .offline | .listen | .parking | .parked | .fault | .manual => refused .wrongMode) ∧
    ((s.crane k).parkHold = none → exec (.parkingHoldExpiry k) s = .next s) ∧
    ((s.crane k).parkHold ≠ none →
      exec (.parkingHoldExpiry k) s = .next (s.sleep k).finish ∧
      ((∀ t, s.twinOf k = some t → (s.crane t).request = none) →
        (s.sleep k).crane k = { s.crane k with parkHold := none, chan := .parked } ∧
        (∀ j, j ≠ k → (s.sleep k).crane j = s.crane j) ∧
        s.sleep k = { s with
          cranes := (s.sleep k).cranes
          readyOrder := s.readyOrder.filter (fun j => j != k)
          passRun := s.passWithout k
          passDue := s.passDue || decide (s.mode.run = .run ∧ s.inTwin k = true)
          portOut := s.portOut ++ [(k, [0x03, BitVec.ofNat 8 k])]
          link := s.link.report (.craneState k .parked .asleep (s.crane k).pos) }))

/-- PROFILE and REACH (R58, R119): the shared checks (R116), a value out of range BAD_FIELD (a B enable byte above 1 by
entry 14), a set already pending COLLISION; then the set is pending for a BUSY crane, and for any other it is applied at
once with all else that is pending, which makes a pass due in RUN (R59). The reply carries the channel state and which of
the two happened. Nothing else changes before the end of the request. -/
def Obligations.ProfileAndReachAreStaged : Prop :=
  ∀ (tag k : Nat) (f : FigureFields) (q : ReachFields) (s : State), s.takes → s.quiet →
    let stage : Instr → Prop → Prop → (Crane → Crane) → Prop := fun i bad collides put =>
      let refused : Result → Prop := fun r => exec i s = .next (s.replied 0xB9 tag r [])
      (s.mode.run = .config ∨ s.mode.run = .safe → refused .wrongMode) ∧
      (s.mode.run = .run ∨ s.mode.run = .hold →
        (k < 1 ∨ 12 < k → refused .badField) ∧
        (1 ≤ k → k ≤ 12 →
          ((s.crane k).cfg = none → refused .notConfigured) ∧
          ((s.crane k).cfg ≠ none →
            (bad → refused .badField) ∧ (¬ bad → collides → refused .collision) ∧
            (¬ bad → ¬ collides → ∃ u : State,
              let c := put (s.crane k)
              exec i s = .next (u.conclude 0x39 tag .ok
                (beBytes 1 (s.crane k).chan.code ++ beBytes 1 (if (s.crane k).chan = .busy then 2 else 1))) ∧
              u.crane k =
                (if (s.crane k).chan = .busy then c
                else { c with
                  speed := c.pendSpeed.getD c.speed, pendSpeed := none
                  figures := (if c.pendFigures = none then c.figures else c.pendFigures), pendFigures := none
                  reach := (if c.pendReach = none then c.reach else c.pendReach), pendReach := none }) ∧
              (∀ j, j ≠ k → u.crane j = s.crane j) ∧
              u = { s with
                cranes := u.cranes
                passDue := s.passDue || decide ((s.crane k).chan ≠ .busy ∧ s.mode.run = .run) }))))
    stage (.craneCtlProfile tag k f) (figuresOf f = none) ((s.crane k).pendFigures ≠ none)
      (fun c => { c with pendFigures := figuresOf f }) ∧
    stage (.craneCtlReach tag k q) (reachOf q = none) ((s.crane k).pendReach ≠ none)
      (fun c => { c with pendReach := reachOf q })

/-! ## Crane channels -/

/-- A channel goes on (R101, R105). A BUSY channel sends the head leg of its plan when nothing holds it back: it is RUN or
HOLD (entry 9), no leg is outstanding, no room is waited for, there is no hold and no request, and the plan is none of a
pass that still runs (R91). Else it stays as it is. The leg takes the next leg id (R95), its estimate is made at sending
(R56), the TAKEN timer starts at 1,000 ms, and a FETCH, or the PUT of a RECOVER job, makes its job ACTIVE. In a twin aisle
the leg first asks for the interval from the crane's place to its target (R126): where it clears the twin's rail span by
the two gaps it becomes the claim and the leg is sent, else it waits as the request (R127, R130). A BUSY channel with an
empty plan ends its cycle: pending values are applied (R59), and it enters READY with reason CYCLE_END, or parks with the
pending park flag. What follows a DONE or FAILED, with no UNCERTAIN job and the load as recorded or
not compared, is this alone (R111, R112). -/
def Obligations.ChannelGoesOnOrEndsItsCycle : Prop :=
  ∀ (k : Nat) (s : State), 1 ≤ k → k ≤ 12 →
    let c := s.crane k
    (c.chan ≠ .busy → s.continueCrane k = s) ∧
    (∀ g rest, c.chan = .busy → c.plan = g :: rest →
      let start := c.pos.getD g.start
      let p := s.targetPoint k g.target
      let v : Span := { lo := min start.x p.x, hi := max start.x p.x }
      let id := if c.lastLeg < 255 then c.lastLeg + 1 else 1
      let sent : Option Span → Prop := fun claim => ∃ u : State, s.continueCrane k = u ∧
        u.crane k = { c with
          lastLeg := id, curLeg := id, legEst := c.legEstimate g.kind g.target.rear start p, takenTimer := some 1000
          legTimer := none, claim := claim } ∧
        (∀ j, j ≠ k → u.crane j = s.crane j) ∧
        u = { s with
          cranes := u.cranes
          pool := s.pool.map (fun j =>
            if g.job = some j.num ∧ (g.kind = .fetch ∨ (g.kind = .put ∧ j.kind = .recover)) then { j with state := .active }
            else j)
          portOut := s.portOut ++ [(k, legTelegram id g.kind g.target p c.speed
            (if g.kind = .move then c.load.map Load.id else g.pallet))] }
      let free : Prop := (s.mode.run = .run ∨ s.mode.run = .hold) ∧ c.curLeg = 0 ∧ c.roomWait = false ∧
        tableGet k s.holds = none ∧ c.request = none ∧ ∀ p, s.passRun = some p → k ∉ p.assigned
      (¬ free → s.continueCrane k = s) ∧
      (free → s.inTwin k = false → sent c.claim) ∧
      (∀ t, free → s.twinOf k = some t →
        let clear : Prop := ∃ w, (s.crane t).railSpan = some w ∧
          (c.role = .a → v.hi + (c.gap + (s.crane t).gap) ≤ w.lo) ∧ (c.role = .b → w.hi + (c.gap + (s.crane t).gap) ≤ v.lo)
        (clear → (∀ b, c.claim = some b → v.lo ≤ b.lo ∧ b.hi ≤ v.hi) → sent (some v)) ∧
        (¬ clear → (s.crane t).canEvade = false → (s.crane t).request = none →
          ∃ u : State, s.continueCrane k = u ∧ u.crane k = { c with request := some v } ∧
            (∀ j, j ≠ k → u.crane j = s.crane j) ∧ u = { s with cranes := u.cranes }))) ∧
    (c.chan = .busy → c.plan = [] →
      let ended : Crane := { c with
        cycle := none, estimate := 0, roomWait := false, request := none
        speed := c.pendSpeed.getD c.speed, pendSpeed := none
        figures := (if c.pendFigures = none then c.figures else c.pendFigures), pendFigures := none
        reach := (if c.pendReach = none then c.reach else c.pendReach), pendReach := none }
      (c.pendingPark = false → (∀ t, s.twinOf k = some t → (s.crane t).request = none) →
        ∃ u : State, s.continueCrane k = u ∧
          u.crane k = { ended with chan := .ready, powerReturn := false, stopHalted := false, lastFault := none, bad := 0 } ∧
          (∀ j, j ≠ k → u.crane j = s.crane j) ∧
          u = { s with
            cranes := u.cranes
            readyOrder := s.readyOrder.filter (fun j => j != k) ++ [k]
            passRun := s.passWithout k
            passDue := s.passDue || decide (s.mode.run = .run)
            link := s.link.report (.craneState k .ready .cycleEnd c.pos) }) ∧
      (c.pendingPark = true → ∃ u : State, s.continueCrane k = u.startPark k ∧ u.crane k = ended ∧
        (∀ j, j ≠ k → u.crane j = s.crane j) ∧
        u = { s with
          cranes := u.cranes
          passDue := s.passDue ||
            decide ((c.pendSpeed ≠ none ∨ c.pendFigures ≠ none ∨ c.pendReach ≠ none) ∧ s.mode.run = .run) })) ∧
    (∀ load midLeg, (∀ j ∈ s.pool, j.crane = k → j.state.isUncertain = false) →
      midLeg = true ∨ load = (c.load.map Load.id).getD 0 → s.afterLeg k load midLeg = (s.continueCrane k).finish)

/-- TAKEN and the two leg timers (R102): TAKEN of the current leg, its leg timer not yet started, stops the TAKEN timer and
starts the leg timer at the leg's estimate plus the margin; as every valid telegram it clears the count of bad frames and
restarts the silence timer (R92, R94), and from OFFLINE it takes the channel to LISTEN (R98), shown whole where no request
of a twin waits. A port whose crane is not configured discards it. The expiry of a running timer takes the channel to
FAULT(NO_ANSWER) or FAULT(TIMEOUT), as an event without load information. -/
def Obligations.TakenAndTheLegTimers : Prop :=
  ∀ (k id : Nat) (s : State), s.quiet →
    let c := s.crane k
    let heard : Crane :=
      if id ≠ 0 ∧ id = c.curLeg ∧ c.legTimer = none then
        { c with bad := 0, silence := 0, takenTimer := none, legTimer := some (c.legEst + s.policy.margin) }
      else { c with bad := 0, silence := 0 }
    (c.cfg = none → exec (.taken k id) s = .next s) ∧
    (c.cfg ≠ none → c.chan ≠ .offline → ∃ u : State, exec (.taken k id) s = .next u ∧ u.crane k = heard ∧
      (∀ j, j ≠ k → u.crane j = s.crane j) ∧ u = { s with cranes := u.cranes }) ∧
    (c.cfg ≠ none → c.chan = .offline → (∀ t, s.twinOf k = some t → (s.crane t).request = none) →
      ∃ u : State, exec (.taken k id) s = .next u.finish ∧ u.crane k = { heard with chan := .listen } ∧
        (∀ j, j ≠ k → u.crane j = s.crane j) ∧
        u = { s with
          cranes := u.cranes
          readyOrder := s.readyOrder.filter (fun j => j != k)
          passRun := s.passWithout k
          passDue := s.passDue || decide (s.mode.run = .run ∧ s.inTwin k = true)
          link := s.link.report (.craneState k .listen .heard c.pos) }) ∧
    exec (.takenTimerExpiry k) s =
      (if c.takenTimer = none then .next s else .next (s.enterFault k .noAnswer none).finish) ∧
    exec (.legTimerExpiry k) s =
      (if c.legTimer = none then .next s else .next (s.enterFault k .timeout none).finish)

/-- Entering FAULT (R98): a channel in FAULT for the same reason stays as it is (entry 10); else STOP goes out where a leg
is outstanding, but for FAULT(DRIVE) (entry 7), a park leg is dropped, a BUSY channel's plan is broken, and the channel
enters FAULT with its reason; in a twin aisle that makes a pass due (R69), shown where no request of the twin waits. A
broken plan (R110): timers stopped, the request withdrawn, the plan empty, no current leg, the hold gone, the pending park
flag clear, and each job of the plan treated in plan order, the pending values applied last: it returns to READY when it
was ASSIGNED; with its FETCH or PUT outstanding it is UNCERTAIN after an event without load information, and else decided
at once (R111); with no such leg outstanding it leaves as FAILED(INTERRUPTED) with its load unresolved. A second leg of a
job so treated finds nothing left to do. -/
def Obligations.FaultBreaksThePlan : Prop :=
  ∀ (k : Nat) (r : FaultReason) (info : Option Nat) (s : State), 1 ≤ k → k ≤ 12 →
    let c := s.crane k
    let stopped : State :=
      if c.curLeg ≠ 0 ∧ r ≠ .drive then { s with portOut := s.portOut ++ [(k, [0x02, BitVec.ofNat 8 k])] } else s
    (c.chan = .fault → c.lastFault = some r → s.enterFault k r info = s) ∧
    (¬ (c.chan = .fault ∧ c.lastFault = some r) → c.chan ≠ .busy →
      (∀ t, s.twinOf k = some t → (s.crane t).request = none) →
      let halted : Crane := if c.chan = .parking then { c with
          parkLeg := none, parkHold := none, takenTimer := none, legTimer := none, curLeg := 0, legEst := 0, request := none }
        else c
      ∃ u : State, s.enterFault k r info = u ∧ u.crane k = { halted with chan := .fault, lastFault := some r } ∧
        (∀ j, j ≠ k → u.crane j = s.crane j) ∧
        u = { stopped with
          cranes := u.cranes
          readyOrder := s.readyOrder.filter (fun j => j != k)
          passRun := s.passWithout k
          passDue := s.passDue || decide (s.mode.run = .run ∧ s.inTwin k = true)
          link := s.link.report (.craneState k .fault (.fault r) c.pos) }) ∧
    (c.chan = .busy →
      let b := stopped.breakPlan k info
      (∀ t, b.twinOf k = some t → (b.crane t).request = none) →
      ∃ u : State, s.enterFault k r info = u ∧ u.crane k = { b.crane k with chan := .fault, lastFault := some r } ∧
        (∀ j, j ≠ k → u.crane j = b.crane j) ∧
        u = { b with
          cranes := u.cranes
          readyOrder := b.readyOrder.filter (fun j => j != k)
          passRun := b.passWithout k
          passDue := b.passDue || decide (b.mode.run = .run ∧ b.inTwin k = true)
          link := b.link.report (.craneState k .fault (.fault r) (b.crane k).pos) }) ∧
    (let leg : Nat → Option LegKind := fun n => match c.plan with
        | [] => none
        | g :: _ => if c.curLeg ≠ 0 ∧ g.job = some n ∧ g.kind ≠ .move then some g.kind else none
      let treated : State → Nat → State := fun u n => match u.job n with
        | none => u
        | some j =>
          let lost : State → State := fun v => (v.leave n (.failed .interrupted)).unresolve k j.pallet
          match j.state with
          | .assigned => u.returnReady n
          | .waiting _ | .ready | .uncertain _ => u
          | .active | .carried => match leg n, info with
            | none, _ => lost u
            | some kind, none => { u with pool := u.pool.map (fun i =>
                if i.num = n then { i with state := .uncertain kind } else i) }
            | some .fetch, some load =>
              if load = j.pallet then lost (match j.source with
                | some l => u.endSource n l .empty
                | none => u)
              else u.returnReady n
            | some .put, some load => if load = j.pallet then lost u else u.putMade k j true
            | some .move, some _ => u
      ∃ w : State,
        w.crane k = { c with
          plan := [], cycle := none, estimate := 0, curLeg := 0, legEst := 0, takenTimer := none, legTimer := none
          roomWait := false, request := none, pendingPark := false } ∧
        (∀ j, j ≠ k → w.crane j = s.crane j) ∧
        w = { s with cranes := w.cranes, holds := s.holds.filter (fun e => e.1 != k) } ∧
        s.breakPlan k info = ((c.plan.filterMap Leg.job).foldl treated w).applyPending k)

/-- DONE on a crane outside the twin aisles, but for a PUT and an approach MOVE (R95, R103, R105). A stale one gives its
position, and takes an OFFLINE channel to LISTEN, before an UNCERTAIN job is resolved (entry 49). The current leg ends:
the position is recorded, its timers stop and it
leaves the plan. A MOVE without the approach mark, and a leg whose job is gone, do nothing else. A FETCH at a location
makes the source EMPTY and gives the job the inspect mark; at an infeed station the job leaves the queue and the next
becomes READY; in both the job is CARRIED and its pallet the load of record, resolved; a relocation's retrieves are
evaluated before that. The end of the park leg starts the parking hold, and with a time of 0 sends SLEEP (entry 30). -/
def Obligations.FetchAndMoveAreDone : Prop :=
  ∀ (k id x y load : Nat) (s : State), s.quiet → (s.crane k).cfg ≠ none → s.inTwin k = false →
    let c := s.crane k
    let at_ : Crane := { c with bad := 0, silence := 0, pos := some { x := x, y := y } }
    let midLeg : Bool := decide (c.curLeg ≠ 0 ∧ id ≠ c.curLeg)
    let gives : (State → State) → Crane → State → Prop := fun f v u =>
      exec (.done k id x y load) s = .next ((f u).afterLeg k load midLeg) ∧ u.crane k = v ∧ (∀ j, j ≠ k → u.crane j = s.crane j)
    (id = 0 ∨ id ≠ c.curLeg →
      (c.chan ≠ .offline → ∃ u, gives (fun u => u) at_ u ∧ u = { s with cranes := u.cranes }) ∧
      (c.chan = .offline → ∃ u, gives (fun u => u) { at_ with chan := .listen } u ∧ u = { s with
        cranes := u.cranes
        readyOrder := s.readyOrder.filter (fun j => j != k)
        passRun := s.passWithout k
        link := s.link.report (.craneState k .listen .heard (some { x := x, y := y })) })) ∧
    (id ≠ 0 → id = c.curLeg → ∀ (g : Leg) (rest : List Leg), c.chan = .busy → c.plan = g :: rest →
      let ended : Crane := { at_ with plan := rest, curLeg := 0, legEst := 0, takenTimer := none, legTimer := none }
      ((∀ n, g.job = some n → s.job n = none) ∨ (g.kind = .move ∧ g.approach = false) →
        ∃ u, gives (fun u => u) ended u ∧ u = { s with cranes := u.cranes }) ∧
      (∀ n j, g.kind = .fetch → g.job = some n → s.job n = some j →
        let carried : Crane := { ended with load := some { id := j.pallet, resolved := true } }
        (∀ l, g.target = .location l → l.inRanges →
          (j.kind ≠ .relocate → ∃ u, gives (fun u => u) carried u ∧
            (∀ m, m.inRanges → u.loc m = if m = l then { (s.loc m) with occ := .empty, pallet := none } else s.loc m) ∧
            u = { s with
              locs := u.locs, cranes := u.cranes
              pool := s.pool.map (fun i => if i.num = n then
                { i with srcRes := none, state := .carried, inspect := (s.loc l).attrs.inspect } else i)
              work := { pairs := [locKey { l with depth := .front }], allBusy := false }
              passDue := s.passDue || decide (s.mode.run = .run) }) ∧
          (j.kind = .relocate → ∃ u,
            gives (fun u => (u.evaluateLinked n).carry k j (s.loc l).attrs.inspect) ended u ∧
            (∀ m, m.inRanges → u.loc m = if m = l then { (s.loc m) with occ := .empty, pallet := none } else s.loc m) ∧
            u = { s with
              locs := u.locs, cranes := u.cranes
              pool := s.pool.map (fun i => if i.num = n then { i with srcRes := none } else i)
              work := { pairs := [locKey { l with depth := .front }], allBusy := false }
              passDue := s.passDue || decide (s.mode.run = .run) })) ∧
        (∀ st t, g.target = .station st → s.station st = some t → t.queue.head? = some n →
          let q := t.queue.filter (fun m => m != n)
          ∃ u, gives (fun u => u) carried u ∧
            (∀ m, u.station m = if m = st then some { t with queue := q } else s.station m) ∧
            u = { s with
              stations := u.stations, cranes := u.cranes
              pool := s.pool.map (fun i => if i.num = n then { i with state := .carried, inspect := j.inspect }
                else if q.head? = some i.num then { i with state := .ready } else i)
              passDue := s.passDue || decide (q ≠ [] ∧ s.mode.run = .run) }))) ∧
    (id ≠ 0 → id = c.curLeg → ∀ g, c.chan = .parking → c.parkLeg = some g → g.job = none →
      let ended : Crane := { at_ with parkLeg := none, curLeg := 0, legEst := 0, takenTimer := none, legTimer := none }
      (0 < s.policy.parkHold →
        ∃ u, gives (fun u => u) { ended with parkHold := some (s.policy.parkHold * 1000) } u ∧ u = { s with cranes := u.cranes }) ∧
      (s.policy.parkHold = 0 → ∃ u, gives (fun u => u.sleep k) ended u ∧ u = { s with cranes := u.cranes }))

/-- DONE of a PUT on a crane outside the twin aisles (R104, R39), and the leaving of a host job without a group (R47). At a
location the destination becomes FULL with the job's pallet, and after a relocation a retrieve of that pallet takes the
destination as its source; at an outfeed the pending deliveries fall by one and the occupancy rises by one. The load of
record becomes none, and the job leaves as DONE. A leaving frees the record, leaves no relocation linked to it, makes
JOB_DONE or JOB_FAILED and a pass due in RUN. -/
def Obligations.PutIsDone : Prop :=
  (∀ (k id x y load : Nat) (s : State), s.quiet → (s.crane k).cfg ≠ none → s.inTwin k = false →
    ∀ (g : Leg) (rest : List Leg) (n : Nat) (j : Job), (s.crane k).chan = .busy → (s.crane k).plan = g :: rest →
      id ≠ 0 → id = (s.crane k).curLeg → g.kind = .put → g.job = some n → s.job n = some j →
      let after : State → Prop := fun u =>
        exec (.done k id x y load) s = .next ((u.leave n (.done false)).afterLeg k load false) ∧
        u.crane k = { s.crane k with
          bad := 0, silence := 0, pos := some { x := x, y := y }, plan := rest, curLeg := 0, legEst := 0, takenTimer := none
          legTimer := none, load := none } ∧
        (∀ i, i ≠ k → u.crane i = s.crane i)
      (∀ l o, j.dest = some l → l.inRanges → j.dstRes = some { kind := .location, origin := o } → ∃ u, after u ∧
        (∀ m, m.inRanges → u.loc m = if m = l then { (s.loc m) with occ := .full, pallet := some j.pallet } else s.loc m) ∧
        u = { s with
          locs := u.locs, cranes := u.cranes
          pool := (s.pool.map (fun i => if i.num = n then { i with dstRes := none } else i)).map (fun i =>
            if j.kind = .relocate ∧ i.kind = .retrieve ∧ i.pallet = j.pallet then { i with source := some l } else i)
          work := { pairs := [locKey { l with depth := .front }], allBusy := false } }) ∧
      (∀ t o, j.dstRes = some { kind := .delivery, origin := o } → s.station j.station = some t →
        s.roomWaiter j.station = none → (s.crane k).roomWait = false → ∃ u, after u ∧
        (∀ m, u.station m = if m = j.station then some { t with pend := t.pend - 1, occ := t.occ + 1 } else s.station m) ∧
        u = { s with
          stations := u.stations, cranes := u.cranes
          pool := s.pool.map (fun i => if i.num = n then { i with dstRes := none } else i)
          passDue := s.passDue || decide (s.mode.run = .run) })) ∧
  (∀ (n : Nat) (j : Job) (s : State), s.job n = some j → j.kind = .store ∨ (j.kind = .retrieve ∧ j.group = 0) →
    j.srcRes = none → j.dstRes = none → (j.kind = .store → ∀ t, s.station j.station = some t → n ∉ t.queue) →
    let left : Report → State := fun r => { s with
      pool := (s.pool.filter (fun i => i.num != n)).map
        (fun i => if i.kind = .relocate ∧ i.linked = n then { i with linked := 0 } else i)
      passDue := s.passDue || decide (s.mode.run = .run)
      link := s.link.report r }
    (∀ late, s.leave n (.done late) = left (.jobDone n j.kind j.pallet j.crane false late j.inspect)) ∧
    (∀ r, s.leave n (.failed r) = left (.jobFailed n j.kind j.pallet j.crane r)))

/-- FAILED on a crane outside the twin aisles (R106 to R109). BIN_EMPTY and LOAD_MISMATCH of a FETCH make the source EMPTY
or UNKNOWN with LOCATION_CONFLICT, and the job leaves with its legs. BIN_OCCUPIED of a PUT to a location makes it UNKNOWN
with LOCATION_CONFLICT; the PUT goes to the destination chosen anew, which becomes INBOUND, or the job leaves as
FAILED(NO_LOCATION), as a RECOVER job always does, and its load is unresolved; at an outfeed the occupancy is corrected
and the PUT waits for room at the head of the plan. A reason that does not belong to the leg's kind, and any FAILED of a
MOVE, is FAULT(DRIVE). A stale FAILED gives its position, and takes an OFFLINE
channel to LISTEN before an UNCERTAIN job is resolved (entry 49). That the FAILED of a leg without a job goes on whatever its
reason is entry 11 (DEDUCED), and that the PUT chosen anew has its own estimate while the cycle estimate stays is entry
21. -/
def Obligations.FailedLegIsSettled : Prop :=
  ∀ (k id reason x y load : Nat) (s : State), s.quiet → (s.crane k).cfg ≠ none → s.inTwin k = false →
    let c := s.crane k
    let at_ : Crane := { c with bad := 0, silence := 0, pos := some { x := x, y := y } }
    let midLeg : Bool := decide (c.curLeg ≠ 0 ∧ id ≠ c.curLeg)
    let gives : (State → State) → Crane → State → Prop := fun f v u =>
      exec (.failed k id reason x y load) s = .next ((f u).afterLeg k load midLeg) ∧ u.crane k = v ∧
        (∀ j, j ≠ k → u.crane j = s.crane j)
    (id = 0 ∨ id ≠ c.curLeg →
      (c.chan ≠ .offline → ∃ u, gives (fun u => u) at_ u ∧ u = { s with cranes := u.cranes }) ∧
      (c.chan = .offline → ∃ u, gives (fun u => u) { at_ with chan := .listen } u ∧ u = { s with
        cranes := u.cranes
        readyOrder := s.readyOrder.filter (fun j => j != k)
        passRun := s.passWithout k
        link := s.link.report (.craneState k .listen .heard (some { x := x, y := y })) })) ∧
    (∀ g, id ≠ 0 → id = c.curLeg → c.chan = .parking → c.parkLeg = some g → g.kind = .move →
      ∃ u, gives (fun u => u.enterFault k .drive (some load)) at_ u ∧ u = { s with cranes := u.cranes }) ∧
    (∀ (g : Leg) (rest : List Leg), id ≠ 0 → id = c.curLeg → c.chan = .busy → c.plan = g :: rest →
      (¬ (g.kind = .fetch ∧ (reason = 1 ∨ reason = 3)) → ¬ (g.kind = .put ∧ reason = 2) → g.kind = .move ∨ g.job ≠ none →
        ∃ u, gives (fun u => u.enterFault k .drive (some load)) at_ u ∧ u = { s with cranes := u.cranes }) ∧
      (let ended : Crane := { at_ with plan := rest, curLeg := 0, legEst := 0, takenTimer := none, legTimer := none };
        (g.job = none → g.kind ≠ .move → ∃ u, gives (fun u => u) ended u ∧ u = { s with cranes := u.cranes }) ∧
        (∀ n j, g.job = some n → s.job n = some j →
          let fails : FailReason → State → State := fun r u => (u.removeLegs k n).leave n (.failed r)
          (∀ l, g.kind = .fetch → g.target = .location l → l.inRanges → reason = 1 ∨ reason = 3 →
            ∃ u, gives (fails (if reason = 1 then .binEmpty else .loadMismatch)) ended u ∧
              (∀ m, m.inRanges → u.loc m =
                if m = l then { (s.loc m) with occ := if reason = 1 then .empty else .unknown, pallet := none } else s.loc m) ∧
              u = { s with
                locs := u.locs, cranes := u.cranes
                pool := s.pool.map (fun i => if i.num = n then { i with srcRes := none } else i)
                work := { pairs := [locKey { l with depth := .front }], allBusy := false }
                passDue := s.passDue || decide (reason = 1 ∧ s.mode.run = .run)
                link := s.link.report
                  (.locationConflict k l j.pallet (if reason = 1 then .binEmpty else .loadMismatch)) }) ∧
          (∀ st, g.kind = .fetch → g.target = .station st → reason = 1 ∨ reason = 3 →
            ∃ u, gives (fails (if reason = 1 then .binEmpty else .loadMismatch)) ended u ∧
              u = { s with cranes := u.cranes }) ∧
          (∀ l, g.kind = .put → g.target = .location l → l.inRanges → reason = 2 →
            ∃ v : State, v.crane k = ended ∧ (∀ i, i ≠ k → v.crane i = s.crane i) ∧
              (∀ m, m.inRanges → v.loc m =
                if m = l then { (s.loc m) with occ := .unknown, pallet := none } else s.loc m) ∧
              v = { s with
                locs := v.locs, cranes := v.cranes
                pool := s.pool.map (fun i => if i.num = n then { i with dstRes := none } else i)
                work := { pairs := [locKey { l with depth := .front }], allBusy := false }
                link := s.link.report (.locationConflict k l j.pallet .binOccupied) } ∧
              (let wish : DestWish := match j.kind, j.source with
                | .relocate, some o =>
                  { aisle := o.aisle, zone := .anywhere, height := (v.loc o).height, clears := some o
                    start := { x := x, y := y } }
                | _, _ => { aisle := l.aisle, zone := j.zone.getD .anywhere, height := j.height, clears := none
                            start := { x := x, y := y } }
                let gone := exec (.failed k id reason x y load) s =
                  .next (((fails .noLocation v).unresolve k j.pallet).afterLeg k load false);
                (j.kind = .recover ∨ v.chooseDest k wish = none → gone) ∧
                (∀ m, j.kind ≠ .recover → v.chooseDest k wish = some m → m.inRanges → ∃ u : State,
                  exec (.failed k id reason x y load) s = .next (u.afterLeg k load false) ∧
                  u.crane k = { ended with plan :=
                    { kind := .put, target := .location m, job := some n, pallet := some j.pallet, approach := false
                      start := { x := x, y := y }
                      est := c.legEstimate .put (m.depth == .rear) { x := x, y := y } (s.locPoint m) } :: rest } ∧
                  (∀ i, i ≠ k → u.crane i = s.crane i) ∧
                  (∀ o, o.inRanges → u.loc o =
                    if o = m then { (v.loc o) with occ := .inbound, pallet := some j.pallet } else v.loc o) ∧
                  u = { v with
                    locs := u.locs, cranes := u.cranes, work := u.work
                    pool := s.pool.map (fun i => if i.num = n then
                      { i with dest := some m, dstRes := some { kind := .location, origin := .assignment } } else i) }))) ∧
          (∀ st t, g.kind = .put → g.target = .station st → s.station st = some t → reason = 2 →
            ∃ u, gives (fun u => u) { ended with plan := g :: rest, roomWait := true } u ∧
              (∀ m, u.station m = if m = st then some { t with occ := t.capacity - t.pend } else s.station m) ∧
              u = { s with stations := u.stations, cranes := u.cranes }))))

/-- The sequence check and the hold (R150, R152). The end of an approach MOVE lets the PUT go when it is the position's
turn, and else makes a hold entry with the hold time and SEQUENCE_HOLD. The expiry of a hold ends the entry, marks the job
and sends the PUT; without an entry it does nothing. A late delivery released so enters the settled set with
OUT_OF_SEQUENCE in its JOB_DONE, and a CLOSING group whose last position this was is gone. A job that leaves at the
position whose turn it is (R143, R146, R151) settles it: the counter rises past it and past the positions settled above
it, in sequence, and the crane held for the counter's new value loses its hold and goes on. -/
def Obligations.HoldKeepsTheSequence : Prop :=
  (∀ (k id x y load : Nat) (s : State) (g : Leg) (rest : List Leg) (n : Nat) (j : Job) (p : Group), s.quiet →
    (s.crane k).cfg ≠ none → s.inTwin k = false → id ≠ 0 → id = (s.crane k).curLeg → (s.crane k).chan = .busy →
    (s.crane k).plan = g :: rest → g.kind = .move → g.approach = true → g.job = some n → s.job n = some j →
    s.group j.group = some p → ∃ u : State,
      exec (.done k id x y load) s = .next (u.afterLeg k load false) ∧
      u.crane k = { s.crane k with
        bad := 0, silence := 0, pos := some { x := x, y := y }, plan := rest, curLeg := 0, legEst := 0, takenTimer := none
        legTimer := none } ∧
      (∀ i, i ≠ k → u.crane i = s.crane i) ∧
      (j.position ≤ p.d → u = { s with cranes := u.cranes }) ∧
      (p.d < j.position →
        (∀ i, tableGet i u.holds = if i = k then some {
            job := n, group := j.group, position := j.position, outfeed := j.station, timer := s.policy.holdTime * 1000 }
          else tableGet i s.holds) ∧
        u = { s with
          cranes := u.cranes, holds := u.holds
          link := s.link.report (.sequenceHold k n j.group j.position j.station p.d) })) ∧
  (∀ (k : Nat) (s : State), s.quiet →
    (tableGet k s.holds = none → exec (.holdExpiry k) s = .next s) ∧
    (∀ h, tableGet k s.holds = some h → (s.crane k).chan = .busy → (s.crane k).plan ≠ [] →
      exec (.holdExpiry k) s = .next ((State.continueCrane { s with
        holds := s.holds.filter (fun e => e.1 != k)
        pool := s.pool.map (fun i => if i.num = h.job then { i with holdReleased := true } else i) } k).finish))) ∧
  (∀ (n : Nat) (j : Job) (p : Group) (late : Bool) (s : State), s.job n = some j → j.kind = .retrieve → j.group ≠ 0 →
    s.group j.group = some p → p.d < j.position → j.holdReleased = true → j.srcRes = none → j.dstRes = none →
    ∃ u : State, s.leave n (.done late) = u ∧
      (∀ i, u.group i = if i = j.group then
          (if p.status = .closing ∧ p.held.filter (fun e => e.1 != j.position) = [] then none
          else some { p with
            held := p.held.filter (fun e => e.1 != j.position), settled := setPut j.position p.settled })
        else s.group i) ∧
      u = { s with
        groups := u.groups
        pool := (s.pool.filter (fun i => i.num != n)).map
          (fun i => if i.kind = .relocate ∧ i.linked = n then { i with linked := 0 } else i)
        passDue := s.passDue || decide (s.mode.run = .run)
        link := s.link.report (.jobDone n j.kind j.pallet j.crane true late j.inspect) }) ∧
  (∀ (n : Nat) (j : Job) (p : Group) (o : JobEnd) (s : State), s.job n = some j → j.kind = .retrieve → j.group ≠ 0 →
    s.group j.group = some p → p.d = j.position → p.settled.Pairwise (· < ·) → (∀ x ∈ p.settled, p.d < x) →
    j.srcRes = none → j.dstRes = none →
    ∃ (q : Group) (v w u : State), s.leave n o = u ∧
      q.status = p.status ∧ q.held = p.held.filter (fun e => e.1 != j.position) ∧
      p.d < q.d ∧ q.d ∉ p.settled ∧ (∀ x, p.d < x → x < q.d → x ∈ p.settled) ∧
      (∀ x, x ∈ q.settled ↔ x ∈ p.settled ∧ q.d < x) ∧
      (∀ i, v.group i = if i = j.group then some q else s.group i) ∧
      v = { s with groups := v.groups, passDue := s.passDue || decide (s.mode.run = .run) } ∧
      ((∀ e ∈ s.holds, ¬ (e.2.group = j.group ∧ e.2.position = q.d)) → w = v) ∧
      (∀ k h, s.holds.find? (fun e => e.2.group == j.group && e.2.position == q.d) = some (k, h) →
        w = State.goOn { v with holds := s.holds.filter (fun e => e.1 != k) } k) ∧
      (∀ i, u.group i = if i = j.group then (if q.status = .closing ∧ q.held = [] then none else some q)
        else s.group i) ∧
      u = { w with
        groups := u.groups
        pool := (w.pool.filter (fun i => i.num != n)).map
          (fun i => if i.kind = .relocate ∧ i.linked = n then { i with linked := 0 } else i)
        passDue := w.passDue || decide (s.mode.run = .run)
        link := match o with
          | .done late => w.link.report (.jobDone n .retrieve j.pallet j.crane false late j.inspect)
          | .failed r => w.link.report (.jobFailed n .retrieve j.pallet j.crane r)
          | .cancelled => w.link })

/-- STATE on a crane outside the twin aisles (R100, R188). A mode or a flag above 1 is discarded as a valid telegram
(entry 25). Else the position is recorded, a power-up sets the power-return flag, and the channel changes: to MANUAL in
MANUAL; to LISTEN on a power-up in AUTO; from OFFLINE and MANUAL to LISTEN in AUTO. A park leg is dropped, a BUSY
channel's plan breaks with the load reported. The resume check is marked (R165). Shown whole where the load is the
recorded one and no job of the crane is UNCERTAIN. A load that no holder is known for becomes the crane's, unresolved, and
one that is another crane's load of record takes the channel to FAULT(DOUBLE_LOAD) (R112). -/
def Obligations.StateSetsTheChannel : Prop :=
  ∀ (k mode flags x y load : Nat) (s : State), s.quiet → (s.crane k).cfg ≠ none → s.inTwin k = false →
    let c := s.crane k
    let at_ : Crane := { c with
      bad := 0, silence := 0, pos := some { x := x, y := y }, powerReturn := c.powerReturn || decide (flags = 1) }
    let marked : Mode := { s.mode with check := s.mode.check.map (fun e => { e with records := e.records.map (fun r =>
      if r.1 = k then (k, {
        auto := r.2.auto || decide (mode = 0), powerUp := r.2.powerUp || decide (flags = 1)
        manual := r.2.manual || decide (mode = 1) }) else r) }) }
    let next := exec (.state k mode flags x y load) s
    (1 < mode ∨ 1 < flags → ∃ u : State, next = .next u ∧ u.crane k = { c with bad := 0, silence := 0 } ∧
      (∀ j, j ≠ k → u.crane j = s.crane j) ∧ u = { s with cranes := u.cranes }) ∧
    (mode ≤ 1 → flags ≤ 1 → (∀ j ∈ s.pool, j.crane = k → j.state.isUncertain = false) →
      let stays := ∃ u : State, next = .next u ∧ u.crane k = at_ ∧ (∀ j, j ≠ k → u.crane j = s.crane j) ∧
        u = { s with cranes := u.cranes, mode := marked }
      let enters : ChanState → ChanReason → Prop := fun st r => ∃ u : State, next = .next u ∧
        u.crane k = { (if c.chan = .parking then { at_ with
            parkLeg := none, parkHold := none, takenTimer := none, legTimer := none, curLeg := 0, legEst := 0
            request := none }
          else at_) with chan := st } ∧
        (∀ j, j ≠ k → u.crane j = s.crane j) ∧
        u = { s with
          cranes := u.cranes, mode := marked
          readyOrder := s.readyOrder.filter (fun j => j != k)
          passRun := s.passWithout k
          link := s.link.report (.craneState k st r (some { x := x, y := y })) }
      (c.chan = .busy →
        (mode = 0 → flags = 0 → c.curLeg ≠ 0 → c.plan ≠ [] → stays) ∧
        (mode = 1 ∨ flags = 1 → ∃ u v : State,
          u.crane k = at_ ∧ (∀ j, j ≠ k → u.crane j = s.crane j) ∧ u = { s with cranes := u.cranes } ∧
          v = (u.breakPlan k (some load)).enter k (if mode = 1 then .manual else .listen)
            (if mode = 1 then .manual else .powerUp) ∧
          (v.uncertainJob k = none → load = ((v.crane k).load.map Load.id).getD 0 →
            next = .next (v.markCheck k (decide (mode = 1)) (decide (flags = 1))).finish))) ∧
      (c.chan ≠ .busy → c.curLeg ≠ 0 ∨ load = (c.load.map Load.id).getD 0 →
        c.chan = .parking → (mode = 0 ∧ flags = 0) ∨ load = (c.load.map Load.id).getD 0 →
        (mode = 1 → enters .manual .manual) ∧ (mode = 0 → flags = 1 → enters .listen .powerUp) ∧
        (mode = 0 → flags = 0 → stays)) ∧
      (c.chan ≠ .busy → c.chan ≠ .parking → c.curLeg ≠ 0 ∨ load = (c.load.map Load.id).getD 0 →
        (mode = 1 → c.chan = .manual → stays) ∧ (mode = 1 → c.chan ≠ .manual → enters .manual .manual) ∧
        (mode = 0 → flags = 1 → c.chan = .listen → stays) ∧
        (mode = 0 → flags = 1 → c.chan ≠ .listen → enters .listen .powerUp) ∧
        (mode = 0 → flags = 0 → c.chan = .offline → enters .listen .heard) ∧
        (mode = 0 → flags = 0 → c.chan = .manual → enters .listen .auto) ∧
        (mode = 0 → flags = 0 → c.chan ≠ .offline → c.chan ≠ .manual → stays)) ∧
      (mode = 0 → flags = 0 → c.chan = .ready ∨ c.chan = .listen → c.curLeg = 0 → c.load = none → load ≠ 0 →
        ((∃ i, i ≠ k ∧ (s.crane i).load.map Load.id = some load) →
          ∃ u : State, next = .next u ∧ u.crane k = { at_ with chan := .fault, lastFault := some .doubleLoad } ∧
            (∀ j, j ≠ k → u.crane j = s.crane j) ∧
            u = { s with
              cranes := u.cranes, mode := marked
              readyOrder := s.readyOrder.filter (fun j => j != k)
              passRun := s.passWithout k
              link := s.link.report (.craneState k .fault (.fault .doubleLoad) (some { x := x, y := y })) }) ∧
        ((∀ i, i ≠ k → (s.crane i).load.map Load.id ≠ some load) → (∀ e ∈ s.locs, e.2.stands load = false) →
          (∀ j ∈ s.pool, j.storeHolds = true → j.pallet ≠ load) →
          ∃ u : State, next = .next u ∧ u.crane k = { at_ with load := some { id := load, resolved := false } } ∧
            (∀ j, j ≠ k → u.crane j = s.crane j) ∧
            u = { s with
              cranes := u.cranes, mode := marked
              link := s.link.report (.loadUnresolved k load (some { x := x, y := y })) })))

/-- The resolution of an UNCERTAIN job (R111). Every DONE, FAILED and STATE of its crane ends so: the job is resolved with
the load reported, the load is compared with the record but for a telegram that arrived while a leg was outstanding (R112),
the channel goes on and the event's re-examinations follow; a STATE in AUTO without power-up is shown in FAULT, outside the twin aisles. With the
FETCH outstanding and another load or none the job returns to READY; with its own pallet its source becomes EMPTY, and it
leaves as FAILED(INTERRUPTED), its pallet unresolved on the crane (R113). With the PUT outstanding and another load or
none the put counts as made, confirmed late; with its own pallet the job leaves as FAILED(INTERRUPTED) and the pallet
stays unresolved. Without an UNCERTAIN job nothing is resolved. A return to READY (R46) gives up the destination taken at
assignment, a location EMPTY again or a pending delivery less, and the station of a retrieve that named none; the crane
field is cleared but for a RECOVER job; a destination taken earlier stays. That the mark of an UNCERTAIN RECOVER's load
stays is entry 44, and that the telegram's channel change and arbiter work come before the resolution is entry 49. -/
def Obligations.UncertainJobIsResolved : Prop :=
  (∀ (k load : Nat) (s : State),
    let settles : Bool → State → State := fun midLeg u =>
      let v := u.resolveUncertain k load
      (if midLeg = true then v else v.compareLoad k load).continueCrane k
    (∀ midLeg, s.afterLeg k load midLeg = (settles midLeg s).finish) ∧
    (∀ x y, (s.crane k).cfg ≠ none → s.inTwin k = false → (s.crane k).chan = .fault → ∃ u : State,
      u.crane k = { s.crane k with bad := 0, silence := 0, pos := some { x := x, y := y } } ∧
      (∀ j, j ≠ k → u.crane j = s.crane j) ∧ u = { s with cranes := u.cranes } ∧
      exec (.state k 0 0 x y load) s = .next ((settles (decide ((s.crane k).curLeg ≠ 0)) u).markCheck k false false).finish)) ∧
  (∀ (k load : Nat) (s : State),
    ((∀ j ∈ s.pool, j.crane = k → j.state.isUncertain = false) → s.resolveUncertain k load = s) ∧
    (∀ j kind, s.pool.find? (fun j => j.crane == k && j.state.isUncertain) = some j → j.state = .uncertain kind →
      let v := s.resolveUncertain k load
      (kind = .fetch → load ≠ j.pallet → v = s.returnReady j.num) ∧
      (kind = .fetch → load = j.pallet →
        (j.source = none → v = (s.leave j.num (.failed .interrupted)).unresolve k j.pallet) ∧
        (∀ l, j.source = some l → l.inRanges → s.quiet → ∃ u : State,
          v = (u.leave j.num (.failed .interrupted)).unresolve k j.pallet ∧
          (∀ m, m.inRanges → u.loc m = if m = l then { (s.loc m) with occ := .empty, pallet := none } else s.loc m) ∧
          u = { s with
            locs := u.locs
            pool := s.pool.map (fun i => if i.num = j.num then { i with srcRes := none } else i)
            work := { pairs := [locKey { l with depth := .front }], allBusy := false }
            passDue := s.passDue || decide (s.mode.run = .run) })) ∧
      (kind = .put → load ≠ j.pallet → v = s.putMade k j true) ∧
      (kind = .put → load = j.pallet → v = (s.leave j.num (.failed .interrupted)).unresolve k j.pallet))) ∧
  (∀ (k pallet : Nat) (s : State), 1 ≤ k → k ≤ 12 →
    (s.unresolve k pallet).crane k = { s.crane k with load := some { id := pallet, resolved := false } } ∧
    (∀ j, j ≠ k → (s.unresolve k pallet).crane j = s.crane j) ∧
    s.unresolve k pallet = { s with
      cranes := (s.unresolve k pallet).cranes
      link := s.link.report (.loadUnresolved k pallet (s.crane k).pos) }) ∧
  (∀ (n : Nat) (j : Job) (s : State), s.job n = some j → s.quiet →
    let back : Job → Job := fun i => { i with
      state := .ready
      crane := if i.kind = .recover then i.crane else 0
      station := if i.kind = .retrieve ∧ i.stationNamed = false then 0 else i.station }
    let due := s.passDue || decide (s.mode.run = .run)
    let only : (Job → Job) → List Job := fun f => s.pool.map (fun i => if i.num = n then f i else i)
    (j.dstRes = none ∨ (∃ kind, j.dstRes = some { kind := kind, origin := .admission }) →
      s.returnReady n = { s with pool := only back, passDue := due }) ∧
    (∀ l, j.dstRes = some { kind := .location, origin := .assignment } → j.dest = some l → l.inRanges → ∃ u : State,
      s.returnReady n = u ∧
      (∀ m, m.inRanges → u.loc m = if m = l then { (s.loc m) with occ := .empty, pallet := none } else s.loc m) ∧
      u = { s with
        locs := u.locs, pool := only (fun i => back { i with dest := none, dstRes := none }), passDue := due
        work := { pairs := [locKey { l with depth := .front }], allBusy := false } }) ∧
    (j.dstRes = some { kind := .delivery, origin := .assignment } → s.roomWaiter j.station = none → ∃ u : State,
      s.returnReady n = u ∧
      (∀ m, u.station m = if m = j.station then (s.station m).map (fun t => { t with pend := t.pend - 1 })
        else s.station m) ∧
      u = { s with
        stations := u.stations, pool := only (fun i => back { i with dest := none, dstRes := none }), passDue := due }))

/-- The reported load against the load of record (R112; entry 43). Equal, nothing changes. A reported pallet that is
another crane's load of record takes the channel to FAULT(DOUBLE_LOAD), without load information, before anything else is
done. Else a recorded pallet not reported is dropped, and a CARRIED or RECOVER job of the crane with that pallet leaves as
FAILED(INTERRUPTED), its legs out of the plan. Then a reported pallet not recorded becomes the load of record, unresolved,
and every other holder is stripped: a FULL or OUTBOUND location becomes UNKNOWN with LOCATION_CONFLICT(FOREIGN_LOAD), and
the job with that source reservation leaves as FAILED(CONFLICT); a STORE job whose FETCH is not done leaves so too;
LOAD_UNRESOLVED comes last. Legs of a stripped job that are not sent leave the plan they stand in, an outstanding one
stays without its job, a waiting request or wait for room of theirs ends, a hold of the job ends, and another crane then
goes on (R45, R153). -/
def Obligations.ForeignLoadsStripTheirHolders : Prop :=
  ∀ (k load : Nat) (s : State), 1 ≤ k → k ≤ 12 →
    let record := ((s.crane k).load.map Load.id).getD 0
    let elsewhere : Prop := load ≠ 0 ∧ ∃ i, i ≠ k ∧ (s.crane i).load.map Load.id = some load
    let loaded : State → Option Load → State → Prop := fun u w v =>
      v.crane k = { u.crane k with load := w } ∧ (∀ i, i ≠ k → v.crane i = u.crane i) ∧ v = { u with cranes := v.cranes }
    let removed : State → Nat → Nat → State → Prop := fun u i n v =>
      (∀ m, m ≠ i → v.crane m = u.crane m) ∧
      v = { u with cranes := v.cranes, holds := u.holds.filter (fun e => e.2.job != n) } ∧
      v.crane i = (match (u.crane i).plan with
        | [] => u.crane i
        | g :: rest =>
          let kept := rest.filter (fun e => e.job != some n)
          if g.job = some n then
            if (u.crane i).curLeg ≠ 0 then
              { u.crane i with plan := { g with job := none, pallet := none, approach := false } :: kept }
            else { u.crane i with plan := kept, request := none, roomWait := false }
          else { u.crane i with plan := g :: kept })
    let conflicted : State → Job → State → Prop := fun u j v => ∃ w : State, removed u j.crane j.num w ∧
      v = (if j.crane = k ∨ j.crane = 0 then w.leave j.num (.failed .conflict)
        else (w.leave j.num (.failed .conflict)).continueCrane j.crane)
    let found : State → (Job → Bool) → (Option Job → Prop) → Prop := fun u test thus => thus (u.pool.find? test)
    (record = load → s.compareLoad k load = s) ∧
    (record ≠ load → elsewhere → s.compareLoad k load = s.enterFault k .doubleLoad none) ∧
    (record ≠ load → ¬ elsewhere → ∃ u : State,
      (record = 0 → u = s) ∧
      (record ≠ 0 → ∃ v : State, loaded s none v ∧
        found s (fun j => j.crane == k && j.pallet == record && (j.kind == .recover || j.state == .carried)) (fun
          | none => u = v
          | some j => ∃ w : State, removed v k j.num w ∧ u = w.leave j.num (.failed .interrupted))) ∧
      (load = 0 → s.compareLoad k load = u) ∧
      (load ≠ 0 → ∃ v w z : State, loaded u (some { id := load, resolved := false }) v ∧
        ((∀ e ∈ u.locs, ¬ ((e.2.occ = .full ∨ e.2.occ = .outbound) ∧ e.2.pallet = some load)) → w = v) ∧
        (∀ l, u.findPallet load = some l → l.inRanges → ∃ x : State,
          (∀ m, m.inRanges → x.loc m = if m = l then { (u.loc m) with occ := .unknown, pallet := none } else u.loc m) ∧
          x = { v with
            locs := x.locs, link := v.link.report (.locationConflict k l load .foreignLoad)
            work := { v.work with pairs := x.work.pairs } } ∧
          (∀ p, p ∈ x.work.pairs ↔ p ∈ v.work.pairs ∨ p = locKey { l with depth := .front }) ∧
          found u (fun j => j.srcRes.isSome && j.source == some l) (fun
            | none => w = x
            | some j => conflicted { x with pool := x.pool.map (fun i =>
                if i.num = j.num then { i with srcRes := none } else i) } j w)) ∧
        found w (fun j => j.kind == .store && j.pallet == load && (match j.state with
            | .waiting _ | .ready | .assigned | .active => true
            | .carried => false
            | .uncertain leg => leg == .fetch)) (fun
          | none => z = w
          | some j => conflicted w j z) ∧
        s.compareLoad k load = z.unresolve k load)) ∧
    (∀ l, s.findPallet load = some l →
      ∃ e ∈ s.locs, (e.2.occ = .full ∨ e.2.occ = .outbound) ∧ e.2.pallet = some load ∧ keyLoc e.1 = l)

/-- DONE, FAILED and STATE of a crane in a twin aisle (R128, R129, R130). The position is recorded and handed to the
arbiter. The end of the outstanding leg, and every report with no leg outstanding, moves the claim: to the point reported
where that lies in the claim or passes the grant test, and a first claim also where the twin has no rail span; else the
claim stays as it was. A report while a leg is outstanding leaves the claim. Where claim or rail span has changed this is
a release: a pass is due in RUN, and the twin's waiting request is tested again before anything else of the telegram is
done (entry 22): granted, its leg is sent; refused again, it waits. In CONFIG and SAFE nothing is granted (entry 9). Then
the telegram has the effects it has in the other aisles; its load is compared unless it is a STATE or a stale report that
arrived while a leg was outstanding, whatever leg that first test has sent since (R112). The arbiter's work and the change
from OFFLINE come before the resolution of an UNCERTAIN job (entry 49). A STATE is shown in AUTO without
power-up. -/
def Obligations.TwinReportMovesTheClaim : Prop :=
  (∀ (k id x y load : Nat) (s : State), (s.crane k).cfg ≠ none → s.inTwin k = true →
    let c := s.crane k
    let at_ : Crane := { c with bad := 0, silence := 0, pos := some { x := x, y := y } }
    let clear : Prop := ∃ t w, s.twinOf k = some t ∧ (s.crane t).railSpan = some w ∧
      (c.role = .a → x + (c.gap + (s.crane t).gap) ≤ w.lo) ∧ (c.role = .b → w.hi + (c.gap + (s.crane t).gap) ≤ x)
    let place : Option Span := some { lo := x, hi := x }
    let handed : Crane → Bool → State → Prop := fun e outstanding r => ∃ (claim : Option Span) (u : State),
      (outstanding = true → claim = c.claim) ∧
      (outstanding = false →
        (∀ v, c.claim = some v → (v.lo ≤ x ∧ x ≤ v.hi) ∨ clear → claim = place) ∧
        (∀ v, c.claim = some v → ¬ (v.lo ≤ x ∧ x ≤ v.hi) → ¬ clear → claim = some v) ∧
        (c.claim = none → clear ∨ (∀ t, s.twinOf k = some t → (s.crane t).railSpan = none) → claim = place) ∧
        (c.claim = none → ¬ clear → (∃ t w, s.twinOf k = some t ∧ (s.crane t).railSpan = some w) → claim = none)) ∧
      u.crane k = { e with claim := claim } ∧ (∀ j, j ≠ k → u.crane j = s.crane j) ∧ u = { s with cranes := u.cranes } ∧
      (claim = c.claim → (u.crane k).railSpan = c.railSpan → r = u) ∧
      (¬ (claim = c.claim ∧ (u.crane k).railSpan = c.railSpan) → r = u.release k)
    let ended : Crane := if c.chan = .parking then { at_ with
        parkLeg := none, curLeg := 0, legEst := 0, takenTimer := none, legTimer := none }
      else { at_ with plan := c.plan.tail, curLeg := 0, legEst := 0, takenTimer := none, legTimer := none }
    let heard : State → State := fun r => if (r.crane k).chan = .offline then r.enter k .listen .heard else r
    (id = 0 ∨ id ≠ c.curLeg → ∃ r, handed at_ (decide (c.curLeg ≠ 0)) r ∧
      exec (.done k id x y load) s = .next ((heard r).afterLeg k load (decide (c.curLeg ≠ 0))) ∧
      ∀ reason, exec (.failed k id reason x y load) s = exec (.done k id x y load) s) ∧
    (∀ g, id ≠ 0 → id = c.curLeg →
      (c.chan = .parking ∧ c.parkLeg = some g) ∨ (c.chan ≠ .parking ∧ ∃ rest, c.plan = g :: rest) →
      (∃ r, handed ended false r ∧ exec (.done k id x y load) s = .next ((r.legDone k g).afterLeg k load false) ∧
        (c.chan = .busy → (r.crane k).chan = .busy → g.kind = .move → g.approach = false → r.legDone k g = r)) ∧
      (∀ reason f, (g.kind = .fetch ∧ reason = 1 ∧ f = Finding.binEmpty) ∨ (g.kind = .put ∧ reason = 2 ∧ f = .binOccupied) ∨
          (g.kind = .fetch ∧ reason = 3 ∧ f = .loadMismatch) →
        ∃ r, handed ended false r ∧ exec (.failed k id reason x y load) s = .next ((r.legFailed k g f).afterLeg k load false)) ∧
      (∀ reason, ¬ (g.kind = .fetch ∧ (reason = 1 ∨ reason = 3)) → ¬ (g.kind = .put ∧ reason = 2) →
        g.job ≠ none ∨ g.kind = .move → ∃ r, handed at_ false r ∧
          exec (.failed k id reason x y load) s = .next ((r.enterFault k .drive (some load)).afterLeg k load false))) ∧
    (c.chan ≠ .offline → c.chan ≠ .manual → ∃ r, handed at_ (decide (c.curLeg ≠ 0)) r ∧
      exec (.state k 0 0 x y load) s = .next (State.finish (State.markCheck (State.continueCrane
        (let v := r.resolveUncertain k load
        if c.curLeg = 0 then v.compareLoad k load else v) k) k false false)))) ∧
  (∀ (k t : Nat) (s : State), s.twinOf k = some t →
    let e := s.crane t
    let due : State := { s with passDue := s.passDue || decide (s.mode.run = .run) }
    (e.request = none ∨ s.mode.run = .config ∨ s.mode.run = .safe → s.release k = due) ∧
    (∀ w g, e.request = some w → s.mode.run = .run ∨ s.mode.run = .hold → (s.crane k).request = none →
      s.twinOf t = some k →
      (e.chan = .parking ∧ e.parkLeg = some g) ∨ (e.chan ≠ .parking ∧ ∃ rest, e.plan = g :: rest) →
      let clear : Prop := ∃ z, (s.crane k).railSpan = some z ∧
        (e.role = .a → w.hi + (e.gap + (s.crane k).gap) ≤ z.lo) ∧ (e.role = .b → z.hi + (e.gap + (s.crane k).gap) ≤ w.lo)
      let start := e.pos.getD g.start
      let p := s.targetPoint t g.target
      let next := if e.lastLeg < 255 then e.lastLeg + 1 else 1
      (clear → ∃ u : State, s.release k = u ∧
        u.crane t = { e with
          claim := some w, request := none, lastLeg := next, curLeg := next
          legEst := e.legEstimate g.kind g.target.rear start p, takenTimer := some 1000, legTimer := none } ∧
        (∀ j, j ≠ t → u.crane j = s.crane j) ∧
        u = { due with
          cranes := u.cranes
          pool := s.pool.map (fun j =>
            if g.job = some j.num ∧ (g.kind = .fetch ∨ (g.kind = .put ∧ j.kind = .recover)) then { j with state := .active }
            else j)
          portOut := s.portOut ++ [(t, legTelegram next g.kind g.target p e.speed
            (if g.kind = .move then e.load.map Load.id else g.pallet))] }) ∧
      (¬ clear → (s.crane k).canEvade = false → s.release k = due)))

/-- The arbiter of a twin aisle beyond the grant test (R131 to R134). A refused request of a BUSY crane waits. A READY
twin with a recorded position away from its end position is then given an evasion plan, one MOVE to its end position: it
becomes BUSY with reason EVASION, out of the ready order and the pass, and its MOVE asks at once, shown sent where its
claim is its standing point and the way is clear. Where the twin is BUSY with a request that fails against the crane's
rail span, the two wait for one another: the one whose leg comes second (R133: a job before none, lower class, lower
admission number, crane A without jobs) has its request withdrawn and a MOVE to its end position put before the leg that
waited, unless that leg goes there itself, when both wait. The MOVE raises the cycle estimate and asks at once, shown sent
as before; the other waits on. Where at a release both requests pass, the first in that order is granted, and the other,
failing against the new claim, waits. The range a crane is offered work in (R123, R134): all of a single-crane aisle; in a
twin aisle for A the positions at least the two gaps below the twin's end position, for B those as far above it, up to
200,000, and while the twin cannot be moved, in LISTEN, FAULT, MANUAL and OFFLINE, those as far from its rail span, none
where it has none. With no twin configured nothing is in range (entry 46). -/
def Obligations.TwinArbiterEvadesAndLimits : Prop :=
  (∀ (k t : Nat) (s : State), s.twinOf k = some t → s.twinOf t = some k →
    let span : Nat → Nat → Span := fun a b => { lo := min a b, hi := max a b }
    let clearOf : Nat → Crane → Span → Prop := fun i c v => ∃ w, c.railSpan = some w ∧
      ((s.crane i).role = .a → v.hi + ((s.crane i).gap + c.gap) ≤ w.lo) ∧
      ((s.crane i).role = .b → w.hi + ((s.crane i).gap + c.gap) ≤ v.lo)
    let clear : Nat → Nat → Span → Prop := fun i j v => clearOf i (s.crane j) v
    let next : Nat → Nat := fun i => if (s.crane i).lastLeg < 255 then (s.crane i).lastLeg + 1 else 1
    let job : Leg → Option Job := fun g => g.job.bind s.job
    let before : Nat → Leg → Leg → Prop := fun i g h => match job g, job h with
      | some a, some b => a.cls < b.cls ∨ (a.cls = b.cls ∧ a.adm < b.adm)
      | some _, none => True
      | none, some _ => False
      | none, none => (s.crane i).role = .a
    let e := s.crane t
    (e.canEvade = true ↔ e.chan = .ready ∧ ∃ p g, e.pos = some p ∧ e.cfg = some g ∧ p.x ≠ g.endPos.x) ∧
    (∀ g rest start, (s.mode.run = .run ∨ s.mode.run = .hold) → (s.crane k).chan = .busy → (s.crane k).plan = g :: rest →
      (s.crane k).curLeg = 0 → (s.crane k).roomWait = false → tableGet k s.holds = none → (s.crane k).request = none →
      (∀ p, s.passRun = some p → k ∉ p.assigned) → (s.crane k).pos = some start →
      let v := span start.x (s.targetPoint k g.target).x
      ¬ clear k t v →
      let waits : Crane := { s.crane k with request := some v }
      let leg : Nat → Point → Leg := fun i p =>
        { kind := .move, target := .endPos, job := none, pallet := none, approach := false, start := p
          est := (s.crane i).legEstimate .move false p (s.targetPoint i .endPos) }
      let sends : Nat → Point → Crane → Crane := fun i p c => { c with
        claim := some (span p.x (s.targetPoint i .endPos).x), request := none, lastLeg := next i, curLeg := next i
        legEst := (leg i p).est, takenTimer := some 1000, legTimer := none }
      let telegram : Nat → Nat × List Byte := fun i =>
        (i, legTelegram (next i) .move .endPos (s.targetPoint i .endPos) (s.crane i).speed ((s.crane i).load.map Load.id))
      (∀ p, e.canEvade = true → e.pos = some p → e.claim = some { lo := p.x, hi := p.x } → e.request = none →
        clear t k (span p.x (s.targetPoint t .endPos).x) → ∃ u : State, s.continueCrane k = u ∧
          u.crane k = waits ∧
          u.crane t = sends t p { e with
            chan := .busy, plan := [leg t p], cycle := some .evasion, estimate := (leg t p).est } ∧
          (∀ j, j ≠ k → j ≠ t → u.crane j = s.crane j) ∧
          u = { s with
            cranes := u.cranes
            readyOrder := s.readyOrder.filter (fun j => j != t)
            passRun := s.passWithout t
            passDue := s.passDue || decide (s.mode.run = .run)
            portOut := s.portOut ++ [telegram t]
            link := s.link.report (.craneState t .busy .evasion (some p)) }) ∧
      (∀ h more w p, e.chan = .busy → e.plan = h :: more → e.request = some w → ¬ clear t k w → e.pos = some p →
        let both : Crane → Crane → List (Nat × List Byte) → Prop := fun a b out => ∃ u : State,
          s.continueCrane k = u ∧ u.crane k = a ∧ u.crane t = b ∧ (∀ j, j ≠ k → j ≠ t → u.crane j = s.crane j) ∧
          u = { s with cranes := u.cranes, portOut := s.portOut ++ out }
        (before k g h → h.target = .endPos → both waits e []) ∧
        (¬ before k g h → g.target = .endPos → both waits e []) ∧
        (before k g h → h.target ≠ .endPos → e.claim = some { lo := p.x, hi := p.x } →
          clear t k (span p.x (s.targetPoint t .endPos).x) →
          both waits (sends t p { e with
            plan := leg t p :: h :: more, estimate := e.estimate + (leg t p).est }) [telegram t]) ∧
        (¬ before k g h → g.target ≠ .endPos → (s.crane k).claim = some { lo := start.x, hi := start.x } →
          clear k t (span start.x (s.targetPoint k .endPos).x) →
          both (sends k start { s.crane k with
            plan := leg k start :: g :: rest, estimate := (s.crane k).estimate + (leg k start).est }) e [telegram k]))) ∧
    (∀ v w g h more rest, (s.mode.run = .run ∨ s.mode.run = .hold) → (s.crane k).chan = .busy → e.chan = .busy →
      (s.crane k).request = some v → e.request = some w → (s.crane k).plan = g :: more → e.plan = h :: rest →
      clear k t v → clear t k w →
      let granted : Nat → Leg → Span → Crane := fun i g v => { s.crane i with
        claim := some v, request := none, lastLeg := next i, curLeg := next i
        legEst := (s.crane i).legEstimate g.kind g.target.rear ((s.crane i).pos.getD g.start) (s.targetPoint i g.target)
        takenTimer := some 1000, legTimer := none }
      let grants : Nat → Leg → Span → Prop := fun i g v => ∃ u : State, s.release k = u ∧ u.crane i = granted i g v ∧
        (∀ j, j ≠ i → u.crane j = s.crane j) ∧
        u = { s with
          cranes := u.cranes, passDue := s.passDue || decide (s.mode.run = .run)
          pool := s.pool.map (fun j =>
            if g.job = some j.num ∧ (g.kind = .fetch ∨ (g.kind = .put ∧ j.kind = .recover)) then { j with state := .active }
            else j)
          portOut := s.portOut ++ [(i, legTelegram (next i) g.kind g.target (s.targetPoint i g.target) (s.crane i).speed
            (if g.kind = .move then (s.crane i).load.map Load.id else g.pallet))] }
      (before t h g → ¬ clearOf k (granted t h w) v → grants t h w) ∧
      (¬ before t h g → ¬ clearOf t (granted k g v) w → grants k g v))) ∧
  (∀ (k x : Nat) (s : State),
    (s.inTwin k = false → s.inRange k x = true) ∧
    (s.inTwin k = true → s.twinOf k = none → s.inRange k x = false) ∧
    (∀ t g, s.twinOf k = some t → (s.crane t).cfg = some g →
      let e := s.crane t
      let gaps := (s.crane k).gap + g.gap
      let movable : Prop := e.chan = .ready ∨ e.chan = .busy ∨ e.chan = .parking ∨ e.chan = .parked
      (s.inRange k x = true ↔
        ((s.crane k).role = .a → x + gaps ≤ g.endPos.x) ∧
        ((s.crane k).role = .b → g.endPos.x + gaps ≤ x ∧ x ≤ 200000) ∧
        (¬ movable → ∃ w, e.railSpan = some w ∧
          ((s.crane k).role = .a → x + gaps ≤ w.lo) ∧ ((s.crane k).role = .b → w.hi + gaps ≤ x)))))

/-- Frames on a crane port and its silence (R92, R94). A port whose crane is not configured discards every frame. A
discarded telegram clears the count of bad frames and restarts the silence timer. A bad frame raises the count; the fourth
takes LISTEN, READY, BUSY and PARKING to FAULT(LINK) with the count at 0, and leaves the count at 4 in the other states.
Silence past 3,000 ms takes READY, BUSY and PARKING to FAULT(SILENT) and changes no other state; that the expiry finds the
timer past 3,000 is entry 4. A frame cut short by a gap counts as a bad frame (R174). The bytes of a frame on the port,
taken one by one from a searching receiver, act as the row they spell (R173, R188; entries 24 and 39): TAKEN, DONE, FAILED
and STATE; with another code or another length for its code the frame is a discarded telegram, and with a wrong check a
bad frame. A discarded telegram leaves OFFLINE as it is (entry 25). -/
def Obligations.BadFramesAndSilenceFault : Prop :=
  ∀ (k : Nat) (s : State), s.quiet →
    let c := s.crane k
    let becomes : Instr → Crane → Prop := fun i v => ∃ u : State, exec i s = .next u ∧ u.crane k = v ∧
      (∀ j, j ≠ k → u.crane j = s.crane j) ∧ u = { s with cranes := u.cranes }
    let faults : Instr → FaultReason → Crane → Prop := fun i r v => ∃ u : State,
      exec i s = .next (u.enterFault k r none).finish ∧ u.crane k = v ∧
      (∀ j, j ≠ k → u.crane j = s.crane j) ∧ u = { s with cranes := u.cranes }
    (c.cfg = none → exec (.craneBadFrame k) s = .next s ∧ exec (.craneTelegramDiscarded k) s = .next s) ∧
    (c.cfg ≠ none →
      becomes (.craneTelegramDiscarded k) { c with bad := 0, silence := 0 } ∧
      (c.bad < 3 → becomes (.craneBadFrame k) { c with bad := c.bad + 1 }) ∧
      (3 ≤ c.bad →
        (c.chan = .listen ∨ c.chan = .ready ∨ c.chan = .busy ∨ c.chan = .parking →
          faults (.craneBadFrame k) .link { c with bad := 0 }) ∧
        (c.chan = .offline ∨ c.chan = .parked ∨ c.chan = .fault ∨ c.chan = .manual →
          becomes (.craneBadFrame k) { c with bad := 4 })) ∧
      (c.rx = .searching → exec (.frameGapTimeout k [0xC3]) s = exec (.craneBadFrame k) s) ∧
      (c.rx = .searching →
        let sum : List Byte → Nat := fun body => (body.map BitVec.toNat).sum % 65536
        let arrives : List Byte → Nat → Host.Outcome State Fault Refusal := fun body check =>
          exec (.bodyLengthOutOfRange k (0xC3 :: (beBytes 2 body.length ++ (body ++ beBytes 2 check)))) s
        (∀ id, id < 256 →
          let body : List Byte := 0x41 :: beBytes 1 id
          arrives body (sum body) = exec (.taken k id) s) ∧
        (∀ id x y load, id < 256 → x < 4294967296 → y < 65536 → load < 4294967296 →
          let body : List Byte := 0x42 :: (beBytes 1 id ++ beBytes 4 x ++ beBytes 2 y ++ beBytes 4 load)
          arrives body (sum body) = exec (.done k id x y load) s) ∧
        (∀ a b x y load, a < 256 → b < 256 → x < 4294967296 → y < 65536 → load < 4294967296 →
          let fields := beBytes 1 a ++ beBytes 1 b ++ beBytes 4 x ++ beBytes 2 y ++ beBytes 4 load
          arrives (0x43 :: fields) (sum (0x43 :: fields)) = exec (.failed k a b x y load) s ∧
          arrives (0x44 :: fields) (sum (0x44 :: fields)) = exec (.state k a b x y load) s) ∧
        (∀ (code : Byte) (fields : List Byte), 1 ≤ fields.length → fields.length ≤ 1023 →
          ¬ (code = 0x41 ∧ fields.length = 1) → ¬ (code = 0x42 ∧ fields.length = 11) →
          ¬ ((code = 0x43 ∨ code = 0x44) ∧ fields.length = 12) →
          arrives (code :: fields) (sum (code :: fields)) = exec (.craneTelegramDiscarded k) s) ∧
        (∀ (body : List Byte) (check : Nat), 2 ≤ body.length → body.length ≤ 1024 → check < 65536 → check ≠ sum body →
          arrives body check = exec (.craneBadFrame k) s))) ∧
    (1 ≤ k → k ≤ 12 →
      (c.chan = .ready ∨ c.chan = .busy ∨ c.chan = .parking →
        faults (.silenceTimeout k) .silent { c with silence := max c.silence 3001 }) ∧
      (¬ (c.chan = .ready ∨ c.chan = .busy ∨ c.chan = .parking) →
        becomes (.silenceTimeout k) { c with silence := max c.silence 3001 }))

/-! ## Reset and what every step keeps -/

/-- POWER_ON puts every block at its power-on values (R168, R22, R49, R67, R96, R125, R155, R156, R169, R180): no aisles, an
empty map and pool, the two counters at 1 and 2,147,483,648, crane records not configured and OFFLINE, no stations, groups
or holds, CONFIG, NORMAL, an empty active set, no check, the policy of R169, an empty ring and output queue, counts at 0.
That the host-ready line, what was sent and the commands still to come stay is the model's choice (entry 23), as are the
reset values the manual does not give (entry 1). The reset state satisfies every invariant of the model. -/
def Obligations.PowerOnResetsEveryBlock : Prop :=
  (∀ s : State, exec .powerOn s = .next { State.reset with
    link := { State.reset.link with hostReady := s.link.hostReady }, portOut := s.portOut, hostOut := s.hostOut
    pending := s.pending }) ∧
  State.reset.aisles = [] ∧ State.reset.locs = [] ∧ State.reset.originators = [] ∧ State.reset.pool = [] ∧
  State.reset.admNext = 1 ∧ State.reset.intNext = 2147483648 ∧ State.reset.stations = [] ∧ State.reset.groups = [] ∧
  State.reset.holds = [] ∧ State.reset.readyOrder = [] ∧ State.reset.pending = [] ∧
  (∀ k, 1 ≤ k → k ≤ 12 →
    (State.reset.crane k).cfg = none ∧ (State.reset.crane k).chan = .offline ∧ (State.reset.crane k).lastFault = none ∧
    (State.reset.crane k).powerReturn = false ∧ (State.reset.crane k).stopHalted = false ∧
    (State.reset.crane k).pendingPark = false ∧ (State.reset.crane k).pos = none ∧ (State.reset.crane k).load = none ∧
    (State.reset.crane k).speed = .normal ∧ (State.reset.crane k).pendSpeed = none ∧
    (State.reset.crane k).figures = none ∧ (State.reset.crane k).pendFigures = none ∧
    (State.reset.crane k).reach = none ∧ (State.reset.crane k).pendReach = none ∧ (State.reset.crane k).plan = [] ∧
    (State.reset.crane k).parkLeg = none ∧ (State.reset.crane k).lastLeg = 0 ∧ (State.reset.crane k).curLeg = 0 ∧
    (State.reset.crane k).takenTimer = none ∧ (State.reset.crane k).legTimer = none ∧
    (State.reset.crane k).parkHold = none ∧ (State.reset.crane k).silence = 0 ∧ (State.reset.crane k).bad = 0 ∧
    (State.reset.crane k).claim = none ∧ (State.reset.crane k).request = none) ∧
  State.reset.mode.run = .config ∧ State.reset.mode.speed = .normal ∧ State.reset.mode.active = [] ∧
  State.reset.mode.check = none ∧
  State.reset.policy = {
    offset0 := 0, offset1 := 30000, offset2 := 120000, offset3 := 600000, aging := 8, pairing := .storeLeads
    minSaving := 2000, window := 3, holdTime := 120, margin := 30000, parkHold := 60 } ∧
  State.reset.link.ring = [] ∧ State.reset.link.out = [] ∧ State.reset.link.overrun = false ∧
  State.reset.link.errors = 0 ∧ State.reset.link.lost = 0 ∧
  locsWf State.reset.locs ∧ State.reset.link.bounded ∧ State.reset.link.ringFits ∧ State.reset.poolSound ∧
  State.reset.railSafe ∧ State.reset.aislesSound ∧ State.reset.numbersSound ∧ groupsSound State.reset.groups ∧
  State.reset.quiet ∧ State.reset.passDue = false ∧ State.reset.passRun = none ∧ State.reset.passSound ∧
  State.reset.checkSound

/-- Every step keeps the rack map in its canonical form, the aisles within the ranges of R1, the pool within its places
(R27) with its admission numbers rising below the counter (R26), the job numbers distinct and in their ranges (R25), the
settled set of every group rising above its delivery counter (R143), the output queue within 127 reports and one reply
(R178), and the input ring within 2,048 bytes (R175); it leaves no re-examination owed (R38); a pass is due (R68), or has
cranes to visit (R71), in RUN alone; and a resume check runs in SAFE alone (R165). -/
def Obligations.EveryStepKeepsTheState : Prop :=
  ∀ s t : State, step s = .next t →
    (locsWf s.locs → locsWf t.locs) ∧ (s.aislesSound → t.aislesSound) ∧ (s.poolSound → t.poolSound) ∧
    (s.numbersSound → t.numbersSound) ∧ (groupsSound s.groups → groupsSound t.groups) ∧ (s.quiet → t.quiet) ∧
    (s.link.bounded → t.link.bounded) ∧ (s.link.ringFits → t.link.ringFits) ∧ (s.passSound → t.passSound) ∧
    (s.checkSound → t.checkSound)

/-- Every step keeps the claims of a twin aisle's cranes apart by their two gaps added (R127), with no two cranes in one
role of an aisle and no claim with a crane that is not configured. -/
def Obligations.EveryStepKeepsTwinCranesApart : Prop := ∀ s t : State, step s = .next t → s.railSafe → t.railSafe

/-- The run state changes as R157 lists and not otherwise: a command that changes it is the one the table names for that
change, from and to the states it names. A resume check runs in SAFE alone: EveryStepKeepsTheState says so of every run. -/
def Obligations.OnlyModeCommandsChangeTheRunState : Prop :=
  ∀ (i : Instr) (s t : State), s.checkSound → exec i s = .next t → t.mode.run ≠ s.mode.run →
    match i with
    | .powerOn => t.mode.run = .config
    | .start _ => s.mode.run = .config ∧ t.mode.run = .run
    | .setMode _ _ _ _ => (s.mode.run = .run ∧ t.mode.run = .hold) ∨ (s.mode.run = .hold ∧ t.mode.run = .run)
    | .stopInputChange b | .stopInputSettled b =>
      b = true ∧ (s.mode.run = .run ∨ s.mode.run = .hold) ∧ t.mode.run = .safe
    | .resumeCheckExpiry => s.mode.run = .safe ∧ s.mode.check ≠ none ∧ t.mode.run = .hold
    | .restart _ => (s.mode.run = .run ∨ (s.mode.run = .safe ∧ s.mode.stop = false)) ∧ t.mode.run = .hold
    | _ => False

/-! ## Travel, choice and selection -/

/-- The axis time (R52), for the top speeds and accelerations of R50 and the distances of R52: 0 for no distance; where d
× a reaches v × v, the least whole number not below 1,000 × (d × a + v × v) ÷ (v × a); else the least t for which t × t ×
a reaches 4,000,000 × d. On the boundary it is 2,000 × v ÷ a rounded up, and it does not fall as the distance grows (R65).
A move takes the longer of its two axis times (R54), the distances as absolute values, each at most its axis's span, so
that the time is the same both ways. -/
def Obligations.AxisTimeIsTheLeastWholeNumber : Prop :=
  (∀ v a d : Nat, 100 ≤ v → v ≤ 8000 → 100 ≤ a → a ≤ 5000 → d ≤ 200000 →
    (d = 0 → axisTime v a d = 0) ∧
    (0 < d → v * v ≤ d * a → ∀ t, axisTime v a d ≤ t ↔ 1000 * (d * a + v * v) ≤ t * (v * a)) ∧
    (0 < d → d * a < v * v → ∀ t, axisTime v a d ≤ t ↔ 4000000 * d ≤ t * t * a) ∧
    (d * a = v * v → ∀ t, axisTime v a d ≤ t ↔ 2000 * v ≤ t * a) ∧
    (∀ e, d ≤ e → e ≤ 200000 → axisTime v a d ≤ axisTime v a e)) ∧
  (∀ (f : Profile) (p q : Point),
    moveTime f p q = max (axisTime f.vx f.ax (min 200000 ((p.x : Int) - q.x).natAbs))
      (axisTime f.vy f.ay (min 50000 ((p.y : Int) - q.y).natAbs)) ∧
    moveTime f p q = moveTime f q p)

/-- The destination (R78, R79): a location is chosen when one is eligible, it is eligible itself, and every other eligible
location has a higher PUT estimate, or the same and a later place by column, level, LEFT before RIGHT, REAR before FRONT.
The outfeed of a retrieve that named station 0 (R81): one is chosen when an OUTFEED station of the source's aisle that the
crane serves lies within range and has room, it is such a station, and every other has a higher T from the source's point,
or the same and a higher number. -/
def Obligations.DestinationIsTheNearestEligible : Prop :=
  (∀ (k : Nat) (w : DestWish) (s : State),
    let fits : Loc → Prop := fun l =>
      l.aisle = w.aisle ∧ w.zone.hits (locCode l) = true ∧ s.inReach k l = true ∧ s.inRange k (s.locPoint l).x = true ∧
      (s.loc l).occ = .empty ∧
      (∀ d ∈ [Depth.front, Depth.rear], (s.loc { l with depth := d }).occ ≠ .inbound ∧
        (s.loc { l with depth := d }).occ ≠ .outbound) ∧
      (s.loc l).attrs.noStore = false ∧ (s.loc l).attrs.inspect = false ∧ w.height ≤ (s.loc l).height ∧
      (l.depth = .front → (s.loc { l with depth := .rear }).occ ≠ .empty) ∧
      (l.depth = .rear → (s.loc { l with depth := .front }).occ = .empty) ∧
      (∀ o, w.clears = some o → locKey { o with depth := .front } ≠ locKey { l with depth := .front })
    let cost : Loc → Nat := fun l => (s.crane k).legEstimate .put (l.depth == .rear) w.start (s.locPoint l)
    (s.chooseDest k w = none → ∀ m, m.inRanges → ¬ fits m) ∧
    (∀ l, s.chooseDest k w = some l → fits l ∧ ∀ m, m.inRanges → fits m → m ≠ l →
      cost l < cost m ∨ (cost l = cost m ∧
        (l.column < m.column ∨ (l.column = m.column ∧
          (l.level < m.level ∨ (l.level = m.level ∧
            ((l.side = .left ∧ m.side = .right) ∨ (l.side = m.side ∧ l.depth = .rear ∧ m.depth = .front))))))))) ∧
  (∀ (k : Nat) (l : Loc) (s : State),
    let fits : Nat × Station → Prop := fun e =>
      e ∈ s.stations ∧ e.2.kind = .outfeed ∧ e.2.aisle = l.aisle ∧ s.inRange k e.2.point.x = true ∧
      e.2.occ + e.2.pend < e.2.capacity ∧ ∃ g, (s.crane k).cfg = some g ∧ g.aisle = e.2.aisle ∧
        (s.twinAisle g.aisle = true → (g.role = .a ∧ e.2.railEnd = .front) ∨ (g.role = .b ∧ e.2.railEnd = .rear))
    let cost : Nat × Station → Nat := fun e => (s.crane k).travel (s.locPoint l) e.2.point
    (s.chooseOutfeed k l = none → ∀ e, ¬ fits e) ∧
    (∀ n, s.chooseOutfeed k l = some n → ∃ t, fits (n, t) ∧ ∀ e, fits e → e.1 ≠ n →
      cost (n, t) < cost e ∨ (cost (n, t) = cost e ∧ n < e.1)))

/-- The candidates of a selection for crane k (R72 to R77), one for each READY job of the pool that passes the tests of
its kind, in pool order. A location a job uses lies in the crane's aisle, matches its applied filters and is within range;
a station is served by it and within range. A RECOVER job is the crane's own, its load unresolved; the others need empty
forks. A STORE has its explicit target, or the choice of R78 and R79; a RETRIEVE its named outfeed with room, or the
choice of R81, and a grouped one meets the dispatch condition (R148): it stands in the window, and every lower unsettled
position is under way to another outfeed; a RELOCATE has the choice of R80. The record holds what was decided (R77), the
legs of the single cycle (R87), and the score: the single-cycle estimate by R60, which a grouped approach leaves as it is,
and the class offset. -/
def Obligations.CandidatesPassTheTestsOfTheirKind : Prop :=
  ∀ (k : Nat) (s : State),
    let crane := s.crane k
    let usable : Loc → Prop := fun l =>
      l.aisle = crane.aisleNo ∧ s.inRange k (s.locPoint l).x = true ∧
        ∃ r, crane.reach = some r ∧ (r.a.hits (locCode l) = true ∨ (r.bOn = true ∧ r.b.hits (locCode l) = true))
    let served : Station → Prop := fun t =>
      s.inRange k t.point.x = true ∧ ∃ g, crane.cfg = some g ∧ g.aisle = t.aisle ∧
        (s.twinAisle g.aisle = true → (g.role = .a ∧ t.railEnd = .front) ∨ (g.role = .b ∧ t.railEnd = .rear))
    let mayFollow : Job → Nat → Prop := fun j o => ∃ p, s.group j.group = some p ∧ j.position < p.d + s.policy.window ∧
      ∀ q, p.d ≤ q → q < j.position → q ∈ p.settled ∨ ∃ n i, tableGet q p.held = some n ∧ s.job n = some i ∧
        (i.state = .assigned ∨ i.state = .active ∨ i.state = .carried ∨ i.state.isUncertain = true) ∧ i.station ≠ o
    let p : Point := crane.pos.getD { x := 0, y := 0 }
    let leg : Job → LegKind → Target → Bool → LegSpec := fun j kind t approach =>
      { kind := kind, target := t, job := j.num, pallet := j.pallet, approach := approach }
    let offset : Job → Nat := fun j => match j.cls with
      | 0 => s.policy.offset0
      | 1 => s.policy.offset1
      | 2 => s.policy.offset2
      | _ => s.policy.offset3
    List.Sublist ((s.candidates k).map Candidate.job) s.pool ∧
    ∀ c : Candidate, c ∈ s.candidates k ↔ c.job ∈ s.pool ∧ c.job.state = .ready ∧
      match c.job.kind with
      | .recover =>
        (∃ w, crane.load = some w ∧ w.resolved = false) ∧ c.job.crane = k ∧ c.dest = c.job.dest ∧
          c.outfeed = c.job.station ∧
          match c.job.dest with
          | some l => usable l ∧ c.legs = [leg c.job .put (.location l) false] ∧
            c.score = crane.legEstimate .put (l.depth == .rear) p (s.locPoint l) + offset c.job
          | none => s.inRange k (s.stationPoint c.job.station).x = true ∧
            c.legs = [leg c.job .put (.station c.job.station) false] ∧
            c.score = crane.legEstimate .put false p (s.stationPoint c.job.station) + offset c.job
      | .store =>
        crane.load = none ∧ ∃ t l, s.station c.job.station = some t ∧ served t ∧
          (match c.job.zone with
            | some z => s.chooseDest k
                { aisle := t.aisle, zone := z, height := c.job.height, clears := none, start := t.point } = some l
            | none => c.job.dest = some l ∧ usable l) ∧
          c.dest = some l ∧ c.outfeed = 0 ∧
          c.legs = [leg c.job .fetch (.station c.job.station) false, leg c.job .put (.location l) false] ∧
          c.score = crane.legEstimate .fetch false p t.point +
            crane.legEstimate .put (l.depth == .rear) t.point (s.locPoint l) + offset c.job
      | .retrieve =>
        crane.load = none ∧ ∃ l, c.job.source = some l ∧ usable l ∧
          (if c.job.stationNamed = true then
            c.outfeed = c.job.station ∧ ∃ t, s.station c.job.station = some t ∧ t.kind = .outfeed ∧ t.aisle = l.aisle ∧
              served t ∧ t.occ + t.pend < t.capacity
          else s.chooseOutfeed k l = some c.outfeed) ∧
          (c.job.group ≠ 0 → mayFollow c.job c.outfeed) ∧ c.dest = none ∧
          c.legs = [leg c.job .fetch (.location l) false] ++
            (if c.job.group = 0 then [] else [leg c.job .move (.station c.outfeed) true]) ++
            [leg c.job .put (.station c.outfeed) false] ∧
          c.score = crane.legEstimate .fetch (l.depth == .rear) p (s.locPoint l) +
            crane.legEstimate .put false (s.locPoint l) (s.stationPoint c.outfeed) + offset c.job
      | .relocate =>
        crane.load = none ∧ ∃ l m, c.job.source = some l ∧ usable l ∧
          s.chooseDest k { aisle := l.aisle, zone := { code := 0, mask := 0x3FFF }, height := (s.loc l).height
                           clears := some l, start := s.locPoint l } = some m ∧
          c.dest = some m ∧ c.outfeed = 0 ∧
          c.legs = [leg c.job .fetch (.location l) false, leg c.job .put (.location m) false] ∧
          c.score = crane.legEstimate .fetch (l.depth == .rear) p (s.locPoint l) +
            crane.legEstimate .put (m.depth == .rear) (s.locPoint l) (s.locPoint m) + offset c.job

/-- A selection (R62, R65, R82, R84). With no candidate nothing is assigned and the state stays. Else the chosen job has
the lowest score, the older on equal scores. Its partner is a candidate of the kind the pairing policy offers (R83, R85)
with the largest saving, the older on equal savings, and at least the minimum saving; there is none only where no such
candidate reaches it. The saving of a store with destination Ls and a retrieve with source Lr and outfeed O is T(Ls→O) +
T(O→Lr) − T(Ls→Lr), T being the move time by the applied profile, plus Ts where it is above 0. -/
def Obligations.SelectionTakesTheBestCandidate : Prop :=
  ∀ (k : Nat) (s : State), s.pool.Pairwise (fun i j => i.adm < j.adm) → (s.pool.map Job.num).Nodup →
    let cands := s.candidates k
    let offered : JobKind → Option JobKind := fun kind =>
      if kind = .store ∧ s.policy.pairing ≠ .off then some .retrieve
      else if kind = .retrieve ∧ s.policy.pairing = .both then some .store
      else none
    let time : Point → Point → Nat := fun p q =>
      let c := s.crane k
      let f := match c.speed with
        | .normal => (c.figures.getD Figures.absent).normal
        | .economy => (c.figures.getD Figures.absent).economy
      if moveTime f p q = 0 then 0 else moveTime f p q + (c.figures.getD Figures.absent).ts
    (∀ (st rt : Candidate) (ls lr : Loc), st.job.kind = .store → rt.job.kind = .retrieve → st.dest = some ls →
      rt.job.source = some lr →
      let out := s.stationPoint rt.outfeed
      let gain := time (s.locPoint ls) out + time out (s.locPoint lr) - time (s.locPoint ls) (s.locPoint lr)
      s.savingWith k st rt = gain ∧ s.savingWith k rt st = gain) ∧
    (cands = [] → s.select k = (s, false)) ∧
    (cands ≠ [] → ∃ (c : Candidate) (partner : Option Candidate), c ∈ cands ∧
      (∀ o ∈ cands, o ≠ c → c.score < o.score ∨ (c.score = o.score ∧ c.job.adm < o.job.adm)) ∧
      (partner = none → ∀ o ∈ cands, offered c.job.kind = some o.job.kind → s.savingWith k c o < s.policy.minSaving) ∧
      (∀ p, partner = some p → p ∈ cands ∧ offered c.job.kind = some p.job.kind ∧
        s.policy.minSaving ≤ s.savingWith k c p ∧
        ∀ o ∈ cands, offered c.job.kind = some o.job.kind → o ≠ p →
          s.savingWith k c o < s.savingWith k c p ∨
            (s.savingWith k c o = s.savingWith k c p ∧ p.job.adm < o.job.adm)) ∧
      s.select k = (s.assign k c partner cands, true))

/-- An assignment whole (R63, R87 to R90), for a chosen candidate alone or with its partner, the store first in the plan.
The plan holds the legs of each job in turn, each planned from the target of the one before it, the first from the
recorded position, and the cycle estimate is their sum. A destination chosen now becomes INBOUND with the pallet, and a
retrieve's outfeed expects one delivery more: the job records each as a reservation taken at assignment. The jobs are
ASSIGNED to the crane, the crane is BUSY and out of the ready order, and the pass keeps back its first leg. Every other
candidate is passed over: its bypass count rises, and at the threshold its class falls by one, 0 the lowest, and the count
returns to 0. The reports are JOB_ASSIGNED in plan order, then CRANE_STATE; the re-examinations follow within the
selection. -/
def Obligations.AssignmentFixesThePlan : Prop :=
  ∀ (k : Nat) (c : Candidate) (partner : Option Candidate) (cands : List Candidate) (s : State),
    s.quiet → 1 ≤ k → k ≤ 12 →
    (∀ p, partner = some p → p.job.num ≠ c.job.num ∧
      ((c.job.kind = .store ∧ p.job.kind = .retrieve) ∨ (c.job.kind = .retrieve ∧ p.job.kind = .store))) →
    (∀ o l, (o = c ∨ partner = some o) → o.dest = some l → l.inRanges) →
    let plan : List Candidate := match partner with
      | none => [c]
      | some p => if c.job.kind = .store then [c, p] else [p, c]
    let other : Candidate → Nat := fun o => match partner with
      | none => 0
      | some p => if o.job.num = c.job.num then p.job.num else c.job.num
    let takes : Candidate → Bool := fun o =>
      o.dest.isSome && (o.job.kind == .relocate || (o.job.kind == .store && o.job.zone.isSome))
    let delivers : Candidate → Bool := fun o => o.job.kind == .retrieve
    let legs := s.mkPlan k ((s.crane k).pos.getD { x := 0, y := 0 }) (plan.flatMap Candidate.legs)
    let estimate := (legs.map Leg.est).sum
    let saving := match partner with
      | none => 0
      | some p => s.savingWith k c p
    (∀ (p : Point) (g : LegSpec) (more : List LegSpec), s.mkPlan k p (g :: more) =
      { kind := g.kind, target := g.target, job := some g.job, pallet := some g.pallet, approach := g.approach, start := p
        est := (s.crane k).legEstimate g.kind g.target.rear p (s.targetPoint k g.target) } ::
        s.mkPlan k (s.targetPoint k g.target) more) ∧
    ∃ u : State, s.assign k c partner cands = u.reexamine ∧
      u.crane k = { s.crane k with
        chan := .busy, plan := legs, estimate := estimate
        cycle := some (match c.job.kind, partner with
          | .relocate, _ => .relocation
          | .recover, _ => .recovery
          | _, none => .single
          | _, some _ => .dual) } ∧
      (∀ j, j ≠ k → u.crane j = s.crane j) ∧
      (∀ m, m.inRanges → u.loc m = match plan.find? (fun o => takes o && o.dest == some m) with
        | some o => { (s.loc m) with occ := .inbound, pallet := some o.job.pallet }
        | none => s.loc m) ∧
      (∀ m, u.station m = (s.station m).map (fun t =>
        if plan.any (fun o => delivers o && o.outfeed == m) = true then { t with pend := t.pend + 1 } else t)) ∧
      u = { s with
        locs := u.locs, stations := u.stations, cranes := u.cranes
        pool := s.pool.map (fun i => match plan.find? (fun o => o.job.num == i.num) with
          | some o => { i with
            dest := if takes o = true then o.dest else i.dest
            dstRes := if takes o = true then some { kind := .location, origin := .assignment }
              else if delivers o = true then some { kind := .delivery, origin := .assignment } else i.dstRes
            station := if delivers o = true then o.outfeed else i.station
            state := .assigned, crane := k }
          | none =>
            if cands.any (fun o => o.job.num == i.num) = true then
              (if s.policy.aging ≤ i.bypass + 1 then { i with cls := i.cls - 1, bypass := 0 }
              else { i with bypass := i.bypass + 1 })
            else i)
        readyOrder := s.readyOrder.filter (fun j => j != k)
        passRun := s.passWithout k
        work := {
          pairs := plan.filterMap (fun o => if takes o = true then o.dest.map (fun l => locKey { l with depth := .front })
            else none)
          allBusy := false }
        link := (plan.foldl (fun (w : Link) (o : Candidate) => w.report (.jobAssigned o.job.num k (other o) o.dest
          (if o.dest = none then o.outfeed else 0) o.score saving estimate)) s.link).report
          (.craneState k .busy .assigned (s.crane k).pos) }
end

