-- ==== Sys2Proof/Laws/Bytes.lean ====
section
/-! SUPPORT. Numbers as bytes: what is written most significant byte first is read back, and how long it is. -/

namespace Sys2Proof

@[simp] theorem beBytes_length (n v : Nat) : (beBytes n v).length = n := by
  induction n with
  | zero => rfl
  | succ n ih => simp [beBytes, ih]

theorem beNat_cons (b : Byte) (bs : List Byte) : beNat (b :: bs) = b.toNat * 256 ^ bs.length + beNat bs := by
  have key : ∀ (bs : List Byte) (a : Nat),
      bs.foldl (fun acc b => acc * 256 + b.toNat) a = a * 256 ^ bs.length + bs.foldl (fun acc b => acc * 256 + b.toNat) 0 := by
    intro bs
    induction bs with
    | nil => simp
    | cons b bs ih =>
      intro a
      rw [List.foldl_cons, List.foldl_cons, ih, ih (0 * 256 + b.toNat), List.length_cons]
      ring
  simp only [beNat, List.foldl_cons]
  rw [key]
  simp

/-- The low bytes of a number spell it modulo their range. -/
theorem beNat_beBytes_mod (n v : Nat) : beNat (beBytes n v) = v % 256 ^ n := by
  induction n with
  | zero => simp [beBytes, beNat, Nat.mod_one]
  | succ n ih =>
    have e : v % (256 ^ n * 256) = v % 256 ^ n + 256 ^ n * (v / 256 ^ n % 256) := Nat.mod_mul
    rw [beBytes, beNat_cons, ih, beBytes_length, BitVec.toNat_ofNat, Nat.pow_succ 256, e]
    ring

theorem beNat_beBytes {n v : Nat} (h : v < 256 ^ n) : beNat (beBytes n v) = v := by
  rw [beNat_beBytes_mod, Nat.mod_eq_of_lt h]

/-- A field is read back as it was written, and the bytes behind it stay. -/
theorem readBe_beBytes {n v : Nat} (h : v < 256 ^ n) (bs : List Byte) : readBe n (beBytes n v ++ bs) = (v, bs) := by
  have hl : (beBytes n v).length = n := beBytes_length n v
  unfold readBe
  rw [List.take_left' hl, List.drop_left' hl, beNat_beBytes h]

theorem readBe_beBytes_end {n v : Nat} (h : v < 256 ^ n) : readBe n (beBytes n v) = (v, []) := by
  simpa using readBe_beBytes h []

/-! ## The groups of fields -/

theorem readLoc_bytes {q : LocFields} (h : q.wf = true) (bs : List Byte) : readLoc (q.bytes ++ bs) = (q, bs) := by
  simp [LocFields.wf] at h
  obtain ⟨⟨⟨⟨h1, h2⟩, h3⟩, h4⟩, h5⟩ := h
  simp [readLoc, LocFields.bytes, readBe_beBytes, List.append_assoc, h1, h2, h3, h4, h5]

theorem readCol_bytes {q : ColFields} (h : q.wf = true) (bs : List Byte) : readCol (q.bytes ++ bs) = (q, bs) := by
  simp [ColFields.wf] at h
  obtain ⟨⟨⟨h1, h2⟩, h3⟩, h4⟩ := h
  simp [readCol, ColFields.bytes, readBe_beBytes, List.append_assoc, h1, h2, h3, h4]

theorem readFilter_bytes {q : FilterFields} (h : q.wf = true) (bs : List Byte) :
    readFilter (q.bytes ++ bs) = (q, bs) := by
  simp [FilterFields.wf] at h
  simp [readFilter, FilterFields.bytes, readBe_beBytes, List.append_assoc, h.1, h.2]

theorem readReach_bytes {q : ReachFields} (h : q.wf = true) (bs : List Byte) : readReach (q.bytes ++ bs) = (q, bs) := by
  simp only [ReachFields.wf, Bool.and_eq_true, decide_eq_true_eq] at h
  obtain ⟨⟨h1, h2⟩, h3⟩ := h
  simp [readReach, ReachFields.bytes, List.append_assoc, readFilter_bytes h1, readFilter_bytes h2, readBe_beBytes, h3]

theorem readFigures_bytes {q : FigureFields} (h : q.wf = true) (bs : List Byte) :
    readFigures (q.bytes ++ bs) = (q, bs) := by
  simp [FigureFields.wf] at h
  obtain ⟨⟨⟨⟨⟨⟨⟨⟨⟨⟨⟨h1, h2⟩, h3⟩, h4⟩, h5⟩, h6⟩, h7⟩, h8⟩, h9⟩, h10⟩, h11⟩, h12⟩ := h
  simp [readFigures, FigureFields.bytes, readBe_beBytes, List.append_assoc, h1, h2, h3, h4, h5, h6, h7, h8, h9, h10, h11, h12]

@[simp] theorem LocFields.bytes_length (q : LocFields) : q.bytes.length = 5 := by simp [LocFields.bytes]
@[simp] theorem ColFields.bytes_length (q : ColFields) : q.bytes.length = 4 := by simp [ColFields.bytes]
@[simp] theorem FilterFields.bytes_length (q : FilterFields) : q.bytes.length = 4 := by simp [FilterFields.bytes]
@[simp] theorem ReachFields.bytes_length (q : ReachFields) : q.bytes.length = 9 := by simp [ReachFields.bytes]
@[simp] theorem FigureFields.bytes_length (q : FigureFields) : q.bytes.length = 24 := by simp [FigureFields.bytes]
@[simp] theorem AisleFields.bytes_length (q : AisleFields) : q.bytes.length = 15 := by simp [AisleFields.bytes]
@[simp] theorem CraneFields.bytes_length (q : CraneFields) : q.bytes.length = 44 := by simp [CraneFields.bytes]
@[simp] theorem StationFields.bytes_length (q : StationFields) : q.bytes.length = 11 := by simp [StationFields.bytes]
@[simp] theorem PolicyFields.bytes_length (q : PolicyFields) : q.bytes.length = 27 := by simp [PolicyFields.bytes]
@[simp] theorem StoreFields.bytes_length (q : StoreFields) : q.bytes.length = 22 := by simp [StoreFields.bytes]
@[simp] theorem RetrieveFields.bytes_length (q : RetrieveFields) : q.bytes.length = 22 := by simp [RetrieveFields.bytes]
@[simp] theorem RecoverFields.bytes_length (q : RecoverFields) : q.bytes.length = 8 := by simp [RecoverFields.bytes]
@[simp] theorem SetLocFields.bytes_length (q : SetLocFields) : q.bytes.length = 11 := by simp [SetLocFields.bytes]

@[simp] theorem levelBytes_length (l : List LevelFields) : (levelBytes l).length = 6 * l.length := by
  induction l with
  | nil => rfl
  | cons e t ih =>
    simp [levelBytes, ih]
    ring

end Sys2Proof
end

