-- ==== Sys2Proof/Laws/State.lean ====
section
/-! SUPPORT. What each update of the state does to each of its fields: no later proof unfolds a record update. -/

namespace Sys2Proof.Machine

variable (s : State)

@[simp] theorem State.setLoc_aisles (l : Loc) (r : LocRec) : (s.setLoc l r).aisles = s.aisles := rfl
@[simp] theorem State.setLoc_locs (l : Loc) (r : LocRec) : (s.setLoc l r).locs = locsPut (locKey l) r s.locs := rfl
@[simp] theorem State.setLoc_originators (l : Loc) (r : LocRec) : (s.setLoc l r).originators = s.originators := rfl
@[simp] theorem State.setLoc_pool (l : Loc) (r : LocRec) : (s.setLoc l r).pool = s.pool := rfl
@[simp] theorem State.setLoc_admNext (l : Loc) (r : LocRec) : (s.setLoc l r).admNext = s.admNext := rfl
@[simp] theorem State.setLoc_intNext (l : Loc) (r : LocRec) : (s.setLoc l r).intNext = s.intNext := rfl
@[simp] theorem State.setLoc_stations (l : Loc) (r : LocRec) : (s.setLoc l r).stations = s.stations := rfl
@[simp] theorem State.setLoc_groups (l : Loc) (r : LocRec) : (s.setLoc l r).groups = s.groups := rfl
@[simp] theorem State.setLoc_holds (l : Loc) (r : LocRec) : (s.setLoc l r).holds = s.holds := rfl
@[simp] theorem State.setLoc_cranes (l : Loc) (r : LocRec) : (s.setLoc l r).cranes = s.cranes := rfl
@[simp] theorem State.setLoc_readyOrder (l : Loc) (r : LocRec) : (s.setLoc l r).readyOrder = s.readyOrder := rfl
@[simp] theorem State.setLoc_passDue (l : Loc) (r : LocRec) : (s.setLoc l r).passDue = s.passDue := rfl
@[simp] theorem State.setLoc_passRun (l : Loc) (r : LocRec) : (s.setLoc l r).passRun = s.passRun := rfl
@[simp] theorem State.setLoc_mode (l : Loc) (r : LocRec) : (s.setLoc l r).mode = s.mode := rfl
@[simp] theorem State.setLoc_policy (l : Loc) (r : LocRec) : (s.setLoc l r).policy = s.policy := rfl
@[simp] theorem State.setLoc_link (l : Loc) (r : LocRec) : (s.setLoc l r).link = s.link := rfl
@[simp] theorem State.setLoc_portOut (l : Loc) (r : LocRec) : (s.setLoc l r).portOut = s.portOut := rfl
@[simp] theorem State.setLoc_hostOut (l : Loc) (r : LocRec) : (s.setLoc l r).hostOut = s.hostOut := rfl
@[simp] theorem State.setLoc_work (l : Loc) (r : LocRec) : (s.setLoc l r).work = s.work := rfl
@[simp] theorem State.setLoc_pending (l : Loc) (r : LocRec) : (s.setLoc l r).pending = s.pending := rfl

@[simp] theorem State.touchPair_aisles (l : Loc) : (s.touchPair l).aisles = s.aisles := rfl
@[simp] theorem State.touchPair_locs (l : Loc) : (s.touchPair l).locs = s.locs := rfl
@[simp] theorem State.touchPair_originators (l : Loc) : (s.touchPair l).originators = s.originators := rfl
@[simp] theorem State.touchPair_pool (l : Loc) : (s.touchPair l).pool = s.pool := rfl
@[simp] theorem State.touchPair_admNext (l : Loc) : (s.touchPair l).admNext = s.admNext := rfl
@[simp] theorem State.touchPair_intNext (l : Loc) : (s.touchPair l).intNext = s.intNext := rfl
@[simp] theorem State.touchPair_stations (l : Loc) : (s.touchPair l).stations = s.stations := rfl
@[simp] theorem State.touchPair_groups (l : Loc) : (s.touchPair l).groups = s.groups := rfl
@[simp] theorem State.touchPair_holds (l : Loc) : (s.touchPair l).holds = s.holds := rfl
@[simp] theorem State.touchPair_cranes (l : Loc) : (s.touchPair l).cranes = s.cranes := rfl
@[simp] theorem State.touchPair_readyOrder (l : Loc) : (s.touchPair l).readyOrder = s.readyOrder := rfl
@[simp] theorem State.touchPair_passDue (l : Loc) : (s.touchPair l).passDue = s.passDue := rfl
@[simp] theorem State.touchPair_passRun (l : Loc) : (s.touchPair l).passRun = s.passRun := rfl
@[simp] theorem State.touchPair_mode (l : Loc) : (s.touchPair l).mode = s.mode := rfl
@[simp] theorem State.touchPair_policy (l : Loc) : (s.touchPair l).policy = s.policy := rfl
@[simp] theorem State.touchPair_link (l : Loc) : (s.touchPair l).link = s.link := rfl
@[simp] theorem State.touchPair_portOut (l : Loc) : (s.touchPair l).portOut = s.portOut := rfl
@[simp] theorem State.touchPair_hostOut (l : Loc) : (s.touchPair l).hostOut = s.hostOut := rfl
@[simp] theorem State.touchPair_pending (l : Loc) : (s.touchPair l).pending = s.pending := rfl

@[simp] theorem State.occupy_aisles (l : Loc) (o : Occupancy) (p : Option Nat) : (s.occupy l o p).aisles = s.aisles := rfl
@[simp] theorem State.occupy_locs (l : Loc) (o : Occupancy) (p : Option Nat) : (s.occupy l o p).locs = locsPut (locKey l) { s.loc l with occ := o, pallet := p } s.locs := rfl
@[simp] theorem State.occupy_originators (l : Loc) (o : Occupancy) (p : Option Nat) : (s.occupy l o p).originators = s.originators := rfl
@[simp] theorem State.occupy_pool (l : Loc) (o : Occupancy) (p : Option Nat) : (s.occupy l o p).pool = s.pool := rfl
@[simp] theorem State.occupy_admNext (l : Loc) (o : Occupancy) (p : Option Nat) : (s.occupy l o p).admNext = s.admNext := rfl
@[simp] theorem State.occupy_intNext (l : Loc) (o : Occupancy) (p : Option Nat) : (s.occupy l o p).intNext = s.intNext := rfl
@[simp] theorem State.occupy_stations (l : Loc) (o : Occupancy) (p : Option Nat) : (s.occupy l o p).stations = s.stations := rfl
@[simp] theorem State.occupy_groups (l : Loc) (o : Occupancy) (p : Option Nat) : (s.occupy l o p).groups = s.groups := rfl
@[simp] theorem State.occupy_holds (l : Loc) (o : Occupancy) (p : Option Nat) : (s.occupy l o p).holds = s.holds := rfl
@[simp] theorem State.occupy_cranes (l : Loc) (o : Occupancy) (p : Option Nat) : (s.occupy l o p).cranes = s.cranes := rfl
@[simp] theorem State.occupy_readyOrder (l : Loc) (o : Occupancy) (p : Option Nat) : (s.occupy l o p).readyOrder = s.readyOrder := rfl
@[simp] theorem State.occupy_passDue (l : Loc) (o : Occupancy) (p : Option Nat) : (s.occupy l o p).passDue = s.passDue := rfl
@[simp] theorem State.occupy_passRun (l : Loc) (o : Occupancy) (p : Option Nat) : (s.occupy l o p).passRun = s.passRun := rfl
@[simp] theorem State.occupy_mode (l : Loc) (o : Occupancy) (p : Option Nat) : (s.occupy l o p).mode = s.mode := rfl
@[simp] theorem State.occupy_policy (l : Loc) (o : Occupancy) (p : Option Nat) : (s.occupy l o p).policy = s.policy := rfl
@[simp] theorem State.occupy_link (l : Loc) (o : Occupancy) (p : Option Nat) : (s.occupy l o p).link = s.link := rfl
@[simp] theorem State.occupy_portOut (l : Loc) (o : Occupancy) (p : Option Nat) : (s.occupy l o p).portOut = s.portOut := rfl
@[simp] theorem State.occupy_hostOut (l : Loc) (o : Occupancy) (p : Option Nat) : (s.occupy l o p).hostOut = s.hostOut := rfl
@[simp] theorem State.occupy_work (l : Loc) (o : Occupancy) (p : Option Nat) : (s.occupy l o p).work = (s.touchPair l).work := rfl
@[simp] theorem State.occupy_pending (l : Loc) (o : Occupancy) (p : Option Nat) : (s.occupy l o p).pending = s.pending := rfl

@[simp] theorem State.trigger_aisles : s.trigger.aisles = s.aisles := by
  unfold State.trigger
  split <;> rfl
@[simp] theorem State.trigger_locs : s.trigger.locs = s.locs := by
  unfold State.trigger
  split <;> rfl
@[simp] theorem State.trigger_originators : s.trigger.originators = s.originators := by
  unfold State.trigger
  split <;> rfl
@[simp] theorem State.trigger_pool : s.trigger.pool = s.pool := by
  unfold State.trigger
  split <;> rfl
@[simp] theorem State.trigger_admNext : s.trigger.admNext = s.admNext := by
  unfold State.trigger
  split <;> rfl
@[simp] theorem State.trigger_intNext : s.trigger.intNext = s.intNext := by
  unfold State.trigger
  split <;> rfl
@[simp] theorem State.trigger_stations : s.trigger.stations = s.stations := by
  unfold State.trigger
  split <;> rfl
@[simp] theorem State.trigger_groups : s.trigger.groups = s.groups := by
  unfold State.trigger
  split <;> rfl
@[simp] theorem State.trigger_holds : s.trigger.holds = s.holds := by
  unfold State.trigger
  split <;> rfl
@[simp] theorem State.trigger_cranes : s.trigger.cranes = s.cranes := by
  unfold State.trigger
  split <;> rfl
@[simp] theorem State.trigger_readyOrder : s.trigger.readyOrder = s.readyOrder := by
  unfold State.trigger
  split <;> rfl
@[simp] theorem State.trigger_passDue : s.trigger.passDue = (s.passDue || s.mode.run == .run) := by
  unfold State.trigger
  split <;> simp_all
@[simp] theorem State.trigger_passRun : s.trigger.passRun = s.passRun := by
  unfold State.trigger
  split <;> rfl
@[simp] theorem State.trigger_mode : s.trigger.mode = s.mode := by
  unfold State.trigger
  split <;> rfl
@[simp] theorem State.trigger_policy : s.trigger.policy = s.policy := by
  unfold State.trigger
  split <;> rfl
@[simp] theorem State.trigger_link : s.trigger.link = s.link := by
  unfold State.trigger
  split <;> rfl
@[simp] theorem State.trigger_portOut : s.trigger.portOut = s.portOut := by
  unfold State.trigger
  split <;> rfl
@[simp] theorem State.trigger_hostOut : s.trigger.hostOut = s.hostOut := by
  unfold State.trigger
  split <;> rfl
@[simp] theorem State.trigger_work : s.trigger.work = s.work := by
  unfold State.trigger
  split <;> rfl
@[simp] theorem State.trigger_pending : s.trigger.pending = s.pending := by
  unfold State.trigger
  split <;> rfl

@[simp] theorem State.report_aisles (r : Report) : (s.report r).aisles = s.aisles := rfl
@[simp] theorem State.report_locs (r : Report) : (s.report r).locs = s.locs := rfl
@[simp] theorem State.report_originators (r : Report) : (s.report r).originators = s.originators := rfl
@[simp] theorem State.report_pool (r : Report) : (s.report r).pool = s.pool := rfl
@[simp] theorem State.report_admNext (r : Report) : (s.report r).admNext = s.admNext := rfl
@[simp] theorem State.report_intNext (r : Report) : (s.report r).intNext = s.intNext := rfl
@[simp] theorem State.report_stations (r : Report) : (s.report r).stations = s.stations := rfl
@[simp] theorem State.report_groups (r : Report) : (s.report r).groups = s.groups := rfl
@[simp] theorem State.report_holds (r : Report) : (s.report r).holds = s.holds := rfl
@[simp] theorem State.report_cranes (r : Report) : (s.report r).cranes = s.cranes := rfl
@[simp] theorem State.report_readyOrder (r : Report) : (s.report r).readyOrder = s.readyOrder := rfl
@[simp] theorem State.report_passDue (r : Report) : (s.report r).passDue = s.passDue := rfl
@[simp] theorem State.report_passRun (r : Report) : (s.report r).passRun = s.passRun := rfl
@[simp] theorem State.report_mode (r : Report) : (s.report r).mode = s.mode := rfl
@[simp] theorem State.report_policy (r : Report) : (s.report r).policy = s.policy := rfl
@[simp] theorem State.report_link (r : Report) : (s.report r).link = s.link.report r := rfl
@[simp] theorem State.report_portOut (r : Report) : (s.report r).portOut = s.portOut := rfl
@[simp] theorem State.report_hostOut (r : Report) : (s.report r).hostOut = s.hostOut := rfl
@[simp] theorem State.report_work (r : Report) : (s.report r).work = s.work := rfl
@[simp] theorem State.report_pending (r : Report) : (s.report r).pending = s.pending := rfl

@[simp] theorem State.answer_aisles (c t : Nat) (r : Result) (d : List Byte) : (s.answer c t r d).aisles = s.aisles := rfl
@[simp] theorem State.answer_locs (c t : Nat) (r : Result) (d : List Byte) : (s.answer c t r d).locs = s.locs := rfl
@[simp] theorem State.answer_originators (c t : Nat) (r : Result) (d : List Byte) : (s.answer c t r d).originators = s.originators := rfl
@[simp] theorem State.answer_pool (c t : Nat) (r : Result) (d : List Byte) : (s.answer c t r d).pool = s.pool := rfl
@[simp] theorem State.answer_admNext (c t : Nat) (r : Result) (d : List Byte) : (s.answer c t r d).admNext = s.admNext := rfl
@[simp] theorem State.answer_intNext (c t : Nat) (r : Result) (d : List Byte) : (s.answer c t r d).intNext = s.intNext := rfl
@[simp] theorem State.answer_stations (c t : Nat) (r : Result) (d : List Byte) : (s.answer c t r d).stations = s.stations := rfl
@[simp] theorem State.answer_groups (c t : Nat) (r : Result) (d : List Byte) : (s.answer c t r d).groups = s.groups := rfl
@[simp] theorem State.answer_holds (c t : Nat) (r : Result) (d : List Byte) : (s.answer c t r d).holds = s.holds := rfl
@[simp] theorem State.answer_cranes (c t : Nat) (r : Result) (d : List Byte) : (s.answer c t r d).cranes = s.cranes := rfl
@[simp] theorem State.answer_readyOrder (c t : Nat) (r : Result) (d : List Byte) : (s.answer c t r d).readyOrder = s.readyOrder := rfl
@[simp] theorem State.answer_passDue (c t : Nat) (r : Result) (d : List Byte) : (s.answer c t r d).passDue = s.passDue := rfl
@[simp] theorem State.answer_passRun (c t : Nat) (r : Result) (d : List Byte) : (s.answer c t r d).passRun = s.passRun := rfl
@[simp] theorem State.answer_mode (c t : Nat) (r : Result) (d : List Byte) : (s.answer c t r d).mode = s.mode := rfl
@[simp] theorem State.answer_policy (c t : Nat) (r : Result) (d : List Byte) : (s.answer c t r d).policy = s.policy := rfl
@[simp] theorem State.answer_link (c t : Nat) (r : Result) (d : List Byte) : (s.answer c t r d).link = s.link.answer c t r d := rfl
@[simp] theorem State.answer_portOut (c t : Nat) (r : Result) (d : List Byte) : (s.answer c t r d).portOut = s.portOut := rfl
@[simp] theorem State.answer_hostOut (c t : Nat) (r : Result) (d : List Byte) : (s.answer c t r d).hostOut = s.hostOut := rfl
@[simp] theorem State.answer_work (c t : Nat) (r : Result) (d : List Byte) : (s.answer c t r d).work = s.work := rfl
@[simp] theorem State.answer_pending (c t : Nat) (r : Result) (d : List Byte) : (s.answer c t r d).pending = s.pending := rfl

@[simp] theorem State.updCrane_aisles (k : Nat) (f : Crane → Crane) : (s.updCrane k f).aisles = s.aisles := by
  unfold State.updCrane
  split <;> rfl
@[simp] theorem State.updCrane_locs (k : Nat) (f : Crane → Crane) : (s.updCrane k f).locs = s.locs := by
  unfold State.updCrane
  split <;> rfl
@[simp] theorem State.updCrane_originators (k : Nat) (f : Crane → Crane) : (s.updCrane k f).originators = s.originators := by
  unfold State.updCrane
  split <;> rfl
@[simp] theorem State.updCrane_pool (k : Nat) (f : Crane → Crane) : (s.updCrane k f).pool = s.pool := by
  unfold State.updCrane
  split <;> rfl
@[simp] theorem State.updCrane_admNext (k : Nat) (f : Crane → Crane) : (s.updCrane k f).admNext = s.admNext := by
  unfold State.updCrane
  split <;> rfl
@[simp] theorem State.updCrane_intNext (k : Nat) (f : Crane → Crane) : (s.updCrane k f).intNext = s.intNext := by
  unfold State.updCrane
  split <;> rfl
@[simp] theorem State.updCrane_stations (k : Nat) (f : Crane → Crane) : (s.updCrane k f).stations = s.stations := by
  unfold State.updCrane
  split <;> rfl
@[simp] theorem State.updCrane_groups (k : Nat) (f : Crane → Crane) : (s.updCrane k f).groups = s.groups := by
  unfold State.updCrane
  split <;> rfl
@[simp] theorem State.updCrane_holds (k : Nat) (f : Crane → Crane) : (s.updCrane k f).holds = s.holds := by
  unfold State.updCrane
  split <;> rfl
@[simp] theorem State.updCrane_readyOrder (k : Nat) (f : Crane → Crane) : (s.updCrane k f).readyOrder = s.readyOrder := by
  unfold State.updCrane
  split <;> rfl
@[simp] theorem State.updCrane_passDue (k : Nat) (f : Crane → Crane) : (s.updCrane k f).passDue = s.passDue := by
  unfold State.updCrane
  split <;> rfl
@[simp] theorem State.updCrane_passRun (k : Nat) (f : Crane → Crane) : (s.updCrane k f).passRun = s.passRun := by
  unfold State.updCrane
  split <;> rfl
@[simp] theorem State.updCrane_mode (k : Nat) (f : Crane → Crane) : (s.updCrane k f).mode = s.mode := by
  unfold State.updCrane
  split <;> rfl
@[simp] theorem State.updCrane_policy (k : Nat) (f : Crane → Crane) : (s.updCrane k f).policy = s.policy := by
  unfold State.updCrane
  split <;> rfl
@[simp] theorem State.updCrane_link (k : Nat) (f : Crane → Crane) : (s.updCrane k f).link = s.link := by
  unfold State.updCrane
  split <;> rfl
@[simp] theorem State.updCrane_portOut (k : Nat) (f : Crane → Crane) : (s.updCrane k f).portOut = s.portOut := by
  unfold State.updCrane
  split <;> rfl
@[simp] theorem State.updCrane_hostOut (k : Nat) (f : Crane → Crane) : (s.updCrane k f).hostOut = s.hostOut := by
  unfold State.updCrane
  split <;> rfl
@[simp] theorem State.updCrane_work (k : Nat) (f : Crane → Crane) : (s.updCrane k f).work = s.work := by
  unfold State.updCrane
  split <;> rfl
@[simp] theorem State.updCrane_pending (k : Nat) (f : Crane → Crane) : (s.updCrane k f).pending = s.pending := by
  unfold State.updCrane
  split <;> rfl

@[simp] theorem State.portSend_aisles (k : Nat) (b : List Byte) : (s.portSend k b).aisles = s.aisles := rfl
@[simp] theorem State.portSend_locs (k : Nat) (b : List Byte) : (s.portSend k b).locs = s.locs := rfl
@[simp] theorem State.portSend_originators (k : Nat) (b : List Byte) : (s.portSend k b).originators = s.originators := rfl
@[simp] theorem State.portSend_pool (k : Nat) (b : List Byte) : (s.portSend k b).pool = s.pool := rfl
@[simp] theorem State.portSend_admNext (k : Nat) (b : List Byte) : (s.portSend k b).admNext = s.admNext := rfl
@[simp] theorem State.portSend_intNext (k : Nat) (b : List Byte) : (s.portSend k b).intNext = s.intNext := rfl
@[simp] theorem State.portSend_stations (k : Nat) (b : List Byte) : (s.portSend k b).stations = s.stations := rfl
@[simp] theorem State.portSend_groups (k : Nat) (b : List Byte) : (s.portSend k b).groups = s.groups := rfl
@[simp] theorem State.portSend_holds (k : Nat) (b : List Byte) : (s.portSend k b).holds = s.holds := rfl
@[simp] theorem State.portSend_cranes (k : Nat) (b : List Byte) : (s.portSend k b).cranes = s.cranes := rfl
@[simp] theorem State.portSend_readyOrder (k : Nat) (b : List Byte) : (s.portSend k b).readyOrder = s.readyOrder := rfl
@[simp] theorem State.portSend_passDue (k : Nat) (b : List Byte) : (s.portSend k b).passDue = s.passDue := rfl
@[simp] theorem State.portSend_passRun (k : Nat) (b : List Byte) : (s.portSend k b).passRun = s.passRun := rfl
@[simp] theorem State.portSend_mode (k : Nat) (b : List Byte) : (s.portSend k b).mode = s.mode := rfl
@[simp] theorem State.portSend_policy (k : Nat) (b : List Byte) : (s.portSend k b).policy = s.policy := rfl
@[simp] theorem State.portSend_link (k : Nat) (b : List Byte) : (s.portSend k b).link = s.link := rfl
@[simp] theorem State.portSend_portOut (k : Nat) (b : List Byte) : (s.portSend k b).portOut = s.portOut ++ [(k, b)] := rfl
@[simp] theorem State.portSend_hostOut (k : Nat) (b : List Byte) : (s.portSend k b).hostOut = s.hostOut := rfl
@[simp] theorem State.portSend_work (k : Nat) (b : List Byte) : (s.portSend k b).work = s.work := rfl
@[simp] theorem State.portSend_pending (k : Nat) (b : List Byte) : (s.portSend k b).pending = s.pending := rfl

@[simp] theorem State.updJob_aisles (n : Nat) (f : Job → Job) : (s.updJob n f).aisles = s.aisles := rfl
@[simp] theorem State.updJob_locs (n : Nat) (f : Job → Job) : (s.updJob n f).locs = s.locs := rfl
@[simp] theorem State.updJob_originators (n : Nat) (f : Job → Job) : (s.updJob n f).originators = s.originators := rfl
@[simp] theorem State.updJob_pool (n : Nat) (f : Job → Job) : (s.updJob n f).pool = s.pool.map (fun j => if j.num = n then f j else j) := rfl
@[simp] theorem State.updJob_admNext (n : Nat) (f : Job → Job) : (s.updJob n f).admNext = s.admNext := rfl
@[simp] theorem State.updJob_intNext (n : Nat) (f : Job → Job) : (s.updJob n f).intNext = s.intNext := rfl
@[simp] theorem State.updJob_stations (n : Nat) (f : Job → Job) : (s.updJob n f).stations = s.stations := rfl
@[simp] theorem State.updJob_groups (n : Nat) (f : Job → Job) : (s.updJob n f).groups = s.groups := rfl
@[simp] theorem State.updJob_holds (n : Nat) (f : Job → Job) : (s.updJob n f).holds = s.holds := rfl
@[simp] theorem State.updJob_cranes (n : Nat) (f : Job → Job) : (s.updJob n f).cranes = s.cranes := rfl
@[simp] theorem State.updJob_readyOrder (n : Nat) (f : Job → Job) : (s.updJob n f).readyOrder = s.readyOrder := rfl
@[simp] theorem State.updJob_passDue (n : Nat) (f : Job → Job) : (s.updJob n f).passDue = s.passDue := rfl
@[simp] theorem State.updJob_passRun (n : Nat) (f : Job → Job) : (s.updJob n f).passRun = s.passRun := rfl
@[simp] theorem State.updJob_mode (n : Nat) (f : Job → Job) : (s.updJob n f).mode = s.mode := rfl
@[simp] theorem State.updJob_policy (n : Nat) (f : Job → Job) : (s.updJob n f).policy = s.policy := rfl
@[simp] theorem State.updJob_link (n : Nat) (f : Job → Job) : (s.updJob n f).link = s.link := rfl
@[simp] theorem State.updJob_portOut (n : Nat) (f : Job → Job) : (s.updJob n f).portOut = s.portOut := rfl
@[simp] theorem State.updJob_hostOut (n : Nat) (f : Job → Job) : (s.updJob n f).hostOut = s.hostOut := rfl
@[simp] theorem State.updJob_work (n : Nat) (f : Job → Job) : (s.updJob n f).work = s.work := rfl
@[simp] theorem State.updJob_pending (n : Nat) (f : Job → Job) : (s.updJob n f).pending = s.pending := rfl

@[simp] theorem State.freeJob_aisles (n : Nat) : (s.freeJob n).aisles = s.aisles := rfl
@[simp] theorem State.freeJob_locs (n : Nat) : (s.freeJob n).locs = s.locs := rfl
@[simp] theorem State.freeJob_originators (n : Nat) : (s.freeJob n).originators = s.originators := rfl
@[simp] theorem State.freeJob_pool (n : Nat) : (s.freeJob n).pool = s.pool.filter (fun j => j.num != n) := rfl
@[simp] theorem State.freeJob_admNext (n : Nat) : (s.freeJob n).admNext = s.admNext := rfl
@[simp] theorem State.freeJob_intNext (n : Nat) : (s.freeJob n).intNext = s.intNext := rfl
@[simp] theorem State.freeJob_stations (n : Nat) : (s.freeJob n).stations = s.stations := rfl
@[simp] theorem State.freeJob_groups (n : Nat) : (s.freeJob n).groups = s.groups := rfl
@[simp] theorem State.freeJob_holds (n : Nat) : (s.freeJob n).holds = s.holds := rfl
@[simp] theorem State.freeJob_cranes (n : Nat) : (s.freeJob n).cranes = s.cranes := rfl
@[simp] theorem State.freeJob_readyOrder (n : Nat) : (s.freeJob n).readyOrder = s.readyOrder := rfl
@[simp] theorem State.freeJob_passDue (n : Nat) : (s.freeJob n).passDue = s.passDue := rfl
@[simp] theorem State.freeJob_passRun (n : Nat) : (s.freeJob n).passRun = s.passRun := rfl
@[simp] theorem State.freeJob_mode (n : Nat) : (s.freeJob n).mode = s.mode := rfl
@[simp] theorem State.freeJob_policy (n : Nat) : (s.freeJob n).policy = s.policy := rfl
@[simp] theorem State.freeJob_link (n : Nat) : (s.freeJob n).link = s.link := rfl
@[simp] theorem State.freeJob_portOut (n : Nat) : (s.freeJob n).portOut = s.portOut := rfl
@[simp] theorem State.freeJob_hostOut (n : Nat) : (s.freeJob n).hostOut = s.hostOut := rfl
@[simp] theorem State.freeJob_work (n : Nat) : (s.freeJob n).work = s.work := rfl
@[simp] theorem State.freeJob_pending (n : Nat) : (s.freeJob n).pending = s.pending := rfl

@[simp] theorem State.enroll_aisles (j : Job) : (s.enroll j).aisles = s.aisles := rfl
@[simp] theorem State.enroll_locs (j : Job) : (s.enroll j).locs = s.locs := rfl
@[simp] theorem State.enroll_originators (j : Job) : (s.enroll j).originators = s.originators := rfl
@[simp] theorem State.enroll_pool (j : Job) : (s.enroll j).pool = s.pool ++ [{ j with adm := s.admNext }] := rfl
@[simp] theorem State.enroll_admNext (j : Job) : (s.enroll j).admNext = s.admNext + 1 := rfl
@[simp] theorem State.enroll_intNext (j : Job) : (s.enroll j).intNext = s.intNext := rfl
@[simp] theorem State.enroll_stations (j : Job) : (s.enroll j).stations = s.stations := rfl
@[simp] theorem State.enroll_groups (j : Job) : (s.enroll j).groups = s.groups := rfl
@[simp] theorem State.enroll_holds (j : Job) : (s.enroll j).holds = s.holds := rfl
@[simp] theorem State.enroll_cranes (j : Job) : (s.enroll j).cranes = s.cranes := rfl
@[simp] theorem State.enroll_readyOrder (j : Job) : (s.enroll j).readyOrder = s.readyOrder := rfl
@[simp] theorem State.enroll_passDue (j : Job) : (s.enroll j).passDue = s.passDue := rfl
@[simp] theorem State.enroll_passRun (j : Job) : (s.enroll j).passRun = s.passRun := rfl
@[simp] theorem State.enroll_mode (j : Job) : (s.enroll j).mode = s.mode := rfl
@[simp] theorem State.enroll_policy (j : Job) : (s.enroll j).policy = s.policy := rfl
@[simp] theorem State.enroll_link (j : Job) : (s.enroll j).link = s.link := rfl
@[simp] theorem State.enroll_portOut (j : Job) : (s.enroll j).portOut = s.portOut := rfl
@[simp] theorem State.enroll_hostOut (j : Job) : (s.enroll j).hostOut = s.hostOut := rfl
@[simp] theorem State.enroll_work (j : Job) : (s.enroll j).work = s.work := rfl
@[simp] theorem State.enroll_pending (j : Job) : (s.enroll j).pending = s.pending := rfl

@[simp] theorem State.updStation_aisles (n : Nat) (f : Station → Station) : (s.updStation n f).aisles = s.aisles := rfl
@[simp] theorem State.updStation_locs (n : Nat) (f : Station → Station) : (s.updStation n f).locs = s.locs := rfl
@[simp] theorem State.updStation_originators (n : Nat) (f : Station → Station) : (s.updStation n f).originators = s.originators := rfl
@[simp] theorem State.updStation_pool (n : Nat) (f : Station → Station) : (s.updStation n f).pool = s.pool := rfl
@[simp] theorem State.updStation_admNext (n : Nat) (f : Station → Station) : (s.updStation n f).admNext = s.admNext := rfl
@[simp] theorem State.updStation_intNext (n : Nat) (f : Station → Station) : (s.updStation n f).intNext = s.intNext := rfl
@[simp] theorem State.updStation_stations (n : Nat) (f : Station → Station) : (s.updStation n f).stations = tableMod n f s.stations := rfl
@[simp] theorem State.updStation_groups (n : Nat) (f : Station → Station) : (s.updStation n f).groups = s.groups := rfl
@[simp] theorem State.updStation_holds (n : Nat) (f : Station → Station) : (s.updStation n f).holds = s.holds := rfl
@[simp] theorem State.updStation_cranes (n : Nat) (f : Station → Station) : (s.updStation n f).cranes = s.cranes := rfl
@[simp] theorem State.updStation_readyOrder (n : Nat) (f : Station → Station) : (s.updStation n f).readyOrder = s.readyOrder := rfl
@[simp] theorem State.updStation_passDue (n : Nat) (f : Station → Station) : (s.updStation n f).passDue = s.passDue := rfl
@[simp] theorem State.updStation_passRun (n : Nat) (f : Station → Station) : (s.updStation n f).passRun = s.passRun := rfl
@[simp] theorem State.updStation_mode (n : Nat) (f : Station → Station) : (s.updStation n f).mode = s.mode := rfl
@[simp] theorem State.updStation_policy (n : Nat) (f : Station → Station) : (s.updStation n f).policy = s.policy := rfl
@[simp] theorem State.updStation_link (n : Nat) (f : Station → Station) : (s.updStation n f).link = s.link := rfl
@[simp] theorem State.updStation_portOut (n : Nat) (f : Station → Station) : (s.updStation n f).portOut = s.portOut := rfl
@[simp] theorem State.updStation_hostOut (n : Nat) (f : Station → Station) : (s.updStation n f).hostOut = s.hostOut := rfl
@[simp] theorem State.updStation_work (n : Nat) (f : Station → Station) : (s.updStation n f).work = s.work := rfl
@[simp] theorem State.updStation_pending (n : Nat) (f : Station → Station) : (s.updStation n f).pending = s.pending := rfl

@[simp] theorem State.reserveSource_aisles (n : Nat) (l : Loc) (o : Origin) : (s.reserveSource n l o).aisles = s.aisles := rfl
@[simp] theorem State.reserveSource_locs (n : Nat) (l : Loc) (o : Origin) : (s.reserveSource n l o).locs = (s.occupy l .outbound (s.loc l).pallet).locs := rfl
@[simp] theorem State.reserveSource_originators (n : Nat) (l : Loc) (o : Origin) : (s.reserveSource n l o).originators = s.originators := rfl
@[simp] theorem State.reserveSource_pool (n : Nat) (l : Loc) (o : Origin) : (s.reserveSource n l o).pool = (s.updJob n (fun j => { j with srcRes := some o })).pool := rfl
@[simp] theorem State.reserveSource_admNext (n : Nat) (l : Loc) (o : Origin) : (s.reserveSource n l o).admNext = s.admNext := rfl
@[simp] theorem State.reserveSource_intNext (n : Nat) (l : Loc) (o : Origin) : (s.reserveSource n l o).intNext = s.intNext := rfl
@[simp] theorem State.reserveSource_stations (n : Nat) (l : Loc) (o : Origin) : (s.reserveSource n l o).stations = s.stations := rfl
@[simp] theorem State.reserveSource_groups (n : Nat) (l : Loc) (o : Origin) : (s.reserveSource n l o).groups = s.groups := rfl
@[simp] theorem State.reserveSource_holds (n : Nat) (l : Loc) (o : Origin) : (s.reserveSource n l o).holds = s.holds := rfl
@[simp] theorem State.reserveSource_cranes (n : Nat) (l : Loc) (o : Origin) : (s.reserveSource n l o).cranes = s.cranes := rfl
@[simp] theorem State.reserveSource_readyOrder (n : Nat) (l : Loc) (o : Origin) : (s.reserveSource n l o).readyOrder = s.readyOrder := rfl
@[simp] theorem State.reserveSource_passDue (n : Nat) (l : Loc) (o : Origin) : (s.reserveSource n l o).passDue = s.passDue := rfl
@[simp] theorem State.reserveSource_passRun (n : Nat) (l : Loc) (o : Origin) : (s.reserveSource n l o).passRun = s.passRun := rfl
@[simp] theorem State.reserveSource_mode (n : Nat) (l : Loc) (o : Origin) : (s.reserveSource n l o).mode = s.mode := rfl
@[simp] theorem State.reserveSource_policy (n : Nat) (l : Loc) (o : Origin) : (s.reserveSource n l o).policy = s.policy := rfl
@[simp] theorem State.reserveSource_link (n : Nat) (l : Loc) (o : Origin) : (s.reserveSource n l o).link = s.link := rfl
@[simp] theorem State.reserveSource_portOut (n : Nat) (l : Loc) (o : Origin) : (s.reserveSource n l o).portOut = s.portOut := rfl
@[simp] theorem State.reserveSource_hostOut (n : Nat) (l : Loc) (o : Origin) : (s.reserveSource n l o).hostOut = s.hostOut := rfl
@[simp] theorem State.reserveSource_work (n : Nat) (l : Loc) (o : Origin) : (s.reserveSource n l o).work = (s.touchPair l).work := rfl
@[simp] theorem State.reserveSource_pending (n : Nat) (l : Loc) (o : Origin) : (s.reserveSource n l o).pending = s.pending := rfl

@[simp] theorem State.reserveDest_aisles (n : Nat) (l : Loc) (p : Nat) (o : Origin) : (s.reserveDest n l p o).aisles = s.aisles := rfl
@[simp] theorem State.reserveDest_locs (n : Nat) (l : Loc) (p : Nat) (o : Origin) : (s.reserveDest n l p o).locs = (s.occupy l .inbound (some p)).locs := rfl
@[simp] theorem State.reserveDest_originators (n : Nat) (l : Loc) (p : Nat) (o : Origin) : (s.reserveDest n l p o).originators = s.originators := rfl
@[simp] theorem State.reserveDest_pool (n : Nat) (l : Loc) (p : Nat) (o : Origin) : (s.reserveDest n l p o).pool = (s.updJob n (fun j => { j with dest := some l, dstRes := some { kind := .location, origin := o } })).pool := rfl
@[simp] theorem State.reserveDest_admNext (n : Nat) (l : Loc) (p : Nat) (o : Origin) : (s.reserveDest n l p o).admNext = s.admNext := rfl
@[simp] theorem State.reserveDest_intNext (n : Nat) (l : Loc) (p : Nat) (o : Origin) : (s.reserveDest n l p o).intNext = s.intNext := rfl
@[simp] theorem State.reserveDest_stations (n : Nat) (l : Loc) (p : Nat) (o : Origin) : (s.reserveDest n l p o).stations = s.stations := rfl
@[simp] theorem State.reserveDest_groups (n : Nat) (l : Loc) (p : Nat) (o : Origin) : (s.reserveDest n l p o).groups = s.groups := rfl
@[simp] theorem State.reserveDest_holds (n : Nat) (l : Loc) (p : Nat) (o : Origin) : (s.reserveDest n l p o).holds = s.holds := rfl
@[simp] theorem State.reserveDest_cranes (n : Nat) (l : Loc) (p : Nat) (o : Origin) : (s.reserveDest n l p o).cranes = s.cranes := rfl
@[simp] theorem State.reserveDest_readyOrder (n : Nat) (l : Loc) (p : Nat) (o : Origin) : (s.reserveDest n l p o).readyOrder = s.readyOrder := rfl
@[simp] theorem State.reserveDest_passDue (n : Nat) (l : Loc) (p : Nat) (o : Origin) : (s.reserveDest n l p o).passDue = s.passDue := rfl
@[simp] theorem State.reserveDest_passRun (n : Nat) (l : Loc) (p : Nat) (o : Origin) : (s.reserveDest n l p o).passRun = s.passRun := rfl
@[simp] theorem State.reserveDest_mode (n : Nat) (l : Loc) (p : Nat) (o : Origin) : (s.reserveDest n l p o).mode = s.mode := rfl
@[simp] theorem State.reserveDest_policy (n : Nat) (l : Loc) (p : Nat) (o : Origin) : (s.reserveDest n l p o).policy = s.policy := rfl
@[simp] theorem State.reserveDest_link (n : Nat) (l : Loc) (p : Nat) (o : Origin) : (s.reserveDest n l p o).link = s.link := rfl
@[simp] theorem State.reserveDest_portOut (n : Nat) (l : Loc) (p : Nat) (o : Origin) : (s.reserveDest n l p o).portOut = s.portOut := rfl
@[simp] theorem State.reserveDest_hostOut (n : Nat) (l : Loc) (p : Nat) (o : Origin) : (s.reserveDest n l p o).hostOut = s.hostOut := rfl
@[simp] theorem State.reserveDest_work (n : Nat) (l : Loc) (p : Nat) (o : Origin) : (s.reserveDest n l p o).work = (s.touchPair l).work := rfl
@[simp] theorem State.reserveDest_pending (n : Nat) (l : Loc) (p : Nat) (o : Origin) : (s.reserveDest n l p o).pending = s.pending := rfl

@[simp] theorem State.recordPosition_aisles (k : Nat) (p : Point) : (s.recordPosition k p).aisles = s.aisles := by
  simp [State.recordPosition]
@[simp] theorem State.recordPosition_locs (k : Nat) (p : Point) : (s.recordPosition k p).locs = s.locs := by
  simp [State.recordPosition]
@[simp] theorem State.recordPosition_originators (k : Nat) (p : Point) : (s.recordPosition k p).originators = s.originators := by
  simp [State.recordPosition]
@[simp] theorem State.recordPosition_pool (k : Nat) (p : Point) : (s.recordPosition k p).pool = s.pool := by
  simp [State.recordPosition]
@[simp] theorem State.recordPosition_admNext (k : Nat) (p : Point) : (s.recordPosition k p).admNext = s.admNext := by
  simp [State.recordPosition]
@[simp] theorem State.recordPosition_intNext (k : Nat) (p : Point) : (s.recordPosition k p).intNext = s.intNext := by
  simp [State.recordPosition]
@[simp] theorem State.recordPosition_stations (k : Nat) (p : Point) : (s.recordPosition k p).stations = s.stations := by
  simp [State.recordPosition]
@[simp] theorem State.recordPosition_groups (k : Nat) (p : Point) : (s.recordPosition k p).groups = s.groups := by
  simp [State.recordPosition]
@[simp] theorem State.recordPosition_holds (k : Nat) (p : Point) : (s.recordPosition k p).holds = s.holds := by
  simp [State.recordPosition]
@[simp] theorem State.recordPosition_cranes (k : Nat) (p : Point) : (s.recordPosition k p).cranes = (s.updCrane k (fun c => { c with pos := some p })).cranes := rfl
@[simp] theorem State.recordPosition_readyOrder (k : Nat) (p : Point) : (s.recordPosition k p).readyOrder = s.readyOrder := by
  simp [State.recordPosition]
@[simp] theorem State.recordPosition_passDue (k : Nat) (p : Point) : (s.recordPosition k p).passDue = s.passDue := by
  simp [State.recordPosition]
@[simp] theorem State.recordPosition_passRun (k : Nat) (p : Point) : (s.recordPosition k p).passRun = s.passRun := by
  simp [State.recordPosition]
@[simp] theorem State.recordPosition_mode (k : Nat) (p : Point) : (s.recordPosition k p).mode = s.mode := by
  simp [State.recordPosition]
@[simp] theorem State.recordPosition_policy (k : Nat) (p : Point) : (s.recordPosition k p).policy = s.policy := by
  simp [State.recordPosition]
@[simp] theorem State.recordPosition_link (k : Nat) (p : Point) : (s.recordPosition k p).link = s.link := by
  simp [State.recordPosition]
@[simp] theorem State.recordPosition_portOut (k : Nat) (p : Point) : (s.recordPosition k p).portOut = s.portOut := by
  simp [State.recordPosition]
@[simp] theorem State.recordPosition_hostOut (k : Nat) (p : Point) : (s.recordPosition k p).hostOut = s.hostOut := by
  simp [State.recordPosition]
@[simp] theorem State.recordPosition_work (k : Nat) (p : Point) : (s.recordPosition k p).work = s.work := by
  simp [State.recordPosition]
@[simp] theorem State.recordPosition_pending (k : Nat) (p : Point) : (s.recordPosition k p).pending = s.pending := by
  simp [State.recordPosition]

end Sys2Proof.Machine
end

