-- ==== Sys2Proof/Laws/Tables.lean ====
section
/-! SUPPORT. Tables, and the canonical form of the location table: every operation on it keeps the form. -/

namespace Sys2Proof.Machine

variable {α : Type}

@[simp] theorem tableGet_nil (k : Nat) : tableGet (α := α) k [] = none := rfl

theorem tableGet_cons (k j : Nat) (v : α) (t : Assoc α) :
    tableGet k ((j, v) :: t) = if j = k then some v else tableGet k t := rfl

@[simp] theorem tableGet_tablePut (k : Nat) (v : α) (t : Assoc α) : tableGet k (tablePut k v t) = some v := by
  induction t with
  | nil => simp [tablePut, tableGet]
  | cons e t ih =>
    obtain ⟨j, w⟩ := e
    simp only [tablePut]
    split
    · simp [tableGet]
    · split
      · simp [tableGet]
      · rename_i h
        simp [tableGet, Ne.symm h, ih]

theorem tableGet_tablePut_other {n k : Nat} (h : n ≠ k) (v : α) (t : Assoc α) :
    tableGet n (tablePut k v t) = tableGet n t := by
  induction t with
  | nil => simp [tablePut, tableGet, Ne.symm h]
  | cons e t ih =>
    obtain ⟨j, w⟩ := e
    simp only [tablePut]
    split
    · simp [tableGet, Ne.symm h]
    · split
      · rename_i hk
        subst hk
        simp [tableGet, Ne.symm h]
      · simp [tableGet, ih]

/-- A filter that looks at the keys alone keeps or drops an entry by its key. -/
theorem tableGet_filter (p : Nat → Bool) (k : Nat) (t : Assoc α) :
    tableGet k (t.filter (fun e => p e.1)) = if p k then tableGet k t else none := by
  induction t with
  | nil => simp
  | cons e t ih =>
    obtain ⟨j, w⟩ := e
    by_cases hj : j = k
    · subst hj
      by_cases hp : p j
      · simp [tableGet, hp]
      · simp [hp] at ih ⊢
        exact ih
    · by_cases hp : p j <;> simp [tableGet, hp, hj, ih]

@[simp] theorem tableGet_tableDrop (k : Nat) (t : Assoc α) : tableGet k (tableDrop k t) = none := by
  simpa [tableDrop] using tableGet_filter (fun j => j != k) k t

theorem tableGet_tableDrop_other {n k : Nat} (h : n ≠ k) (t : Assoc α) : tableGet n (tableDrop k t) = tableGet n t := by
  simpa [tableDrop, h] using tableGet_filter (fun j => j != k) n t

theorem tableGet_map (f : α → α) (k : Nat) (t : Assoc α) :
    tableGet k (t.map (fun e => (e.1, f e.2))) = (tableGet k t).map f := by
  induction t with
  | nil => simp
  | cons e t ih =>
    obtain ⟨j, w⟩ := e
    by_cases hj : j = k <;> simp [tableGet, hj, ih]

theorem tableGet_tableMod (n k : Nat) (f : α → α) (t : Assoc α) :
    tableGet n (tableMod k f t) = if n = k then (tableGet n t).map f else tableGet n t := by
  induction t with
  | nil => simp [tableMod]
  | cons e t ih =>
    obtain ⟨j, w⟩ := e
    simp only [tableMod] at ih
    by_cases hj : j = n
    · subst hj
      by_cases hk : j = k <;> simp [tableMod, tableGet, hk]
    · by_cases hk : j = k <;> simp_all [tableMod, tableGet]

theorem mem_of_tableGet {k : Nat} {v : α} {t : Assoc α} (h : tableGet k t = some v) : (k, v) ∈ t := by
  induction t with
  | nil => simp at h
  | cons e t ih =>
    obtain ⟨j, w⟩ := e
    rw [tableGet_cons] at h
    split at h
    · rename_i hj
      simp_all
    · exact List.mem_cons_of_mem _ (ih h)

/-! ## Rising keys -/

theorem mem_tablePut {k : Nat} {v : α} {t : Assoc α} {e : Nat × α} (h : e ∈ tablePut k v t) : e = (k, v) ∨ e ∈ t := by
  induction t with
  | nil => simpa [tablePut] using h
  | cons x t ih =>
    obtain ⟨j, w⟩ := x
    simp only [tablePut] at h
    split at h
    · simpa using h
    · split at h
      · rcases List.mem_cons.mp h with h | h
        · exact .inl h
        · exact .inr (List.mem_cons_of_mem _ h)
      · rcases List.mem_cons.mp h with h | h
        · exact .inr (by simp [h])
        · rcases ih h with h | h
          · exact .inl h
          · exact .inr (List.mem_cons_of_mem _ h)

theorem tableRising_put (k : Nat) (v : α) {t : Assoc α} (h : tableRising t) : tableRising (tablePut k v t) := by
  induction t with
  | nil => simp [tablePut, tableRising]
  | cons x t ih =>
    obtain ⟨j, w⟩ := x
    simp only [tableRising, List.map_cons, List.pairwise_cons, List.mem_map] at h
    simp only [tablePut]
    split
    · rename_i hk
      simp only [tableRising, List.map_cons, List.pairwise_cons, List.mem_cons, List.mem_map]
      refine ⟨?_, h⟩
      rintro a (rfl | ha)
      · exact hk
      · exact lt_trans hk (h.1 a ha)
    · split
      · rename_i hk
        subst hk
        simpa [tableRising] using h
      · rename_i h1 h2
        simp only [tableRising, List.map_cons, List.pairwise_cons, List.mem_map]
        refine ⟨?_, ih h.2⟩
        rintro a ⟨e, he, rfl⟩
        rcases mem_tablePut he with rfl | he
        · dsimp only
          omega
        · exact h.1 _ ⟨e, he, rfl⟩

theorem tableRising_filter (p : Nat × α → Bool) {t : Assoc α} (h : tableRising t) : tableRising (t.filter p) :=
  List.Pairwise.sublist (List.Sublist.map _ List.filter_sublist) h

theorem tableRising_map (f : Nat × α → α) {t : Assoc α} (h : tableRising t) :
    tableRising (t.map (fun e => (e.1, f e))) := by
  simpa [tableRising, List.map_map, Function.comp_def] using h

/-! ## The location table (R6) -/

theorem locsWf_filter (p : Nat × LocRec → Bool) {t : Assoc LocRec} (h : locsWf t) : locsWf (t.filter p) :=
  ⟨tableRising_filter p h.1, fun e he => h.2 e (List.mem_filter.mp he).1⟩

theorem locsWf_put (k : Nat) (r : LocRec) {t : Assoc LocRec} (h : locsWf t) : locsWf (locsPut k r t) := by
  unfold locsPut
  split
  · exact locsWf_filter _ h
  · rename_i hr
    refine ⟨tableRising_put k r h.1, fun e he => ?_⟩
    rcases mem_tablePut he with rfl | he
    · exact hr
    · exact h.2 e he

/-- The one write of the location table keeps its canonical form. -/
theorem State.setLoc_wf (s : State) (l : Loc) (r : LocRec) (h : locsWf s.locs) : locsWf (s.setLoc l r).locs :=
  locsWf_put _ _ h

theorem State.occupy_wf (s : State) (l : Loc) (o : Occupancy) (p : Option Nat) (h : locsWf s.locs) :
    locsWf (s.occupy l o p).locs :=
  locsWf_put _ _ h

theorem LocRec.restarted_listed {r : LocRec} (h : r ≠ LocRec.created) : r.restarted ≠ LocRec.created := by
  obtain ⟨occ, pallet, height, attrs⟩ := r
  cases occ <;> simp_all [LocRec.restarted, LocRec.created]

/-- RESTART's pass over the location table keeps its canonical form (R22). -/
theorem locsWf_restarted {t : Assoc LocRec} (h : locsWf t) : locsWf (t.map (fun e => (e.1, e.2.restarted))) := by
  refine ⟨tableRising_map (fun e => e.2.restarted) h.1, ?_⟩
  intro e he
  obtain ⟨x, hx, rfl⟩ := List.mem_map.mp he
  exact LocRec.restarted_listed (h.2 x hx)

theorem tableGet_locsPut (k : Nat) (r : LocRec) (t : Assoc LocRec) : (tableGet k (locsPut k r t)).getD LocRec.created = r := by
  unfold locsPut
  split
  · rename_i h
    simp [h]
  · simp

theorem tableGet_locsPut_other {n k : Nat} (h : n ≠ k) (r : LocRec) (t : Assoc LocRec) :
    tableGet n (locsPut k r t) = tableGet n t := by
  unfold locsPut
  split
  · exact tableGet_tableDrop_other h t
  · exact tableGet_tablePut_other h r t

/-- A location reads as it was written. -/
@[simp] theorem State.loc_setLoc (s : State) (l : Loc) (r : LocRec) : (s.setLoc l r).loc l = r := tableGet_locsPut _ _ _

/-- A write leaves every location with another key alone. -/
theorem State.loc_setLoc_other (s : State) {l m : Loc} (h : locKey m ≠ locKey l) (r : LocRec) :
    (s.setLoc l r).loc m = s.loc m := by
  simp [State.loc, State.setLoc, tableGet_locsPut_other h]

@[simp] theorem State.loc_occupy (s : State) (l : Loc) (o : Occupancy) (p : Option Nat) :
    (s.occupy l o p).loc l = { s.loc l with occ := o, pallet := p } := tableGet_locsPut _ _ _

theorem State.loc_occupy_other (s : State) {l m : Loc} (h : locKey m ≠ locKey l) (o : Occupancy) (p : Option Nat) :
    (s.occupy l o p).loc m = s.loc m :=
  State.loc_setLoc_other s h _

/-! ## Keys and locations -/

theorem locCode_lt {l : Loc} (h : l.inRanges) : locCode l < 12288 := by
  obtain ⟨h1, h2, h3, h4⟩ := h
  unfold locCode
  rcases l with ⟨a, sd, c, v, d⟩
  cases sd <;> cases d <;> simp_all [Side.code, Depth.code] <;> omega

/-- The key gives its location back. -/
theorem keyLoc_locKey {l : Loc} (h : l.inRanges) : keyLoc (locKey l) = l := by
  have hc := locCode_lt h
  obtain ⟨h1, h2, h3, h4⟩ := h
  rcases l with ⟨a, sd, c, v, d⟩
  simp only [keyLoc, locKey, locCode, Loc.mk.injEq] at *
  cases sd <;> cases d <;> simp only [Side.code, Depth.code] at * <;> refine ⟨?_, ?_, ?_, ?_, ?_⟩ <;>
    first
      | omega
      | exact if_pos (by omega)
      | exact if_neg (by omega)

/-- Two addresses in range with one key are one location. -/
theorem locKey_inj {l m : Loc} (hl : l.inRanges) (hm : m.inRanges) (h : locKey l = locKey m) : l = m := by
  rw [← keyLoc_locKey hl, ← keyLoc_locKey hm, h]

theorem locKey_aisle {l : Loc} (h : l.inRanges) : locKey l / 16384 = l.aisle := by
  have := locCode_lt h
  unfold locKey
  omega

end Sys2Proof.Machine
end

