-- ==== Sys2Proof/Laws/Ops.lean ====
section
/-! SUPPORT. What each shared operation can do: crane records, the job pool, the output queue, the end of an event and
the way of a request. -/

namespace Sys2Proof.Machine

/-! ## Reading by way of a field -/

theorem State.loc_congr {s t : State} (h : t.locs = s.locs) (l : Loc) : t.loc l = s.loc l := by simp [State.loc, h]
theorem State.aisle_congr {s t : State} (h : t.aisles = s.aisles) (n : Nat) : t.aisle n = s.aisle n := by simp [State.aisle, h]
theorem State.crane_congr {s t : State} (h : t.cranes = s.cranes) (k : Nat) : t.crane k = s.crane k := by simp [State.crane, h]
theorem State.job_congr {s t : State} (h : t.pool = s.pool) (n : Nat) : t.job n = s.job n := by simp [State.job, h]
theorem State.station_congr {s t : State} (h : t.stations = s.stations) (n : Nat) : t.station n = s.station n := by
  simp [State.station, h]
theorem State.group_congr {s t : State} (h : t.groups = s.groups) (n : Nat) : t.group n = s.group n := by
  simp [State.group, h]

/-! ## Crane records -/

/-- A crane's record after a change of crane `k`'s. -/
theorem State.crane_updCrane (s : State) (k j : Nat) (f : Crane → Crane) :
    (s.updCrane k f).crane j = if j = k ∧ 1 ≤ k ∧ k ≤ 12 then f (s.crane k) else s.crane j := by
  unfold State.updCrane State.crane
  by_cases hk : 1 ≤ k ∧ k ≤ 12
  · by_cases hj : j = k
    · subst hj
      simp [hk]
    · have h1 : ¬ (j = k ∧ 1 ≤ k ∧ k ≤ 12) := fun h => hj h.1
      rw [if_neg h1]
      by_cases hj2 : 1 ≤ j ∧ j ≤ 12
      · have hne : k - 1 ≠ j - 1 := by omega
        simp [hk, hj2, Vector.getElem_set_ne, hne]
      · simp [hj2]
  · simp [hk]

@[simp] theorem State.crane_updCrane_self (s : State) {k : Nat} (h : 1 ≤ k ∧ k ≤ 12) (f : Crane → Crane) :
    (s.updCrane k f).crane k = f (s.crane k) := by
  simp [State.crane_updCrane, h]

theorem State.crane_updCrane_other (s : State) {k j : Nat} (h : j ≠ k) (f : Crane → Crane) :
    (s.updCrane k f).crane j = s.crane j := by
  simp [State.crane_updCrane, h]

/-- A change of a record that leaves some part of it alone leaves that part of every crane alone. -/
theorem State.crane_updCrane_part {β : Type} (g : Crane → β) (s : State) (k j : Nat) {f : Crane → Crane}
    (h : ∀ c, g (f c) = g c) : g ((s.updCrane k f).crane j) = g (s.crane j) := by
  rw [State.crane_updCrane]
  split
  · rename_i hj
    rw [h, hj.1]
  · rfl

/-- Every record changed alike. A number outside 1..12 reads as a record after power-on. -/
theorem State.crane_map (s : State) (f : Crane → Crane) {k : Nat} (h : 1 ≤ k ∧ k ≤ 12) :
    State.crane { s with cranes := s.cranes.map f } k = f (s.crane k) := by
  simp [State.crane, h]

theorem State.crane_outside (s : State) {k : Nat} (h : ¬ (1 ≤ k ∧ k ≤ 12)) : s.crane k = Crane.reset := by
  simp [State.crane, h]

/-- A configured crane has a number of 1..12. -/
theorem State.crane_number {s : State} {k : Nat} (h : (s.crane k).configured = true) : 1 ≤ k ∧ k ≤ 12 := by
  by_contra hk
  rw [State.crane_outside s hk] at h
  exact absurd h (by decide)

/-! ## The output queue (R177, R178) -/

/-- A report is queued while fewer than 127 wait, and counted as lost otherwise. -/
theorem Link.report_cases (l : Link) (r : Report) :
    (l.reports < 127 ∧ l.report r = l.enqueue (.report r)) ∨
      (127 ≤ l.reports ∧ l.report r = { l with lost := countUp l.lost }) := by
  unfold Link.report
  split
  · exact .inl ⟨‹_›, rfl⟩
  · exact .inr ⟨by omega, rfl⟩

/-- A telegram joins the tail, and the head is begun where host-ready allows. -/
theorem Link.enqueue_eq (l : Link) (t : Telegram) :
    l.enqueue t = { l with out := l.out ++ [t], begun := l.begun || l.hostReady } := by
  unfold Link.enqueue Link.start
  cases l.hostReady <;> simp

@[simp] theorem Link.enqueue_out (l : Link) (t : Telegram) : (l.enqueue t).out = l.out ++ [t] := by simp [Link.enqueue_eq]
@[simp] theorem Link.enqueue_ring (l : Link) (t : Telegram) : (l.enqueue t).ring = l.ring := by simp [Link.enqueue_eq]

@[simp] theorem Link.report_ring (l : Link) (r : Report) : (l.report r).ring = l.ring := by
  rcases l.report_cases r with ⟨-, h⟩ | ⟨-, h⟩ <;> simp [h]

@[simp] theorem Link.report_replyQueued (l : Link) (r : Report) : (l.report r).replyQueued = l.replyQueued := by
  rcases l.report_cases r with ⟨-, h⟩ | ⟨-, h⟩ <;> simp [h, Link.replyQueued, Telegram.isReply]

/-- A reply joins the tail with the two flags, and the overrun flag is clear after it. -/
theorem Link.answer_eq (l : Link) (code tag : Nat) (r : Result) (data : List Byte) :
    l.answer code tag r data =
      { l with
        out := l.out ++ [.reply code tag r l.overrun (decide (0 < l.lost)) data], overrun := false
        begun := l.begun || l.hostReady } := by
  simp [Link.answer, Link.enqueue_eq]

/-- A report keeps the queue's bounds. -/
theorem Link.report_bounded {l : Link} (r : Report) (h : l.bounded) : (l.report r).bounded := by
  rcases l.report_cases r with ⟨h1, h2⟩ | ⟨-, h2⟩
  · rw [h2, Link.enqueue_eq]
    unfold Link.bounded Link.reports at *
    simp [List.filter_append, Telegram.isReply] at *
    omega
  · rw [h2]
    exact h

/-- A reply into a queue that holds none keeps the queue's bounds. -/
theorem Link.answer_bounded {l : Link} (c t : Nat) (r : Result) (d : List Byte) (h : l.bounded) (hq : l.replyQueued = false) :
    (l.answer c t r d).bounded := by
  rw [Link.answer_eq]
  have h0 : l.out.filter Telegram.isReply = [] := by
    simpa [Link.replyQueued, List.filter_eq_nil_iff] using hq
  unfold Link.bounded Link.reports at *
  rw [List.filter_append, List.filter_append, h0]
  simp [List.filter_cons, Telegram.isReply] at *
  exact h.1

/-! ## The end of an event -/

/-- Where no re-examination is owed, the end of an event changes nothing. -/
theorem State.reexamine_quiet {s : State} (h : s.work = { pairs := [], allBusy := false }) : s.reexamine = s := by
  unfold State.reexamine State.reexamineRun
  simp [h, Work.isEmpty]

/-- With nothing to re-examine, a taken request ends with its reply. -/
theorem State.conclude_quiet {s : State} (hw : s.work = { pairs := [], allBusy := false })
    (code tag : Nat) (r : Result) (data : List Byte) : s.conclude code tag r data = s.answer (code + 0x80) tag r data := by
  unfold State.conclude
  rw [State.reexamine_quiet hw]

/-! ## Requests -/

/-- A request is taken at once where none waits and no reply is queued. -/
theorem State.present_taken {s : State} (hr : s.link.ring = []) (hq : s.link.replyQueued = false) (i : Instr)
    (run : State → State) : s.present i run = run s := by
  simp [State.present, State.canTake, hr, hq]

/-- The first failing check gives the result; with none it is OK. -/
theorem firstFail_ok (l : List (Bool × Result)) (h : firstFail l = .ok) (hne : ∀ e ∈ l, e.2 ≠ .ok) : ∀ e ∈ l, e.1 = false := by
  induction l with
  | nil => simp
  | cons e t ih =>
    obtain ⟨b, r⟩ := e
    cases b
    · intro e he
      rcases List.mem_cons.mp he with rfl | he
      · rfl
      · exact ih (by simpa [firstFail] using h) (fun e he => hne e (List.mem_cons_of_mem _ he)) e he
    · exact absurd (by simpa [firstFail] using h) (hne (true, r) (List.mem_cons_self ..))

end Sys2Proof.Machine
end

