-- ==== Sys2Proof/Laws/Moves.lean ====
section
/-! SUPPORT. What an event can do inside the controller, said once: every effect is a chain of the moves listed here, so
an invariant is proved by one case for each. The file holds the moves, what a chain of them keeps, and the lemmas of
the shared operations. -/

namespace Sys2Proof.Machine

/-- The part of a job record that never changes while it stands in the pool. -/
def Job.fixed (j : Job) : Nat × JobKind × Nat := (j.num, j.kind, j.adm)

/-- The part of a crane record that the rail arbiter and the configuration own. -/
def Crane.owned (c : Crane) : Option CraneCfg × Option Span := (c.cfg, c.claim)

/-- The claim of crane `k` is set. -/
def State.setClaim (s : State) (k : Nat) (v : Option Span) : State := s.updCrane k (fun c => { c with claim := v })

/-- A new claim within the old one. -/
def Span.within (v : Span) : Option Span → Prop
  | none => False
  | some w => w.lo ≤ v.lo ∧ v.hi ≤ w.hi

/-- One move inside an event. -/
inductive Move : State → State → Prop where
  /-- Whatever leaves aisles, locations, link unit, run state, groups, the two counters, the fixed part of jobs and the
  owned part of cranes as they were, and makes a pass due in RUN alone. -/
  | other (s t : State) (aisles : t.aisles = s.aisles) (locs : t.locs = s.locs) (link : t.link = s.link)
      (pool : t.pool.map Job.fixed = s.pool.map Job.fixed) (adm : t.admNext = s.admNext)
      (run : t.mode.run = s.mode.run) (due : t.passDue = true → s.passDue = true ∨ s.mode.run = .run)
      (cranes : ∀ k, (t.crane k).owned = (s.crane k).owned)
      (groups : t.groups = s.groups) (internal : t.intNext = s.intNext) : Move s t
  | setLoc (s : State) (l : Loc) (r : LocRec) : Move s (s.setLoc l r)
  | report (s : State) (r : Report) : Move s (s.report r)
  | freeJob (s : State) (n : Nat) : Move s (s.freeJob n)
  | admitHost (s : State) (j : Job) (kind : j.kind.isHost = true) (room : s.hostRoom = true)
      (number : hostNumber j.num = true) (fresh : s.job j.num = none) : Move s (s.enroll j)
  | admitInternal (s : State) (j : Job) (kind : j.kind.isHost = false) (room : s.internalRoom = true)
      (number : j.num = s.internalNumber) : Move s ({ s with intNext := nextInternal s.internalNumber }.enroll j)
  | setGroups (s : State) (v : Assoc Group) (sound : groupsSound s.groups → groupsSound v) : Move s { s with groups := v }
  | grant (s : State) (k : Nat) (v : Span) (test : s.grantTest k v = true) : Move s (s.setClaim k (some v))
  | shrink (s : State) (k : Nat) (v : Span) (inside : v.within (s.crane k).claim) : Move s (s.setClaim k (some v))
  | free (s : State) (k : Nat) (v : Span) (alone : s.twinUnknown k = true) (twin : s.inTwin k = true) :
      Move s (s.setClaim k (some v))
  | discard (s : State) (n : Nat) : Move s (s.discardClaims n)
  | discardOne (s : State) (k : Nat) : Move s (s.updCrane k (fun c => { c with claim := none, request := none }))

/-- A chain of moves. -/
abbrev Moves : State → State → Prop := Relation.ReflTransGen Move

theorem Moves.refl (s : State) : Moves s s := Relation.ReflTransGen.refl

theorem Move.one {s t : State} (h : Move s t) : Moves s t := Relation.ReflTransGen.single h

theorem Moves.by_move {s t u : State} (h : Moves s t) (m : Move t u) : Moves s u := h.tail m

/-- An invariant that every move keeps is kept by a chain. -/
theorem Moves.keep {P : State → Prop} (hm : ∀ s t, Move s t → P s → P t) {s t : State} (h : Moves s t) (hs : P s) : P t := by
  induction h with
  | refl => exact hs
  | tail _ m ih => exact hm _ _ m ih

/-- Something that every move leaves alone stays over a chain. -/
theorem Moves.same {β : Type} (g : State → β) (hm : ∀ s t, Move s t → g t = g s) {s t : State} (h : Moves s t) : g t = g s := by
  induction h with
  | refl => rfl
  | tail _ m ih => rw [hm _ _ m, ih]

/-! ## The moves as steps of a chain -/

section
variable {s t : State}

theorem Moves.setLoc (h : Moves s t) (l : Loc) (r : LocRec) : Moves s (t.setLoc l r) := h.by_move (.setLoc t l r)
theorem Moves.report (h : Moves s t) (r : Report) : Moves s (t.report r) := h.by_move (.report t r)
theorem Moves.freeJob (h : Moves s t) (n : Nat) : Moves s (t.freeJob n) := h.by_move (.freeJob t n)
theorem Moves.discardClaims (h : Moves s t) (n : Nat) : Moves s (t.discardClaims n) := h.by_move (.discard t n)

/-- A change outside the tables that the moves name. -/
theorem Moves.other (h : Moves s t) {u : State} (aisles : u.aisles = t.aisles) (locs : u.locs = t.locs)
    (link : u.link = t.link) (pool : u.pool = t.pool) (adm : u.admNext = t.admNext) (cranes : u.cranes = t.cranes)
    (run : u.mode.run = t.mode.run) (due : u.passDue = true → t.passDue = true ∨ t.mode.run = .run)
    (groups : u.groups = t.groups := by rfl) (internal : u.intNext = t.intNext := by rfl) : Moves s u :=
  h.by_move (.other t u aisles locs link (by rw [pool]) adm run due (fun k => by rw [State.crane_congr cranes]) groups internal)

/-- A change of the pool that keeps the fixed part of every job. -/
theorem Moves.poolMap (h : Moves s t) (f : Job → Job) (hf : ∀ j, (f j).fixed = j.fixed) :
    Moves s { t with pool := t.pool.map f } :=
  h.by_move (.other t _ rfl rfl rfl (by simp [Function.comp_def, hf]) rfl rfl Or.inl (fun _ => rfl) rfl rfl)

theorem Moves.updJob (h : Moves s t) (n : Nat) (f : Job → Job) (hf : ∀ j, (f j).fixed = j.fixed) : Moves s (t.updJob n f) :=
  h.poolMap _ (fun j => by split <;> simp [hf])

/-- A change of one job's record against the record as it stands, if its fixed part is the same. -/
theorem Moves.updJobOf (h : Moves s t) (n : Nat) (f : Job → Job)
    (hf : ∀ j ∈ t.pool, j.num = n → (f j).fixed = j.fixed) : Moves s (t.updJob n f) := by
  refine h.by_move (.other t _ rfl rfl rfl ?_ rfl rfl Or.inl (fun _ => rfl) rfl rfl)
  simp only [State.updJob, List.map_map]
  apply List.map_congr_left
  intro j hj
  by_cases hn : j.num = n
  · simp [hn, hf j hj hn]
  · simp [hn]

/-- A change of one crane's record that keeps its owned part. -/
theorem Moves.updCrane (h : Moves s t) (k : Nat) (f : Crane → Crane) (hf : ∀ c, (f c).owned = c.owned) :
    Moves s (t.updCrane k f) := by
  refine h.by_move (.other t _ ?_ ?_ ?_ ?_ ?_ ?_ (fun due => .inl (by simpa using due))
    (fun _ => State.crane_updCrane_part Crane.owned t _ _ hf) ?_ ?_)
  all_goals simp

/-- A change of every crane's record that keeps the owned parts. -/
theorem Moves.cranesMap (h : Moves s t) (f : Crane → Crane) (hf : ∀ c, (f c).owned = c.owned) :
    Moves s { t with cranes := t.cranes.map f } := by
  refine h.by_move (.other t _ rfl rfl rfl rfl rfl rfl Or.inl (fun k => ?_) rfl rfl)
  by_cases hk : 1 ≤ k ∧ k ≤ 12
  · rw [State.crane_map t f hk, hf]
  · rw [State.crane_outside _ hk, State.crane_outside t hk]

/-- A loop of chains is a chain. -/
theorem Moves.foldl {α : Type} {f : State → α → State} (hf : ∀ u a, Moves u (f u a)) (h : Moves s t) (l : List α) :
    Moves s (l.foldl f t) := by
  induction l generalizing t with
  | nil => exact h
  | cons a l ih => exact ih (h.trans (hf t a))

/-- A loop that also collects something. -/
theorem Moves.foldlPair {α β : Type} {f : State × β → α → State × β} (hf : ∀ p a, Moves p.1 (f p a).1) {p : State × β}
    (h : Moves s p.1) (l : List α) : Moves s (l.foldl f p).1 := by
  induction l generalizing p with
  | nil => exact h
  | cons a l ih => exact ih (h.trans (hf p a))

theorem Moves.ite {c : Prop} [Decidable c] {u v : State} (h1 : Moves s u) (h2 : Moves s v) : Moves s (if c then u else v) := by
  split
  · exact h1
  · exact h2

end

/-! ## What a chain keeps -/

/-- No event inside the controller makes or sends a reply. -/
theorem Move.replyQueued {s t : State} (h : Move s t) : t.link.replyQueued = s.link.replyQueued := by
  cases h <;> simp_all [State.setClaim, State.discardClaims]

theorem Moves.replyQueued {s t : State} (h : Moves s t) : t.link.replyQueued = s.link.replyQueued :=
  Moves.same (fun s => s.link.replyQueued) (fun _ _ m => m.replyQueued) h

/-- No event inside the controller changes the run state. -/
theorem Move.run {s t : State} (h : Move s t) : t.mode.run = s.mode.run := by
  cases h <;> simp_all [State.setClaim, State.discardClaims]

theorem Moves.run {s t : State} (h : Moves s t) : t.mode.run = s.mode.run :=
  Moves.same (fun s => s.mode.run) (fun _ _ m => m.run) h

/-- A pass becomes due in RUN alone (R68). -/
theorem Move.due {s t : State} (h : Move s t) (hd : s.passDue = true → s.mode.run = .run) :
    t.passDue = true → t.mode.run = .run := by
  rw [h.run]
  cases h with
  | other _ _ _ _ _ _ _ due =>
    intro ht
    rcases due ht with hs | hs
    · exact hd hs
    · exact hs
  | _ => simpa [State.setClaim, State.discardClaims] using hd

theorem Moves.due {s t : State} (h : Moves s t) (hd : s.passDue = true → s.mode.run = .run) :
    t.passDue = true → t.mode.run = .run :=
  Moves.keep (P := fun s => s.passDue = true → s.mode.run = .run) (fun _ _ m => m.due) h hd

end Sys2Proof.Machine
end

