-- ==== Sys2Proof/Laws/MovesRail.lean ====
section
/-! SUPPORT. The moves of the shared operations, of channel state changes, of the sending of legs and of the rail
arbiter. -/

namespace Sys2Proof.Machine

theorem State.updCrane_updCrane (s : State) (k : Nat) (f g : Crane → Crane) :
    (s.updCrane k f).updCrane k g = s.updCrane k (fun c => g (f c)) := by
  unfold State.updCrane
  split <;> simp

section
variable {s t : State}

theorem Moves.touchPair (h : Moves s t) (l : Loc) : Moves s (t.touchPair l) := h.other rfl rfl rfl rfl rfl rfl rfl Or.inl
theorem Moves.occupy (h : Moves s t) (l : Loc) (o : Occupancy) (p : Option Nat) : Moves s (t.occupy l o p) :=
  (h.setLoc l _).touchPair l
theorem Moves.trigger (h : Moves s t) : Moves s t.trigger :=
  h.other (State.trigger_aisles t) (State.trigger_locs t) (State.trigger_link t) (State.trigger_pool t)
    (State.trigger_admNext t) (State.trigger_cranes t) (congrArg Mode.run (State.trigger_mode t)) (by simp)
    (State.trigger_groups t) (State.trigger_intNext t)
theorem Moves.portSend (h : Moves s t) (k : Nat) (b : List Byte) : Moves s (t.portSend k b) := h.other rfl rfl rfl rfl rfl rfl rfl Or.inl
theorem Moves.updStation (h : Moves s t) (n : Nat) (f : Station → Station) : Moves s (t.updStation n f) :=
  h.other rfl rfl rfl rfl rfl rfl rfl Or.inl
theorem Moves.reserveSource (h : Moves s t) (n : Nat) (l : Loc) (o : Origin) : Moves s (t.reserveSource n l o) :=
  (h.occupy l _ _).updJob n _ (fun _ => by rfl)
theorem Moves.reserveDest (h : Moves s t) (n : Nat) (l : Loc) (p : Nat) (o : Origin) : Moves s (t.reserveDest n l p o) :=
  (h.occupy l _ _).updJob n _ (fun _ => by rfl)

theorem Moves.freeSource (h : Moves s t) (n : Nat) : Moves s (t.freeSource n) := by
  unfold State.freeSource
  repeat' split
  all_goals first | exact h | exact (h.occupy _ _ _).updJob n _ (fun _ => by rfl)

theorem Crane.entering_owned (c : Crane) (st : ChanState) (r : ChanReason) : (c.entering st r).owned = c.owned := by
  cases st <;> cases r <;> rfl

theorem Moves.chanTo (h : Moves s t) (k : Nat) (st : ChanState) (r : ChanReason) : Moves s (t.chanTo k st r) := by
  have h1 := h.updCrane k (fun c => c.entering st r) (fun c => c.entering_owned st r)
  have h2 : Moves s { t.updCrane k (fun c => c.entering st r) with 
      readyOrder := readyAfter t.readyOrder k st, passRun := t.passWithout k } :=
    h1.other rfl rfl rfl rfl rfl rfl rfl Or.inl
  unfold State.chanTo
  exact Moves.ite ((h2.report _).trigger) (h2.report _)

theorem Moves.activate (h : Moves s t) (g : Leg) : Moves s (t.activate g) := by
  unfold State.activate
  split
  · exact h
  · exact h.updJob _ _ (fun j => by split <;> rfl)

theorem Moves.sendLeg (h : Moves s t) (k : Nat) : Moves s (t.sendLeg k) := by
  unfold State.sendLeg
  split
  · exact h
  · dsimp only
    exact ((h.updCrane k _ (fun _ => by rfl)).portSend k _).activate _

theorem Moves.setClaim_grant (h : Moves s t) {k : Nat} {v : Span} (test : t.grantTest k v = true) :
    Moves s (t.updCrane k (fun c => { c with claim := some v, request := none })) := by
  have := (h.by_move (.grant t k v test)).updCrane k (fun c => { c with request := none }) (fun _ => rfl)
  simpa [State.setClaim, State.updCrane_updCrane] using this

theorem Moves.grant (h : Moves s t) {k : Nat} {v : Span} (test : t.grantTest k v = true) : Moves s (t.grant k v).1 := by
  unfold State.grant
  dsimp only
  split
  · exact ((h.setClaim_grant test).sendLeg k).trigger
  · exact (h.setClaim_grant test).sendLeg k

theorem Moves.evade (h : Moves s t) (k : Nat) : Moves s (t.evade k) := by
  unfold State.evade
  exact (h.updCrane k _ (fun _ => by rfl)).chanTo k _ _

theorem Moves.insertEvasion (h : Moves s t) (k : Nat) (g : Leg) : Moves s (t.insertEvasion k g) := by
  unfold State.insertEvasion
  exact h.updCrane k _ (fun _ => by rfl)

theorem Moves.mutualWait (h : Moves s t) (k j : Nat) : Moves s (t.mutualWait k j).1 := by
  unfold State.mutualWait
  dsimp only
  repeat' split
  all_goals first | exact h | exact h.insertEvasion _ _

theorem Moves.refuse (h : Moves s t) (k : Nat) : Moves s (t.refuse k).1 := by
  unfold State.refuse
  repeat' split
  all_goals first | exact h | exact h.evade _ | exact h.mutualWait _ _

theorem Moves.askRail (h : Moves s t) (k : Nat) : Moves s (t.askRail k).1 := by
  unfold State.askRail
  split
  · exact h
  · dsimp only
    split
    · rename_i test
      exact h.grant test
    · exact (h.updCrane k _ (fun _ => by rfl)).refuse k

theorem State.twinPasses_test {s : State} {k t : Nat} {w : Span} (h : s.twinPasses k = some (t, w)) :
    s.grantTest t w = true := by
  unfold State.twinPasses at h
  repeat' split at h
  all_goals simp_all

theorem Moves.retestRail (h : Moves s t) (k : Nat) : Moves s (t.retestRail k).1 := by
  unfold State.retestRail
  split
  · exact h
  · split
    · rename_i test
      split
      · exact h.grant test
      · rename_i hw
        dsimp only
        split
        · exact h.grant test
        · exact h.grant (State.twinPasses_test hw)
    · exact h.refuse k

theorem Moves.railStep (h : Moves s t) (op : RailOp) : Moves s (t.railStep op).1 := by
  cases op <;> unfold State.railStep <;> dsimp only <;> split <;>
    first | exact h.askRail _ | exact h.retestRail _ | exact h

theorem Moves.railRun (n : Nat) (ops : List RailOp) (h : Moves s t) : Moves s (State.railRun n ops t) := by
  induction n generalizing ops t with
  | zero => exact h
  | succ n ih =>
    cases ops with
    | nil => exact h
    | cons op ops => exact ih _ (h.railStep op)

theorem Moves.rail (h : Moves s t) (ops : List RailOp) : Moves s (t.rail ops) := h.railRun _ _

theorem Moves.enter (h : Moves s t) (k : Nat) (st : ChanState) (r : ChanReason) : Moves s (t.enter k st r) :=
  (h.chanTo k st r).rail _

theorem Moves.release (h : Moves s t) (k : Nat) : Moves s (t.release k) := h.trigger.rail _

theorem Moves.recordPosition (h : Moves s t) (k : Nat) (p : Point) : Moves s (t.recordPosition k p) :=
  h.updCrane k _ (fun _ => by rfl)

/-- A claim set to what it was changes nothing the moves watch. -/
theorem State.crane_setClaim_self (s : State) (k : Nat) : s.setClaim k (s.crane k).claim = s := by
  unfold State.setClaim State.updCrane
  split
  · rename_i hk
    have hc : s.crane k = s.cranes[k - 1]'(by omega) := by simp [State.crane, hk]
    have e : ({ s.cranes[k - 1]'(by omega) with claim := (s.crane k).claim } : Crane) = s.cranes[k - 1]'(by omega) := by
      rw [hc]
    simp only [e, Vector.set_getElem_self]
  · rfl

theorem Moves.claimAfter (h : Moves s t) (k x : Nat) (twin : t.inTwin k = true) :
    Moves s (t.setClaim k (t.claimAfter k (t.crane k).claim x)) := by
  unfold State.claimAfter
  split
  · rename_i v hv
    split
    · rename_i hx
      exact h.by_move (.shrink t k _ (by rw [hv]; exact hx))
    · split
      · rename_i test
        exact h.by_move (.grant t k _ test)
      · rw [← hv, State.crane_setClaim_self]
        exact h
  · rename_i hv
    split
    · rename_i test
      rcases Bool.or_eq_true _ _ ▸ test with test | test
      · exact h.by_move (.grant t k _ test)
      · exact h.by_move (.free t k _ test twin)
    · rw [← hv, State.crane_setClaim_self]
      exact h

theorem Moves.railReport (h : Moves s t) (k : Nat) (claim span : Option Span) (x : Nat) (o : Bool) :
    Moves s (t.railReport k claim span x o) := by
  unfold State.railReport
  split
  · rename_i twin
    have h1 : Moves s (t.updCrane k
        (fun c => { c with claim := if o = true then (t.crane k).claim else t.claimAfter k (t.crane k).claim x })) := by
      cases o
      · exact h.claimAfter k x twin
      · have := State.crane_setClaim_self t k
        unfold State.setClaim at this
        simpa [this] using h
    exact Moves.ite h1 (h1.release k)
  · exact h

theorem Moves.reportPosition (h : Moves s t) (k : Nat) (p : Point) (o : Bool) : Moves s (t.reportPosition k p o) :=
  (h.recordPosition k p).railReport k _ _ _ _

theorem Moves.goOn (h : Moves s t) (k : Nat) : Moves s (t.goOn k) := by
  unfold State.goOn
  repeat' split
  all_goals first | exact h | exact h.rail _ | exact h.sendLeg _

theorem Crane.withPending_owned (c : Crane) : c.withPending.owned = c.owned := rfl

theorem Moves.applyPending (h : Moves s t) (k : Nat) : Moves s (t.applyPending k) := by
  unfold State.applyPending
  split
  · exact (h.updCrane k _ Crane.withPending_owned).trigger
  · exact h

theorem Moves.writePark (h : Moves s t) (k : Nat) : Moves s (t.writePark k) := by
  unfold State.writePark
  exact h.updCrane k _ (fun _ => by rfl)

theorem Moves.startPark (h : Moves s t) (k : Nat) : Moves s (t.startPark k) := ((h.writePark k).enter k _ _).goOn k

theorem Moves.endCycle (h : Moves s t) (k : Nat) : Moves s (t.endCycle k) := by
  unfold State.endCycle
  have h1 := (h.updCrane k Crane.planless (fun _ => rfl)).applyPending k
  exact Moves.ite (h1.startPark k) (h1.enter k _ _)

theorem Moves.continueCrane (h : Moves s t) (k : Nat) : Moves s (t.continueCrane k) := by
  unfold State.continueCrane
  repeat' split
  all_goals first | exact h | exact h.endCycle _ | exact h.goOn _

end

end Sys2Proof.Machine
end

