-- ==== Sys2Proof/Laws/MovesPool.lean ====
section
/-! SUPPORT. The moves of the station unit, the job pool and the dispatch engine. -/

namespace Sys2Proof.Machine

section
variable {s t : State}

theorem Moves.retryPut (h : Moves s t) (n : Nat) : Moves s (t.retryPut n) := by
  unfold State.retryPut
  repeat' split
  all_goals first | exact h | exact (h.updCrane _ _ (fun _ => by rfl)).goOn _

theorem Moves.lowerPend (h : Moves s t) (n : Nat) : Moves s (t.lowerPend n) := ((h.updStation n _).trigger).retryPut n

theorem Moves.deliver (h : Moves s t) (n : Nat) : Moves s (t.deliver n) := ((h.updStation n _).trigger).retryPut n

theorem Moves.freeDest (h : Moves s t) (n : Nat) : Moves s (t.freeDest n) := by
  unfold State.freeDest
  repeat' split
  all_goals first
    | exact h
    | exact (h.updJob n _ (fun _ => by rfl)).lowerPend _
    | exact ((h.updJob n _ (fun _ => by rfl)).occupy _ _ _).trigger
    | exact h.updJob n _ (fun _ => by rfl)

theorem Moves.setHolds (h : Moves s t) (v : Assoc Hold) : Moves s { t with holds := v } := h.other rfl rfl rfl rfl rfl rfl rfl Or.inl
theorem Moves.setGroups (h : Moves s t) (v : Assoc Group) (sound : groupsSound t.groups → groupsSound v) :
    Moves s { t with groups := v } := h.by_move (.setGroups t v sound)
theorem Moves.setWork (h : Moves s t) (v : Work) : Moves s { t with work := v } := h.other rfl rfl rfl rfl rfl rfl rfl Or.inl
theorem Moves.setMode (h : Moves s t) (v : Mode) (run : v.run = t.mode.run) : Moves s { t with mode := v } :=
  h.other rfl rfl rfl rfl rfl rfl run Or.inl
theorem Moves.clearPassDue (h : Moves s t) : Moves s { t with passDue := false } :=
  h.other rfl rfl rfl rfl rfl rfl rfl (fun hd => by simp at hd)

theorem Moves.releaseHold (h : Moves s t) (gid d : Nat) : Moves s (t.releaseHold gid d) := by
  unfold State.releaseHold
  split
  · exact h
  · exact (h.setHolds _).goOn _

/-! ### The group table -/

theorem groupsSound_put {t : Assoc Group} {gid : Nat} {g : Group} (h : groupsSound t)
    (hg : g.settled.Pairwise (· < ·) ∧ ∀ x ∈ g.settled, g.d < x) : groupsSound (tablePut gid g t) := by
  intro e he
  rcases mem_tablePut he with rfl | he
  · exact hg
  · exact h e he

theorem groupsSound_drop {t : Assoc Group} (gid : Nat) (h : groupsSound t) : groupsSound (tableDrop gid t) :=
  fun e he => h e (List.mem_of_mem_filter he)

theorem mem_setPut {n x : Nat} {l : List Nat} (h : x ∈ setPut n l) : x = n ∨ x ∈ l := by
  induction l with
  | nil => simpa [setPut] using h
  | cons m t ih =>
    unfold setPut at h
    split at h
    · simpa using h
    · split at h
      · exact Or.inr h
      · rcases List.mem_cons.mp h with rfl | h
        · simp
        · rcases ih h with rfl | h <;> simp [*]

theorem setPut_rising {n : Nat} {l : List Nat} (h : l.Pairwise (· < ·)) : (setPut n l).Pairwise (· < ·) := by
  induction l with
  | nil => simp [setPut]
  | cons m t ih =>
    have h1 := List.pairwise_cons.mp h
    unfold setPut
    split
    · refine List.pairwise_cons.mpr ⟨fun x hx => ?_, h⟩
      rcases List.mem_cons.mp hx with rfl | hx
      · assumption
      · have := h1.1 x hx
        omega
    · split
      · exact h
      · refine List.pairwise_cons.mpr ⟨fun x hx => ?_, ih h1.2⟩
        rcases mem_setPut hx with rfl | hx
        · omega
        · exact h1.1 x hx

theorem advance_sound (d : Nat) {l : List Nat} (h : l.Pairwise (· < ·)) (hd : ∀ x ∈ l, d ≤ x) :
    (advance d l).2.Pairwise (· < ·) ∧ ∀ x ∈ (advance d l).2, (advance d l).1 < x := by
  induction l generalizing d with
  | nil => simp [advance]
  | cons q t ih =>
    have h1 := List.pairwise_cons.mp h
    unfold advance
    split
    · rename_i hq
      exact ih (d + 1) h1.2 (fun x hx => by have := h1.1 x hx; omega)
    · rename_i hq
      refine ⟨h, fun x hx => ?_⟩
      have h2 := hd q (by simp)
      rcases List.mem_cons.mp hx with rfl | hx
      · show d < x
        omega
      · have := h1.1 x hx
        show d < x
        omega

theorem Group.settle_sound {g : Group} (h : g.settled.Pairwise (· < ·) ∧ ∀ x ∈ g.settled, g.d < x) (p : Nat) :
    (g.settle p).settled.Pairwise (· < ·) ∧ ∀ x ∈ (g.settle p).settled, (g.settle p).d < x := by
  unfold Group.settle
  dsimp only
  split
  · exact advance_sound (g.d + 1) h.1 (fun x hx => h.2 x hx)
  · split
    · refine ⟨setPut_rising h.1, fun x hx => ?_⟩
      rcases mem_setPut hx with rfl | hx
      · assumption
      · exact h.2 x hx
    · exact h

theorem groupsSound_settle {gid p : Nat} {g : Group} (hg : t.group gid = some g) (h : groupsSound t.groups) :
    groupsSound (tablePut gid (g.settle p) t.groups) :=
  groupsSound_put h (Group.settle_sound (h _ (mem_of_tableGet hg)) p)

theorem Moves.settle (h : Moves s t) (gid p : Nat) : Moves s (t.settle gid p) := by
  unfold State.settle
  split
  · exact h
  · dsimp only
    split
    · exact ((h.setGroups _ (groupsSound_settle ‹_›)).trigger).releaseHold _ _
    · exact (h.setGroups _ (groupsSound_settle ‹_›)).trigger

theorem Moves.removeClosed (h : Moves s t) (gid : Nat) : Moves s (t.removeClosed gid) := by
  unfold State.removeClosed
  repeat' split
  all_goals first | exact h | exact h.setGroups _ (fun hg => groupsSound_drop _ hg)

theorem Moves.readyHead (h : Moves s t) (q : List Nat) : Moves s (t.readyHead q) := by
  unfold State.readyHead
  split
  · exact h
  · exact (h.updJob _ _ (fun _ => by rfl)).trigger

theorem Moves.leaveQueue (h : Moves s t) (st n : Nat) : Moves s (t.leaveQueue st n) := by
  unfold State.leaveQueue
  dsimp only
  repeat' split
  all_goals first | exact h | exact (h.updStation _ _).readyHead _ | exact h.updStation _ _

theorem Moves.unlink (h : Moves s t) (n : Nat) : Moves s (t.unlink n) := h.poolMap _ (fun j => by split <;> rfl)

theorem Moves.reportMaybe (h : Moves s t) (r : Option Report) : Moves s (t.reportMaybe r) := by
  cases r
  · exact h
  · exact h.report _

theorem Moves.leaveCore (h : Moves s t) (n : Nat) (o : JobEnd) : Moves s (t.leaveCore n o) := by
  unfold State.leaveCore
  split
  · exact h
  · rename_i j _
    have h1 := (h.freeSource n).freeDest n
    have h2 := Moves.ite (c := j.grouped = true) (h1.settle j.group j.position) h1
    have h3 := (h2.freeJob n).unlink n
    have h4 := Moves.ite (c := j.kind = .store) (h3.leaveQueue j.station n) h3
    have h5 := Moves.ite (c := j.grouped = true) (h4.removeClosed j.group) h4
    exact (h5.reportMaybe _).trigger

theorem Moves.setWaiting (h : Moves s t) (n : Nat) (r : WaitReason) (l : Nat) : Moves s (t.setWaiting n r l) := by
  unfold State.setWaiting
  exact h.updJob n _ (fun _ => by rfl)

theorem Moves.enroll (h : Moves s t) {j : Job} (kind : j.kind.isHost = true) (room : t.hostRoom = true)
    (number : hostNumber j.num = true) (fresh : t.job j.num = none) : Moves s (t.enroll j) :=
  h.by_move (.admitHost t j kind room number fresh)

theorem Moves.admitInternal (h : Moves s t) {j : Job} (kind : j.kind.isHost = false) (room : t.internalRoom = true)
    (number : j.num = t.internalNumber) : Moves s ({ t with intNext := nextInternal t.internalNumber }.enroll j) :=
  h.by_move (.admitInternal t j kind room number)

theorem Moves.createRelocation (h : Moves s t) (j : Job) (front : Loc) (room : t.internalRoom = true) :
    Moves s (t.createRelocation j front) := by
  have h2 := h.admitInternal (j := relocationJob t.internalNumber j.num j.cls ((t.loc front).pallet.getD 0) front) rfl room rfl
  exact (((h2.reserveSource _ _ _).trigger).report _).setWaiting _ _ _

theorem Moves.makeReady (h : Moves s t) (n : Nat) (l : Loc) : Moves s (t.makeReady n l) := by
  unfold State.makeReady
  exact ((h.reserveSource n l _).updJob n _ (fun _ => by rfl)).trigger

theorem Moves.evaluateFront (h : Moves s t) (j : Job) (l : Loc) : Moves s (t.evaluateFront j l) := by
  unfold State.evaluateFront
  dsimp only
  repeat' split
  all_goals first
    | exact h.makeReady _ _
    | exact h.setWaiting _ _ _
    | exact h.createRelocation _ _ (by assumption)

theorem Moves.evaluateAt (h : Moves s t) (j : Job) (l : Loc) : Moves s (t.evaluateAt j l) := by
  unfold State.evaluateAt
  repeat' split
  all_goals first
    | exact h.setWaiting _ _ _
    | exact h.leaveCore _ _
    | exact h.evaluateFront _ _
    | exact h.makeReady _ _

theorem Moves.evaluate (h : Moves s t) (n : Nat) : Moves s (t.evaluate n) := by
  unfold State.evaluate
  repeat' split
  all_goals first | exact h | exact h.evaluateAt _ _

theorem Moves.reevaluate (h : Moves s t) (n : Nat) : Moves s (t.reevaluate n) := by
  unfold State.reevaluate
  repeat' split
  all_goals first | exact h | exact h.evaluate _

theorem Moves.clearWork (h : Moves s t) : Moves s t.clearWork := h.setWork _

theorem Moves.reexamineRun (n : Nat) (h : Moves s t) : Moves s (State.reexamineRun n t) := by
  induction n generalizing t with
  | zero => exact h.clearWork
  | succ n ih =>
    unfold State.reexamineRun
    split
    · exact h
    · exact ih (h.clearWork.foldl (fun u n => (Moves.refl u).reevaluate n) _)

theorem Moves.reexamine (h : Moves s t) : Moves s t.reexamine := h.reexamineRun _

theorem Moves.evaluateLinked (h : Moves s t) (m : Nat) : Moves s (t.evaluateLinked m) := by
  unfold State.evaluateLinked
  exact h.foldl (fun u n => ((Moves.refl u).updJob n _ (fun _ => by rfl)).evaluate n) _

theorem Moves.leave (h : Moves s t) (n : Nat) (o : JobEnd) : Moves s (t.leave n o) := by
  unfold State.leave
  repeat' split
  · exact h
  · exact h.leaveCore n o
  · exact ((h.leaveCore n o).evaluateLinked n).setWork _

theorem Crane.without_owned (c : Crane) (n : Nat) : (c.without n).owned = c.owned := by
  unfold Crane.without
  repeat' split
  all_goals rfl

theorem Moves.removeLegs (h : Moves s t) (k n : Nat) : Moves s (t.removeLegs k n) := by
  unfold State.removeLegs
  exact (h.updCrane k (fun c => c.without n) (fun c => c.without_owned n)).setHolds _

theorem Moves.returnReady (h : Moves s t) (n : Nat) : Moves s (t.returnReady n) := by
  unfold State.returnReady
  split
  · exact h
  · exact ((Moves.ite (h.freeDest n) h).updJob n _ (fun _ => by rfl)).trigger

/-! ## The dispatch engine -/

theorem Moves.fixJob (h : Moves s t) (c : Candidate) : Moves s (t.fixJob c) := by
  unfold State.fixJob
  repeat' split
  all_goals first | exact h | exact h.reserveDest _ _ _ _ | exact (h.updStation _ _).updJob _ _ (fun _ => by rfl)

theorem Moves.assignJob (h : Moves s t) (k : Nat) (c : Candidate) : Moves s (t.assignJob k c) := by
  unfold State.assignJob
  exact h.updJob _ _ (fun _ => by rfl)

theorem Job.bypassed_fixed (n : Nat) (j : Job) : (j.bypassed n).fixed = j.fixed := by
  unfold Job.bypassed
  split <;> rfl

theorem Moves.age (h : Moves s t) (l : List Candidate) : Moves s (t.age l) :=
  h.poolMap _ (fun j => by
    split
    · exact Job.bypassed_fixed _ j
    · rfl)

theorem Moves.assign (h : Moves s t) (k : Nat) (c : Candidate) (p : Option Candidate) (l : List Candidate) :
    Moves s (t.assign k c p l) := by
  unfold State.assign
  dsimp only
  refine ((Moves.foldl (fun u c => (Moves.refl u).report _) ?_ _).chanTo k _ _).reexamine
  refine (Moves.updCrane ?_ k _ (fun _ => by rfl)).age _
  exact Moves.foldl (fun u c => (Moves.refl u).assignJob k c) (h.foldl (fun u c => (Moves.refl u).fixJob c) _) _

theorem Moves.select (h : Moves s t) (k : Nat) : Moves s (t.select k).1 := by
  unfold State.select
  dsimp only
  split
  · exact h
  · exact h.assign _ _ _ _

theorem Moves.setPass (h : Moves s t) (v : Option Pass) : Moves s { t with passRun := v } :=
  h.other rfl rfl rfl rfl rfl rfl rfl Or.inl

theorem Moves.visit (h : Moves s t) (k : Nat) : Moves s (t.visit k) := by
  unfold State.visit
  dsimp only
  exact Moves.ite (Moves.ite ((h.select k).setPass _) (h.select k)) h

theorem Moves.endPass (h : Moves s t) (p : Pass) : Moves s (t.endPass p) :=
  (h.setPass none).foldl (fun u k => (Moves.refl u).goOn k) p.assigned

theorem Moves.closePass (h : Moves s t) : Moves s t.closePass := by
  unfold State.closePass
  split
  · exact Moves.ite (h.endPass _) h
  · exact h

theorem Moves.advancePass (h : Moves s t) (p : Pass) : Moves s (t.advancePass p) := by
  unfold State.advancePass
  split
  · exact h
  · exact (h.setPass _).visit _

theorem Moves.startPass (h : Moves s t) : Moves s t.startPass := h.clearPassDue.setPass _

theorem Moves.dispatch (h : Moves s t) : Moves s t.dispatch := by
  unfold State.dispatch
  split
  · exact (h.advancePass _).closePass.reexamine
  · exact h.startPass.closePass.reexamine

theorem Moves.finish (h : Moves s t) : Moves s t.finish := h.reexamine

end

end Sys2Proof.Machine
end

