-- ==== Sys2Proof/Laws/MovesChannel.lean ====
section
/-! SUPPORT. The moves of the crane channels. -/

namespace Sys2Proof.Machine

section
variable {s t : State}

theorem Moves.stopCrane (h : Moves s t) (k : Nat) : Moves s (t.stopCrane k) := h.portSend k _

theorem Moves.hear (h : Moves s t) (k : Nat) : Moves s (t.hear k) := by
  unfold State.hear
  exact h.updCrane k _ (fun _ => by rfl)

theorem Moves.heard (h : Moves s t) (k : Nat) : Moves s (t.heard k) := by
  unfold State.heard
  split
  · exact h.enter k _ _
  · exact h

theorem Moves.unresolve (h : Moves s t) (k p : Nat) : Moves s (t.unresolve k p) := by
  unfold State.unresolve
  exact (h.updCrane k _ (fun _ => by rfl)).report _

theorem Moves.dropLoad (h : Moves s t) (k : Nat) : Moves s (t.dropLoad k) := by
  unfold State.dropLoad
  exact h.updCrane k _ (fun _ => by rfl)

theorem Moves.endSource (h : Moves s t) (n : Nat) (l : Loc) (o : Occupancy) : Moves s (t.endSource n l o) := by
  unfold State.endSource
  have h1 := (h.occupy l o none).updJob n (fun j => { j with srcRes := none }) (fun _ => rfl)
  exact Moves.ite h1.trigger h1

theorem Moves.endDest (h : Moves s t) (n : Nat) (l : Loc) (o : Occupancy) (p : Option Nat) : Moves s (t.endDest n l o p) := by
  unfold State.endDest
  exact (h.occupy l o p).updJob n _ (fun _ => by rfl)

theorem Moves.followPallet (h : Moves s t) (p : Nat) (l : Loc) : Moves s (t.followPallet p l) :=
  h.poolMap _ (fun j => by split <;> rfl)

theorem Moves.putMade (h : Moves s t) (k : Nat) (j : Job) (late : Bool) : Moves s (t.putMade k j late) := by
  unfold State.putMade
  dsimp only
  refine (Moves.dropLoad ?_ k).leave _ _
  repeat' split
  all_goals first
    | exact h
    | exact (h.endDest _ _ _ _).followPallet _ _
    | exact h.endDest _ _ _ _
    | exact (h.updJob _ _ (fun _ => by rfl)).deliver _

theorem Moves.resolveLeg (h : Moves s t) (k : Nat) (j : Job) (kind : LegKind) (load : Nat) :
    Moves s (t.resolveLeg k j kind load) := by
  unfold State.resolveLeg
  dsimp only
  repeat' split
  all_goals first
    | exact h
    | exact ((h.endSource _ _ _).leave _ _).unresolve _ _
    | exact (h.leave _ _).unresolve _ _
    | exact h.returnReady _
    | exact h.putMade _ _ _

theorem Moves.resolveUncertain (h : Moves s t) (k load : Nat) : Moves s (t.resolveUncertain k load) := by
  unfold State.resolveUncertain
  repeat' split
  all_goals first | exact h | exact h.resolveLeg _ _ _ _

theorem Moves.breakJob (h : Moves s t) (k n : Nat) (leg : Option LegKind) (info : Option Nat) :
    Moves s (t.breakJob k n leg info) := by
  unfold State.breakJob
  repeat' split
  all_goals first
    | exact h
    | exact h.returnReady _
    | exact h.resolveLeg _ _ _ _
    | exact h.updJob _ _ (fun _ => by rfl)
    | exact (h.leave _ _).unresolve _ _

theorem Moves.breakPlan (h : Moves s t) (k : Nat) (info : Option Nat) : Moves s (t.breakPlan k info) := by
  unfold State.breakPlan
  dsimp only
  refine Moves.applyPending ?_ k
  exact Moves.foldl (fun u n => (Moves.refl u).breakJob k n _ info) ((h.updCrane k Crane.broken (fun _ => rfl)).setHolds _) _

theorem Moves.dropPark (h : Moves s t) (k : Nat) : Moves s (t.dropPark k) := h.updCrane k Crane.unparked (fun _ => rfl)

theorem Moves.haltCrane (h : Moves s t) (k : Nat) (info : Option Nat) : Moves s (t.haltCrane k info) := by
  unfold State.haltCrane
  repeat' split
  all_goals first | exact h | exact h.breakPlan _ _ | exact h.dropPark _

theorem Moves.enterFault (h : Moves s t) (k : Nat) (r : FaultReason) (info : Option Nat) : Moves s (t.enterFault k r info) := by
  unfold State.enterFault
  split
  · exact h
  · dsimp only
    exact (Moves.haltCrane (Moves.ite (h.stopCrane k) h) k info).enter k _ _

theorem Moves.strip (h : Moves s t) (j : Job) (r : FailReason) : Moves s (t.strip j r) :=
  ((h.removeLegs _ _).leave _ _).continueCrane _

theorem Moves.dropRecorded (h : Moves s t) (k id : Nat) : Moves s (t.dropRecorded k id) := by
  unfold State.dropRecorded
  dsimp only
  split
  · exact h.dropLoad k
  · exact ((h.dropLoad k).removeLegs _ _).leave _ _

theorem Moves.stripFor (h : Moves s t) (k : Nat) (j : Job) : Moves s (t.stripFor k j) := by
  unfold State.stripFor
  split
  · exact (h.removeLegs _ _).leave _ _
  · exact h.strip _ _

theorem Moves.stripLocation (h : Moves s t) (k id : Nat) : Moves s (t.stripLocation k id) := by
  unfold State.stripLocation
  split
  · exact h
  · dsimp only
    split
    · exact (h.occupy _ _ _).report _
    · exact (((h.occupy _ _ _).report _).updJob _ _ (fun _ => by rfl)).stripFor _ _

theorem Moves.stripStore (h : Moves s t) (k id : Nat) : Moves s (t.stripStore k id) := by
  unfold State.stripStore
  split
  · exact h
  · exact h.stripFor _ _

theorem Moves.acceptForeign (h : Moves s t) (k id : Nat) : Moves s (t.acceptForeign k id) := by
  unfold State.acceptForeign
  exact (((h.updCrane k _ (fun _ => by rfl)).stripLocation k id).stripStore k id).unresolve k id

theorem Moves.compareLoad (h : Moves s t) (k load : Nat) : Moves s (t.compareLoad k load) := by
  unfold State.compareLoad
  dsimp only
  split
  · exact h
  · split
    · exact h.enterFault _ _ _
    · have h1 : ∀ r : Nat, Moves s (if r ≠ 0 then t.dropRecorded k r else t) := fun r => Moves.ite (h.dropRecorded k r) h
      exact Moves.ite ((h1 _).acceptForeign k load) (h1 _)

theorem Moves.carry (h : Moves s t) (k : Nat) (j : Job) (b : Bool) : Moves s (t.carry k j b) := by
  unfold State.carry
  exact (h.updJob _ _ (fun _ => by rfl)).updCrane k _ (fun _ => by rfl)

theorem Moves.fetchDone (h : Moves s t) (k : Nat) (j : Job) (g : Target) : Moves s (t.fetchDone k j g) := by
  unfold State.fetchDone
  split
  · rename_i l
    dsimp only
    have h1 := h.endSource j.num l .empty
    exact (Moves.ite (h1.evaluateLinked j.num) h1).carry k j _
  · exact (h.leaveQueue _ _).carry _ _ _
  · exact h

theorem Moves.sequenceCheck (h : Moves s t) (k : Nat) (j : Job) : Moves s (t.sequenceCheck k j) := by
  unfold State.sequenceCheck
  split
  · exact h
  · split
    · exact (h.setHolds _).report _
    · exact h

theorem Moves.sleep (h : Moves s t) (k : Nat) : Moves s (t.sleep k) := by
  unfold State.sleep
  exact ((h.updCrane k _ (fun _ => by rfl)).portSend k _).enter k _ _

theorem Moves.parkDone (h : Moves s t) (k : Nat) : Moves s (t.parkDone k) := by
  unfold State.parkDone
  split
  · exact h.sleep k
  · exact h.updCrane k _ (fun _ => by rfl)

theorem Moves.legDone (h : Moves s t) (k : Nat) (g : Leg) : Moves s (t.legDone k g) := by
  unfold State.legDone
  repeat' split
  all_goals first
    | exact h
    | exact h.fetchDone _ _ _
    | exact h.putMade _ _ _
    | exact h.sequenceCheck _ _
    | exact h.parkDone _

theorem Moves.failJob (h : Moves s t) (k : Nat) (j : Job) (r : FailReason) : Moves s (t.failJob k j r) :=
  (h.removeLegs _ _).leave _ _

theorem Moves.binOccupied (h : Moves s t) (k : Nat) (j : Job) (l : Loc) : Moves s (t.binOccupied k j l) := by
  unfold State.binOccupied
  dsimp only
  have h1 := (h.endDest j.num l .unknown none).report (.locationConflict k l j.pallet .binOccupied)
  split
  · exact (h1.failJob _ _ _).unresolve _ _
  · split
    · exact (h1.failJob _ _ _).unresolve _ _
    · exact (h1.reserveDest _ _ _ _).updCrane k _ (fun _ => by rfl)

theorem Moves.outfeedFull (h : Moves s t) (k n : Nat) (g : Leg) : Moves s (t.outfeedFull k n g) := by
  unfold State.outfeedFull
  exact (h.updStation _ _).updCrane k _ (fun _ => by rfl)

theorem Moves.fetchFailed (h : Moves s t) (k : Nat) (j : Job) (g : Target) (o : Occupancy) (f : Finding) (r : FailReason) :
    Moves s (t.fetchFailed k j g o f r) := by
  unfold State.fetchFailed
  split
  · exact ((h.endSource _ _ _).report _).failJob _ _ _
  · exact h.failJob _ _ _
  · exact h.failJob _ _ _

theorem Moves.legFailed (h : Moves s t) (k : Nat) (g : Leg) (f : Finding) : Moves s (t.legFailed k g f) := by
  unfold State.legFailed
  repeat' split
  all_goals first
    | exact h
    | exact h.fetchFailed _ _ _ _ _ _
    | exact h.binOccupied _ _ _
    | exact h.outfeedFull _ _ _

theorem Moves.settleLoad (h : Moves s t) (k load : Nat) (m : Bool) : Moves s (t.settleLoad k load m) := by
  unfold State.settleLoad
  dsimp only
  have h1 := h.resolveUncertain k load
  exact (Moves.ite h1 (h1.compareLoad k load)).continueCrane k

theorem Moves.afterLeg (h : Moves s t) (k load : Nat) (m : Bool) : Moves s (t.afterLeg k load m) := (h.settleLoad k load m).finish

theorem Moves.onStale (h : Moves s t) (k : Nat) (p : Point) (load : Nat) (m : Bool) : Moves s (t.onStale k p load m) :=
  ((h.reportPosition k p m).heard k).afterLeg k load m

theorem Crane.legEnded_owned (c : Crane) : c.legEnded.owned = c.owned := by
  unfold Crane.legEnded
  dsimp only
  split <;> rfl

theorem Moves.onDone (h : Moves s t) (k id : Nat) (p : Point) (load : Nat) : Moves s (t.onDone k id p load) := by
  unfold State.onDone
  dsimp only
  have h1 := ((h.hear k).updCrane k Crane.legEnded Crane.legEnded_owned).reportPosition k p false
  split
  · split
    · exact h1.afterLeg _ _ _
    · exact (h1.legDone _ _).afterLeg _ _ _
  · exact (h.hear k).onStale _ _ _ _

theorem Moves.currentFailed (h : Moves s t) (k : Nat) (g : Leg) (r : Nat) (p : Point) (load : Nat) :
    Moves s (t.currentFailed k g r p load) := by
  unfold State.currentFailed
  have h1 := (h.updCrane k Crane.legEnded Crane.legEnded_owned).reportPosition k p false
  split
  · exact (h1.legFailed _ _ _).afterLeg _ _ _
  · exact h1.afterLeg _ _ _
  · exact ((h.reportPosition _ _ _).enterFault _ _ _).afterLeg _ _ _

theorem Moves.onFailed (h : Moves s t) (k id r : Nat) (p : Point) (load : Nat) : Moves s (t.onFailed k id r p load) := by
  have h1 := h.hear k
  unfold State.onFailed
  dsimp only
  generalize t.hear k = u at h1 ⊢
  split
  · split
    · exact h1.currentFailed _ _ _ _ _
    · exact h1.onStale _ _ _ _
  · exact h1.onStale _ _ _ _

theorem Moves.stateChange (h : Moves s t) (k : Nat) (m p : Bool) (load : Nat) : Moves s (t.stateChange k m p load) := by
  have h1 : Moves s (if p = true then t.updCrane k (fun c => { c with powerReturn := true }) else t) :=
    Moves.ite (h.updCrane k _ (fun _ => by rfl)) h
  unfold State.stateChange
  dsimp only
  generalize (if p = true then t.updCrane k (fun c => { c with powerReturn := true }) else t) = u at h1 ⊢
  cases m <;> cases p <;> dsimp only
  · split <;> first | exact h1 | exact h1.enter _ _ _
  all_goals exact Moves.ite h1 ((h1.haltCrane _ _).enter _ _ _)

theorem Moves.markCheck (h : Moves s t) (k : Nat) (m p : Bool) : Moves s (t.markCheck k m p) := by
  unfold State.markCheck
  split
  · exact h
  · exact h.setMode _ rfl

theorem Moves.onState (h : Moves s t) (k : Nat) (m p : Bool) (pt : Point) (load : Nat) : Moves s (t.onState k m p pt load) := by
  unfold State.onState
  dsimp only
  have h1 := (((h.hear k).recordPosition k pt).stateChange k m p load)
  exact ((h1.railReport k (t.crane k).claim (t.crane k).railSpan pt.x _).settleLoad k load _ |>.markCheck k m p).finish

end

end Sys2Proof.Machine
end

