-- ==== Sys2Proof/Laws/Changes.lean ====
section
/-! SUPPORT. What one step can do, said once: a chain of the changes listed here. An invariant of the machine is proved
by one case for each. -/

namespace Sys2Proof.Machine

/-- One change of the link unit. -/
inductive LinkChange : Link → Link → Prop where
  | byte (l : Link) (b : Byte) : LinkChange l (l.byte b)
  | gap (l : Link) : LinkChange l l.gap
  | arrive (l : Link) (body : List Byte) : LinkChange l (l.arrive body)
  | take (l : Link) (body : List Byte) (rest : List (List Byte)) (head : l.ring = body :: rest) :
      LinkChange l { l with ring := rest }
  | ready (l : Link) (b : Bool) : LinkChange l { l with hostReady := b }.start
  | sent (l : Link) : LinkChange l l.sent
  | clear (l : Link) : LinkChange l { l with errors := 0 }

/-- The state after POWER_ON. -/
def State.poweredOn (s : State) : State :=
  { State.reset with
    link := { Link.reset with hostReady := s.link.hostReady }, portOut := s.portOut, hostOut := s.hostOut, pending := s.pending }

/-- One change of a step; `b` allows a change of the run state. -/
inductive Change : Bool → State → State → Prop where
  | move {b : Bool} (s t : State) (h : Move s t) : Change b s t
  | answer {b : Bool} (s : State) (c tag : Nat) (r : Result) (d : List Byte) (free : s.link.replyQueued = false) :
      Change b s (s.answer c tag r d)
  | link {b : Bool} (s : State) (l : Link) (h : LinkChange s.link l) : Change b s { s with link := l }
  | aisle {b : Bool} (s : State) (q : AisleFields) (h : s.checkAisle q = .ok) :
      Change b s (s.defineAisle q.aisle (aisleOf q))
  | crane {b : Bool} (s : State) (q : CraneFields) (h : s.checkCrane q = .ok) : Change b s (s.defineCrane q)
  | mode (s : State) (v : Mode) (due : Bool) (p : Option Pass) (h : due = true → v.run = .run) :
      Change true s { s with mode := v, passDue := due, passRun := p }
  | restart (s : State) : Change true s s.restarted
  | powerOn (s : State) : Change true s s.poweredOn

/-- A chain of changes. -/
abbrev Changes (b : Bool) : State → State → Prop := Relation.ReflTransGen (Change b)

theorem Changes.refl {b : Bool} (s : State) : Changes b s s := Relation.ReflTransGen.refl

theorem Moves.changes {b : Bool} {s t : State} (h : Moves s t) : Changes b s t := by
  induction h with
  | refl => exact Changes.refl s
  | tail _ m ih => exact ih.tail (.move _ _ m)

/-- An invariant that every change keeps is kept by a chain. -/
theorem Changes.keep {b : Bool} {P : State → Prop} (hc : ∀ s t, Change b s t → P s → P t) {s t : State}
    (h : Changes b s t) (hs : P s) : P t := by
  induction h with
  | refl => exact hs
  | tail _ m ih => exact hc _ _ m ih

/-- A chain that may not change the run state is one that may. -/
theorem Changes.any {b : Bool} {s t : State} (hc : Changes b s t) : Changes true s t := by
  refine Changes.keep (P := Changes true s) (fun u v m hu => hu.tail ?_) hc (Changes.refl s)
  cases m
  case move h => exact .move _ _ h
  case answer free => exact .answer _ _ _ _ _ free
  case link h => exact .link _ _ h
  case aisle h => exact .aisle _ _ h
  case crane h => exact .crane _ _ h
  case mode v due p h => exact .mode _ _ _ _ h
  case restart => exact .restart _
  case powerOn => exact .powerOn _

section
variable {s t : State} {b : Bool}

theorem Changes.moves {u : State} (h : Changes b s t) (m : Moves t u) : Changes b s u := h.trans m.changes

theorem Changes.link (h : Changes b s t) {l : Link} (hl : LinkChange t.link l) : Changes b s { t with link := l } :=
  h.tail (.link t l hl)

/-- A request that has had its effects is answered. -/
theorem Changes.conclude (h : Changes b s t) (hq : t.link.replyQueued = false) (c tag : Nat) (r : Result) (d : List Byte) :
    Changes b s (t.conclude c tag r d) := by
  unfold State.conclude
  have hx := Moves.reexamine (Moves.refl t)
  have h1 : Changes b s (t.reexamine.answer (c + 0x80) tag r d) :=
    (h.moves hx).tail (.answer _ _ _ _ _ (hx.replyQueued.trans hq))
  exact h1

theorem Changes.concluded (m : Moves s t) (hq : s.link.replyQueued = false) (c tag : Nat) (r : Result) (d : List Byte) :
    Changes b s (t.conclude c tag r d) := m.changes.conclude (m.replyQueued.trans hq) c tag r d

theorem Changes.judged (hq : s.link.replyQueued = false) (c tag : Nat) (r : Result) {e : State → State}
    (he : r = .ok → Moves s (e s)) : Changes b s (s.judged c tag r e) := by
  unfold State.judged
  split
  · exact Changes.concluded (he ‹_›) hq _ _ _ _
  · exact Changes.concluded (Moves.refl s) hq _ _ _ _

theorem Changes.judgedData (hq : s.link.replyQueued = false) (c tag : Nat) (r : Result) {e : State → State}
    {d : State → List Byte} (he : r = .ok → Moves s (e s)) : Changes b s (s.judgedData c tag r e d) := by
  unfold State.judgedData
  split
  · exact Changes.concluded (he ‹_›) hq _ _ _ _
  · exact Changes.concluded (Moves.refl s) hq _ _ _ _

/-! ## The effects of the requests -/

theorem Moves.setPool (h : Moves s t) (f : Job → Job) (hf : ∀ j, (f j).fixed = j.fixed) :
    Moves s { t with pool := t.pool.map f } := h.poolMap f hf

theorem Moves.definePolicy (h : Moves s t) (p : Policy) : Moves s (t.definePolicy p) := by
  unfold State.definePolicy State.promoteAt
  have h1 : Moves s { t with policy := p } := h.other rfl rfl rfl rfl rfl rfl rfl Or.inl
  split
  · exact h1.poolMap _ (fun j => by split <;> rfl)
  · exact h1

theorem Moves.reportMode (h : Moves s t) (c : ModeCause) : Moves s (t.reportMode c) := h.report _

theorem Moves.correct (h : Moves s t) (l : Loc) (o p v : Nat) : Moves s (t.correct l o p v) := (h.setLoc l _).touchPair l

theorem Moves.applySetLoc (h : Moves s t) (l : Loc) (q : SetLocFields) : Moves s (t.applySetLoc l q) := by
  unfold State.applySetLoc
  exact Moves.ite (h.correct _ _ _ _).trigger (h.correct _ _ _ _)

theorem Moves.loadLevels (l : Loc) (v : Nat) (es : List LevelFields) (h : Moves s t) : Moves s (loadLevels l v es t) := by
  induction es generalizing v t with
  | nil => exact h
  | cons e es ih => exact ih _ (h.correct _ _ _ _)

theorem Moves.pullBack (h : Moves s t) (l : Loc) : Moves s (t.pullBack l) := by
  unfold State.pullBack
  split
  · exact h
  · exact (h.freeSource _).updJob _ _ (fun _ => by rfl)

theorem Moves.writeAttrs (h : Moves s t) (l : Loc) (a : Attrs) : Moves s (t.writeAttrs l a) := by
  unfold State.writeAttrs
  dsimp only
  have h1 : Moves s (t.setLoc l { t.loc l with attrs := a }) := h.setLoc l _
  generalize t.setLoc l { t.loc l with attrs := a } = u at h1 ⊢
  have h2 : Moves s (if (a.noRetrieve && !(t.loc l).attrs.noRetrieve) = true then u.pullBack l else u) := Moves.ite (h1.pullBack l) h1
  exact Moves.ite (h2.touchPair l).trigger h2

theorem Moves.markAll (h : Moves s t) (o : Nat) (l : Loc) (w : Nat) : Moves s (t.markAll o l w) := by
  unfold State.markAll
  exact h.foldl (fun u m => (Moves.refl u).writeAttrs m _) _

theorem Moves.setStations (h : Moves s t) (v : Assoc Station) : Moves s { t with stations := v } :=
  h.other rfl rfl rfl rfl rfl rfl rfl Or.inl

theorem Moves.defineStation (h : Moves s t) (q : StationFields) : Moves s (t.defineStation q) := by
  unfold State.defineStation
  split
  · exact h
  · exact h.setStations _

theorem Moves.defineOriginator (h : Moves s t) (o a : Nat) (e : OrigEntry) : Moves s (t.defineOriginator o a e) :=
  h.other rfl rfl rfl rfl rfl rfl rfl Or.inl

theorem Moves.joinQueue (h : Moves s t) (st n : Nat) : Moves s (t.joinQueue st n) := h.updStation _ _

theorem Moves.reserveTarget (h : Moves s t) (q : StoreFields) : Moves s (t.reserveTarget q) := by
  unfold State.reserveTarget
  repeat' split
  all_goals first | exact h | exact h.reserveDest _ _ _ _

theorem Result.orElse_ok {a b : Result} (h : a.orElse b = .ok) : a = .ok ∧ b = .ok := by
  unfold Result.orElse at h
  split at h
  · exact ⟨‹_›, h⟩
  · exact absurd h ‹_›

/-- A host request that passes its checks has a place, and a host number that no job of the pool carries (R25, R27). -/
theorem State.checkStore_room {q : StoreFields} (h : s.checkStore q = .ok) :
    s.hostRoom = true ∧ hostNumber q.job = true ∧ s.job q.job = none := by
  have h1 := (Result.orElse_ok h).1
  simp only [firstFail] at h1
  repeat' split at h1
  all_goals simp_all [storeFieldsOk]

theorem State.checkRetrieve_room {q : RetrieveFields} (h : s.checkRetrieve q = .ok) :
    s.hostRoom = true ∧ hostNumber q.job = true ∧ s.job q.job = none := by
  have h1 := (Result.orElse_ok h).1
  simp only [firstFail] at h1
  repeat' split at h1
  all_goals simp_all [retrieveFieldsOk]

theorem State.checkRecover_room {q : RecoverFields} (h : s.checkRecover q = .ok) : s.internalRoom = true := by
  have h1 := (Result.orElse_ok h).1
  simp only [firstFail] at h1
  repeat' split at h1
  all_goals simp_all

theorem Moves.applyStore (h : Moves s t) (q : StoreFields)
    (room : t.hostRoom = true ∧ hostNumber q.job = true ∧ t.job q.job = none) : Moves s (t.applyStore q) := by
  unfold State.applyStore
  dsimp only
  have h1 := ((h.enroll (j := storeJob q (t.queueEmpty q.station)) rfl room.1 room.2.1 room.2.2).reserveTarget q).joinQueue q.station q.job
  exact Moves.ite h1.trigger h1

theorem Moves.enterGroup (h : Moves s t) (gid p n : Nat) : Moves s (t.enterGroup gid p n) := by
  unfold State.enterGroup
  split
  · exact h
  · rename_i g hg
    exact h.setGroups _ (fun hs => groupsSound_put hs (hs _ (mem_of_tableGet hg)))

theorem Moves.applyRetrieve (h : Moves s t) (q : RetrieveFields)
    (room : t.hostRoom = true ∧ hostNumber q.job = true ∧ t.job q.job = none) : Moves s (t.applyRetrieve q) := by
  unfold State.applyRetrieve
  split
  · exact h
  · rename_i l _
    dsimp only
    have h1 := h.enroll (j := retrieveJob q l ((t.loc l).pallet.getD 0)) rfl room.1 room.2.1 room.2.2
    generalize t.enroll _ = u at h1 ⊢
    have h2 : Moves s (if q.group = 0 then u else u.enterGroup q.group q.position q.job) :=
      Moves.ite h1 (h1.enterGroup _ _ _)
    exact Moves.ite (h2.evaluate _) h2

theorem Moves.cancelJob (h : Moves s t) (j : Job) : Moves s (t.cancelJob j) := by
  unfold State.cancelJob
  exact Moves.ite (((h.removeLegs _ _).leave _ _).continueCrane _) (h.leave _ _)

theorem Moves.reserveRecover (h : Moves s t) (q : RecoverFields) (n p : Nat) : Moves s (t.reserveRecover q n p) := by
  unfold State.reserveRecover
  repeat' split
  all_goals first | exact h | exact h.reserveDest _ _ _ _ | exact (h.updStation _ _).updJob _ _ (fun _ => by rfl)

theorem Moves.applyRecover (h : Moves s t) (q : RecoverFields) (room : t.internalRoom = true) : Moves s (t.applyRecover q) := by
  unfold State.applyRecover
  dsimp only
  exact (((h.admitInternal (j := recoverJobOf _ _ _ _) rfl room rfl).reserveRecover q _ _).trigger).report _

theorem Moves.openGroup (h : Moves s t) (gid f : Nat) : Moves s (t.openGroup gid f) :=
  h.setGroups _ (fun hs => groupsSound_put hs ⟨List.Pairwise.nil, fun x hx => by cases hx⟩)

theorem Moves.closeGroup (h : Moves s t) (gid : Nat) : Moves s (t.closeGroup gid) := by
  unfold State.closeGroup
  split
  · exact h
  · rename_i g hg
    split
    · exact h.setGroups _ (fun hs => groupsSound_drop _ hs)
    · exact h.setGroups _ (fun hs => groupsSound_put hs (hs _ (mem_of_tableGet hg)))

theorem Moves.clearStation (h : Moves s t) (n c : Nat) : Moves s (t.clearStation n c) := by
  unfold State.clearStation
  exact Moves.ite h ((h.updStation _ _).trigger.retryPut _)

theorem Moves.applyResume (h : Moves s t) (k : Nat) : Moves s (t.applyResume k) := by
  unfold State.applyResume
  split
  · exact h.enter _ _ _
  · exact h.enter _ _ _
  · exact (h.dropPark _).enter _ _ _
  · exact (h.portSend _ _).enter _ _ _
  all_goals exact h

theorem Moves.applyPark (h : Moves s t) (k : Nat) : Moves s (t.applyPark k) := by
  unfold State.applyPark
  split
  all_goals first | exact h | exact h.startPark _ | exact h.updCrane _ _ (fun _ => by rfl)

theorem Moves.applyStaged (h : Moves s t) (k : Nat) : Moves s (t.applyStaged k) := by
  unfold State.applyStaged
  exact Moves.ite h (h.applyPending k)

theorem Moves.applyProfile (h : Moves s t) (k : Nat) (f : FigureFields) : Moves s (t.applyProfile k f) := by
  unfold State.applyProfile
  exact (h.updCrane k _ (fun _ => by rfl)).applyStaged k

theorem Moves.applyReach (h : Moves s t) (k : Nat) (f : ReachFields) : Moves s (t.applyReach k f) := by
  unfold State.applyReach
  exact (h.updCrane k _ (fun _ => by rfl)).applyStaged k

theorem Moves.stageSpeed (h : Moves s t) (v : SpeedClass) (k : Nat) : Moves s (State.stageSpeed v t k) := by
  unfold State.stageSpeed
  exact Moves.ite ((h.updCrane k _ (fun _ => by rfl)).applyStaged k) h

theorem Moves.setActive (h : Moves s t) (l : List Nat) : Moves s (t.setActive l) := by
  unfold State.setActive
  have h1 := h.setMode { t.mode with active := l } rfl
  exact Moves.ite h1.trigger h1

theorem Moves.safeCrane (h : Moves s t) (k : Nat) : Moves s (t.safeCrane k) := by
  unfold State.safeCrane
  split
  · dsimp only
    have h1 : Moves s (if (t.crane k).chan = .busy ∨ (t.crane k).curLeg ≠ 0 then t.stopCrane k else t) :=
      Moves.ite (h.stopCrane k) h
    exact ((h1.haltCrane k none).updCrane k _ (fun _ => by rfl)).enter k _ _
  · exact h

theorem Moves.startCheck (h : Moves s t) : Moves s t.startCheck := h.setMode _ rfl

theorem Moves.settleStop (h : Moves s t) : Moves s t.settleStop := h.setMode _ rfl

theorem Moves.applyResult (h : Moves s t) (k : Nat) (r : CheckResult) : Moves s (t.applyResult k r) := by
  unfold State.applyResult
  split
  all_goals first | exact h | exact h.enter _ _ _ | exact h.enterFault _ _ _

theorem Moves.checkVisit (c : Check) (p : State × List (Nat × CheckResult)) (k : Nat) : Moves p.1 (checkVisit c p k).1 := by
  unfold Machine.checkVisit
  split
  · exact (Moves.refl p.1).applyResult _ _
  · exact Moves.refl _

theorem Moves.clearHalted (h : Moves s t) : Moves s t.clearHalted := h.cranesMap _ (fun _ => by rfl)

theorem Moves.onPort (h : Moves s t) (k : Nat) {f : State → State} (hf : Moves t (f t)) : Moves s (t.onPort k f) := by
  unfold State.onPort
  exact Moves.ite (h.trans hf) h

theorem Moves.runTaken (h : Moves s t) (k id : Nat) : Moves s (runTaken k id t) := by
  unfold Machine.runTaken
  dsimp only
  have h1 := (h.hear k).heard k
  exact (Moves.ite (h1.updCrane k _ (fun _ => by rfl)) h1).finish

theorem Moves.runState (h : Moves s t) (k m f x y l : Nat) : Moves s (runState k m f x y l t) := by
  unfold Machine.runState
  exact Moves.ite (h.onState _ _ _ _ _) (h.hear k)

theorem Moves.runBadFrame (h : Moves s t) (k : Nat) : Moves s (runBadFrame k t) := by
  unfold Machine.runBadFrame
  repeat' split
  all_goals first
    | exact ((h.updCrane k _ (fun _ => by rfl)).enterFault _ _ _).finish
    | exact h.updCrane k _ (fun _ => by rfl)

theorem Moves.runCraneTelegram (h : Moves s t) (i : Instr) : Moves s (runCraneTelegram t i) := by
  unfold Machine.runCraneTelegram
  split
  · exact h.runTaken _ _
  · exact h.onDone _ _ _ _
  · exact h.onFailed _ _ _ _ _
  · exact h.runState _ _ _ _ _ _
  · exact h

theorem Moves.expireHold (h : Moves s t) (k : Nat) (v : Hold) : Moves s (t.expireHold k v) := by
  unfold State.expireHold
  exact ((h.setHolds _).updJob _ _ (fun _ => by rfl)).goOn k

theorem Moves.tick (h : Moves s t) : Moves s t.tick :=
  ((h.cranesMap Crane.tick (fun _ => rfl)).poolMap (fun j => { j with delay := timerTick j.delay }) (fun _ => rfl)).other
    rfl rfl rfl rfl rfl rfl rfl Or.inl

theorem Moves.portEvent (h : Moves s t) (k : Nat) (e : RxEvent) : Moves s (t.portEvent k e) := by
  unfold State.portEvent
  repeat' split
  all_goals first | exact h | exact h.runBadFrame _ | exact h.runCraneTelegram _ | exact h.hear _

theorem Moves.portByte (h : Moves s t) (k : Nat) (b : Byte) : Moves s (State.portByte k t b) := by
  unfold State.portByte
  dsimp only
  exact Moves.ite ((h.updCrane k _ (fun _ => by rfl)).portEvent _ _) h

theorem Moves.portGap (h : Moves s t) (k : Nat) : Moves s (t.portGap k) := by
  unfold State.portGap
  exact Moves.ite ((h.updCrane k _ (fun _ => by rfl)).runBadFrame k) h

theorem Moves.portBytes (h : Moves s t) (k : Nat) (bs : List Byte) : Moves s (bs.foldl (State.portByte k) t) :=
  h.foldl (fun u b => (Moves.refl u).portByte k b) bs

/-! ## Changes of the run state -/

theorem Changes.mode (h : Changes true s t) (v : Mode) (due : Bool) (p : Option Pass) (hd : due = true → v.run = .run) :
    Changes true s { t with mode := v, passDue := due, passRun := p } := h.tail (.mode t v due p hd)

theorem Changes.enterRun (h : Changes true s t) : Changes true s t.enterRun := by
  unfold State.enterRun
  exact (h.mode { t.mode with run := .run, active := t.aisles.map Prod.fst } t.passDue t.passRun (fun _ => rfl)).moves
    ((Moves.refl _).trigger.reportMode _)

theorem Changes.setRun (h : Changes true s t) (r : RunState) : Changes true s (t.setRun r) := by
  unfold State.setRun
  dsimp only
  by_cases hr : r = .run
  · subst hr
    rw [if_pos rfl]
    have h1 := h.mode { t.mode with run := .run } t.passDue t.passRun (fun _ => rfl)
    split
    · exact h1
    · exact h1.moves (Moves.refl _).trigger
  · rw [if_neg hr]
    exact h.mode { t.mode with run := r } false _ (fun hd => by simp at hd)

theorem Changes.applyMode (h : Changes true s t) (r : RunState) (v : SpeedClass) (l : List Nat) :
    Changes true s (t.applyMode r v l) := by
  unfold State.applyMode
  dsimp only
  have h1 : Changes true s (craneNumbers.foldl (State.stageSpeed v) { t with mode := { t.mode with speed := v } }) :=
    h.moves (Moves.foldl (fun u k => (Moves.refl u).stageSpeed v k) ((Moves.refl t).setMode { t.mode with speed := v } rfl) _)
  generalize craneNumbers.foldl (State.stageSpeed v) { t with mode := { t.mode with speed := v } } = u at h1 ⊢
  have h2 := (h1.setRun r).moves ((Moves.refl _).setActive l)
  split
  · exact h2.moves ((Moves.refl _).reportMode _)
  · exact h2

theorem Changes.enterSafe (h : Changes true s t) : Changes true s t.enterSafe := by
  unfold State.enterSafe
  dsimp only
  have h1 := h.mode { t.mode with run := .safe } false none (fun hd => by simp at hd)
  have h2 := Moves.foldl (fun u k => (Moves.refl u).safeCrane k)
    (Moves.refl { t with mode := { t.mode with run := .safe }, passDue := false, passRun := none }) craneNumbers
  generalize craneNumbers.foldl State.safeCrane { t with mode := { t.mode with run := .safe }, passDue := false, passRun := none } = u at h2 ⊢
  have h3 := h2.setMode { u.mode with snapshot := some (t.inServiceCranes.map (fun k => (k, (u.crane k).load))) } rfl
  exact h1.moves (h3.reexamine.reportMode _)

theorem Changes.stopInput (h : Changes true s t) (c : Bool) : Changes true s (t.stopInput c) := by
  unfold State.stopInput
  split
  · exact h
  · dsimp only
    have h1 := h.moves ((Moves.refl t).setMode { t.mode with stop := c } rfl)
    split
    · exact h1
    · exact h1.enterSafe
    · exact h1.enterSafe
    · exact h1
    · exact h1
    · exact h1.moves (Moves.refl _).startCheck
    · exact h1.moves ((Moves.refl _).setMode _ rfl)

theorem Changes.endCheck (h : Changes true s t) (c : Check) : Changes true s (t.endCheck c) := by
  unfold State.endCheck
  dsimp only
  have h1 : Changes true s (craneNumbers.foldl (Machine.checkVisit c) (t, [])).1 :=
    h.moves (Moves.foldlPair (Moves.checkVisit c) (p := (t, [])) (Moves.refl t) craneNumbers)
  exact ((h1.moves (Moves.refl _).clearHalted).mode _ false none (fun hd => by simp at hd)).moves
    (((Moves.refl _).report _).reportMode _)

/-! ## The link unit -/

theorem Changes.linkBytes (h : Changes b s t) (bs : List Byte) : Changes b s { t with link := t.link.bytes bs } := by
  induction bs generalizing t with
  | nil => exact h
  | cons b bs ih => exact ih (h.link (.byte t.link b))

theorem Changes.lineBytes (h : Changes b s t) (port : Nat) (bs : List Byte) : Changes b s (t.lineBytes port bs) := by
  unfold State.lineBytes
  split
  · exact h.linkBytes bs
  · exact h.moves ((Moves.refl t).portBytes port bs)

end

end Sys2Proof.Machine
end

