-- ==== Sys2Proof/Laws/Choice.lean ====
section
/-! SUPPORT. What a choice of the best can give (R62, R79, R81, R84), and the eligible locations it is made among (R78). -/

namespace Sys2Proof.Machine

variable {α : Type} {better : α → α → Bool}

/-- A choice is made wherever there is something to choose from. -/
theorem bestOf_none {l : List α} (h : bestOf better l = none) : l = [] := by
  cases l with
  | nil => rfl
  | cons a t =>
    unfold bestOf at h
    split at h
    · cases h
    · split at h <;> cases h

/-- The choice is one of the elements. -/
theorem bestOf_mem {l : List α} {m : α} (h : bestOf better l = some m) : m ∈ l := by
  induction l generalizing m with
  | nil => cases h
  | cons a t ih =>
    unfold bestOf at h
    split at h
    · cases h
      exact List.mem_cons_self
    · rename_i b hb
      split at h <;> cases h
      · exact List.mem_cons_of_mem _ (ih hb)
      · exact List.mem_cons_self

/-- Where "better" orders the elements, none is better than the choice. -/
theorem bestOf_best {l : List α} {m : α} (hasym : ∀ a b, better a b = true → better b a = false)
    (htrans : ∀ a b c, better a b = false → better b c = false → better a c = false) (h : bestOf better l = some m) :
    ∀ x ∈ l, better x m = false := by
  have hirr : ∀ a, better a a = false := by
    intro a
    cases ha : better a a with
    | false => rfl
    | true => rw [hasym a a ha] at ha; cases ha
  induction l generalizing m with
  | nil => cases h
  | cons a t ih =>
    unfold bestOf at h
    split at h
    · rename_i hn
      cases h
      rw [bestOf_none hn]
      simpa using hirr a
    · rename_i b hbt
      intro x hx
      split at h <;> cases h
      · rename_i hlt
        rcases List.mem_cons.mp hx with rfl | hx
        · exact hasym _ _ hlt
        · exact ih hbt x hx
      · rename_i hlt
        rcases List.mem_cons.mp hx with rfl | hx
        · exact hirr _
        · exact htrans x b _ (ih hbt x hx) (by simpa using hlt)

/-- An EMPTY location is among the listed ones of its aisle. -/
theorem State.mem_listedLocs {s : State} {l : Loc} (hl : l.inRanges) (h : (s.loc l).occ = .empty) :
    l ∈ s.listedLocs l.aisle := by
  unfold State.listedLocs
  unfold State.loc at h
  cases hg : tableGet (locKey l) s.locs with
  | none => simp [hg, LocRec.created] at h
  | some r =>
    rw [List.mem_filter, List.mem_map]
    exact ⟨⟨_, mem_of_tableGet hg, keyLoc_locKey hl⟩, by simp⟩

end Sys2Proof.Machine
end

