-- ==== Sys2Proof/Laws/Steps.lean ====
section
/-! SUPPORT. Every command, every taken request and every step is a chain of changes. -/

namespace Sys2Proof.Machine

section
variable {s : State} {b : Bool}

theorem Changes.present (i : Instr) {run : State → State} (h : s.link.replyQueued = false → Changes b s (run s)) :
    Changes b s (s.present i run) := by
  unfold State.present
  split
  · rename_i hc
    simp [State.canTake] at hc
    exact h hc.2
  · exact (Changes.refl s).link (.arrive _ _)

/-- A request answered without effects. -/
theorem Changes.plain (hq : s.link.replyQueued = false) (c tag : Nat) (r : Result) (d : List Byte) :
    Changes b s (s.conclude c tag r d) := Changes.concluded (Moves.refl s) hq c tag r d

theorem Changes.runStatus (hq : s.link.replyQueued = false) (tag clear : Nat) : Changes b s (runStatus tag clear s) := by
  unfold Machine.runStatus
  split
  · unfold State.clearErrors
    split
    · exact ((Changes.refl s).link (.clear _)).conclude hq _ _ _ _
    · exact Changes.plain hq _ _ _ _
  · exact Changes.plain hq _ _ _ _

theorem Changes.runQueryJob (hq : s.link.replyQueued = false) (tag n : Nat) : Changes b s (runQueryJob tag n s) := by
  unfold Machine.runQueryJob
  repeat' split
  all_goals exact Changes.plain hq _ _ _ _

theorem Changes.runQueryLoc (hq : s.link.replyQueued = false) (tag : Nat) (q : LocFields) :
    Changes b s (runQueryLoc tag q s) := by
  unfold Machine.runQueryLoc
  split
  all_goals exact Changes.plain hq _ _ _ _

theorem Changes.runQueryCrane (hq : s.link.replyQueued = false) (tag k : Nat) : Changes b s (runQueryCrane tag k s) := by
  unfold Machine.runQueryCrane
  repeat' split
  all_goals exact Changes.plain hq _ _ _ _

theorem Changes.runQueryGroup (hq : s.link.replyQueued = false) (tag g : Nat) : Changes b s (runQueryGroup tag g s) := by
  unfold Machine.runQueryGroup
  repeat' split
  all_goals exact Changes.plain hq _ _ _ _

theorem Changes.runSetAisle (hq : s.link.replyQueued = false) (tag : Nat) (q : AisleFields) :
    Changes b s (runSetAisle tag q s) := by
  unfold Machine.runSetAisle State.judged
  split
  · exact Changes.conclude ((Changes.refl s).tail (.aisle s q ‹_›)) hq _ _ _ _
  · exact Changes.plain hq _ _ _ _

theorem State.reclaim_link (s : State) (k : Nat) (g : CraneCfg) : (s.reclaim k g).link = s.link := by
  unfold State.reclaim
  repeat' split
  all_goals simp [State.discardClaims]

theorem State.defineCrane_link (s : State) (q : CraneFields) : (s.defineCrane q).link = s.link := by
  unfold State.defineCrane
  split
  · rfl
  · simp [State.reclaim_link]

theorem Changes.runSetCrane (hq : s.link.replyQueued = false) (tag : Nat) (q : CraneFields) :
    Changes b s (runSetCrane tag q s) := by
  unfold Machine.runSetCrane State.judged
  split
  · exact Changes.conclude ((Changes.refl s).tail (.crane s q ‹_›)) (by rw [State.defineCrane_link]; exact hq) _ _ _ _
  · exact Changes.plain hq _ _ _ _

theorem Changes.runLoadMap (hq : s.link.replyQueued = false) (tag : Nat) (c : ColFields) (es : List LevelFields) :
    Changes b s (runLoadMap tag c es s) := by
  unfold Machine.runLoadMap
  split
  · exact Changes.plain hq _ _ _ _
  · split
    · exact Changes.plain hq _ _ _ _
    · exact Changes.judgedData hq _ _ _ (fun _ => (Moves.refl s).loadLevels _ _ _)

theorem Changes.runStart (hq : s.link.replyQueued = false) (tag : Nat) : Changes true s (runStart tag s) := by
  unfold Machine.runStart
  split
  · exact Changes.plain hq _ _ _ _
  · split
    · exact Changes.plain hq _ _ _ _
    · split
      · exact Changes.plain hq _ _ _ _
      · refine Changes.conclude (Changes.refl s).enterRun ?_ _ _ _ _
        have h1 : s.enterRun.link = s.link.report (.modeChanged .start .run s.mode.speed (s.aisles.map Prod.fst) s.mode.stop) := by
          simp [State.enterRun, State.reportMode]
        rw [h1, Link.report_replyQueued]
        exact hq

theorem Changes.runCancel (hq : s.link.replyQueued = false) (tag n : Nat) : Changes b s (runCancel tag n s) := by
  unfold Machine.runCancel
  split
  · exact Changes.plain hq _ _ _ _
  · split
    · exact Changes.plain hq _ _ _ _
    · split
      · exact Changes.plain hq _ _ _ _
      · exact Changes.judgedData hq _ _ _ (fun _ => (Moves.refl s).cancelJob _)

theorem Changes.runSetLoc (hq : s.link.replyQueued = false) (tag : Nat) (q : SetLocFields) :
    Changes b s (runSetLoc tag q s) := by
  unfold Machine.runSetLoc
  split
  · exact Changes.plain hq _ _ _ _
  · exact Changes.judged hq _ _ _ (fun _ => (Moves.refl s).applySetLoc _ _)

theorem Changes.runSetAttr (hq : s.link.replyQueued = false) (tag o : Nat) (q : LocFields) (a : Nat) :
    Changes b s (runSetAttr tag o q a s) := by
  unfold Machine.runSetAttr
  split
  · exact Changes.plain hq _ _ _ _
  · split
    · exact Changes.plain hq _ _ _ _
    · exact Changes.judgedData hq _ _ _ (fun _ => (Moves.refl s).writeAttrs _ _)

theorem Changes.runMark (hq : s.link.replyQueued = false) (tag o : Nat) (q : ColFields) (w : Nat) :
    Changes b s (runMark tag o q w s) := by
  unfold Machine.runMark
  split
  · exact Changes.plain hq _ _ _ _
  · split
    · exact Changes.plain hq _ _ _ _
    · exact Changes.concluded ((Moves.refl s).markAll _ _ _) hq _ _ _ _

/-- SET_MODE's effect leaves no reply queued. -/
theorem State.applyMode_replyQueued (r : RunState) (v : SpeedClass) (l : List Nat) :
    (s.applyMode r v l).link.replyQueued = s.link.replyQueued := by
  unfold State.applyMode
  dsimp only
  have h1 := (Moves.foldl (fun u k => (Moves.refl u).stageSpeed v k)
    ((Moves.refl s).setMode { s.mode with speed := v } rfl) craneNumbers).replyQueued
  generalize craneNumbers.foldl (State.stageSpeed v) { s with mode := { s.mode with speed := v } } = u at h1 ⊢
  have h2 : (u.setRun r).link.replyQueued = u.link.replyQueued := by
    unfold State.setRun
    dsimp only
    repeat' split
    all_goals simp
  have h3 := ((Moves.refl (u.setRun r)).setActive l).replyQueued
  split
  · rw [((Moves.refl _).reportMode _).replyQueued, h3, h2, h1]
  · rw [h3, h2, h1]

theorem Changes.runSetMode (hq : s.link.replyQueued = false) (c tag : Nat) (r : Result) (m : RunState)
    (v : SpeedClass) (l : List Nat) (d : State → List Byte) :
    Changes true s (s.judgedData c tag r (fun s => s.applyMode m v l) d) := by
  unfold State.judgedData
  split
  · exact ((Changes.refl s).applyMode _ _ _).conclude (by rw [State.applyMode_replyQueued]; exact hq) _ _ _ _
  · exact Changes.plain hq _ _ _ _

theorem Link.restarted_replyQueued {l : Link} (h : l.replyQueued = false) : l.restarted.replyQueued = false := by
  unfold Link.restarted Link.replyQueued at *
  cases l.begun
  · rfl
  · simp only [List.any_eq_false] at h ⊢
    exact fun t ht => h t (List.mem_of_mem_take ht)

theorem Changes.runRestart (hq : s.link.replyQueued = false) (tag : Nat) : Changes true s (runRestart tag s) := by
  unfold Machine.runRestart
  refine Changes.conclude ((Changes.refl s).tail (.restart s)) ?_ _ _ _ _
  have h1 : ∀ (l : List Nat) (t : State), (l.foldl State.restartStop t).link = t.link := by
    intro l
    induction l with
    | nil => intro t; rfl
    | cons k l ih =>
      intro t
      rw [List.foldl_cons, ih]
      unfold State.restartStop
      split <;> rfl
  simp only [State.restarted, h1]
  exact Link.restarted_replyQueued hq

/-- Every request is a chain of changes, taken when no reply is queued. -/
theorem runRequest_changes (i : Instr) (hq : s.link.replyQueued = false) : Changes i.setsRun s (runRequest i s) := by
  cases i <;> simp only [runRequest]
  case status => exact Changes.runStatus hq _ _
  case queryJob => exact Changes.runQueryJob hq _ _
  case queryLoc => exact Changes.runQueryLoc hq _ _
  case queryCrane => exact Changes.runQueryCrane hq _ _
  case queryGroup => exact Changes.runQueryGroup hq _ _
  case setAisle => exact Changes.runSetAisle hq _ _
  case setCrane => exact Changes.runSetCrane hq _ _
  case setStation => exact Changes.judged hq _ _ _ (fun _ => (Moves.refl s).defineStation _)
  case setPolicy => exact Changes.judgedData hq _ _ _ (fun _ => (Moves.refl s).definePolicy _)
  case setOriginator => exact Changes.judged hq _ _ _ (fun _ => (Moves.refl s).defineOriginator _ _ _)
  case loadMap => exact Changes.runLoadMap hq _ _ _
  case start => exact Changes.runStart hq _
  case store => exact Changes.judgedData hq _ _ _ (fun h => (Moves.refl s).applyStore _ (State.checkStore_room h))
  case retrieve => exact Changes.judgedData hq _ _ _ (fun h => (Moves.refl s).applyRetrieve _ (State.checkRetrieve_room h))
  case cancel => exact Changes.runCancel hq _ _
  case recover => exact Changes.judgedData hq _ _ _ (fun h => (Moves.refl s).applyRecover _ (State.checkRecover_room h))
  case groupOpen => exact Changes.judged hq _ _ _ (fun _ => (Moves.refl s).openGroup _ _)
  case groupClose => exact Changes.judgedData hq _ _ _ (fun _ => (Moves.refl s).closeGroup _)
  case groupSkip => exact Changes.judgedData hq _ _ _ (fun _ => (Moves.refl s).settle _ _)
  case stationClear => exact Changes.judgedData hq _ _ _ (fun _ => (Moves.refl s).clearStation _ _)
  case setLoc => exact Changes.runSetLoc hq _ _
  case setAttr => exact Changes.runSetAttr hq _ _ _ _
  case mark => exact Changes.runMark hq _ _ _ _
  case setMode => exact Changes.runSetMode hq _ _ _ _ _ _ _
  case craneCtlResume => exact Changes.judgedData hq _ _ _ (fun _ => (Moves.refl s).applyResume _)
  case craneCtlPark => exact Changes.judgedData hq _ _ _ (fun _ => (Moves.refl s).applyPark _)
  case craneCtlProfile => exact Changes.judgedData hq _ _ _ (fun _ => (Moves.refl s).applyProfile _ _)
  case craneCtlReach => exact Changes.judgedData hq _ _ _ (fun _ => (Moves.refl s).applyReach _ _)
  case restart => exact Changes.runRestart hq _
  case unknownCode => exact Changes.plain hq _ _ _ _
  case identify => exact Changes.plain hq _ _ _ _
  case queryPolicy => exact Changes.plain hq _ _ _ _
  all_goals exact Changes.refl s

/-- Every command answers a next state: the manual stops the controller on nothing. -/
theorem exec_goesOn (i : Instr) (s : State) : goesOn (exec i s) := by
  cases i
  case resumeCheckExpiry =>
    show goesOn (execResumeCheckExpiry s)
    unfold execResumeCheckExpiry
    split <;> exact ⟨_, rfl⟩
  case holdExpiry k =>
    show goesOn (execHoldExpiry k s)
    unfold execHoldExpiry
    split <;> exact ⟨_, rfl⟩
  all_goals exact ⟨_, rfl⟩

/-- A request command taken at once is the request itself; else its body joins the ring or is lost. -/
theorem exec_request (i : Instr) (h : i.isRequest = true) (s : State) : exec i s = .next (s.present i (runRequest i)) := by
  cases i <;> simp only [Instr.isRequest, Bool.false_eq_true] at h <;> rfl

/-- Every command is a chain of changes. -/
theorem exec_changes {i : Instr} {s t : State} (h : exec i s = .next t) : Changes i.setsRun s t := by
  by_cases hr : i.isRequest = true
  · rw [exec_request i hr] at h
    injection h with h
    subst h
    exact Changes.present i (runRequest_changes i)
  · cases i <;> simp only [Instr.isRequest, not_true_eq_false] at hr <;> simp only [exec] at h
    case powerOn =>
      injection h with h
      subst h
      exact (Changes.refl s).tail (.powerOn s)
    case hostFrame =>
      injection h with h
      subst h
      exact (Changes.refl s).lineBytes _ _
    case frameGapTimeout =>
      injection h with h
      subst h
      split
      · exact ((Changes.refl s).linkBytes _).link (.gap _)
      · exact ((Changes.refl s).lineBytes _ _).moves ((Moves.refl _).onPort _ ((Moves.refl _).portGap _))
    case hostReadyChange =>
      injection h with h
      subst h
      exact (Changes.refl s).link (.ready _ _)
    case telegramSent =>
      injection h with h
      subst h
      split
      · exact ((Changes.refl s).link (.sent _)).moves ((Moves.refl _).other rfl rfl rfl rfl rfl rfl rfl Or.inl)
      · exact Changes.refl s
    case stopInputChange =>
      injection h with h
      subst h
      exact ((Moves.refl s).settleStop.changes.stopInput _).moves (Moves.refl _).finish
    case resumeCheckExpiry =>
      unfold execResumeCheckExpiry at h
      split at h
      · injection h with h
        subst h
        exact Changes.refl s
      · injection h with h
        subst h
        exact ((Changes.refl s).endCheck _).moves (Moves.refl _).finish
    case taken =>
      injection h with h
      subst h
      exact ((Moves.refl s).onPort _ ((Moves.refl s).runTaken _ _)).changes
    case done =>
      injection h with h
      subst h
      exact ((Moves.refl s).onPort _ ((Moves.refl s).onDone _ _ _ _)).changes
    case failed =>
      injection h with h
      subst h
      exact ((Moves.refl s).onPort _ ((Moves.refl s).onFailed _ _ _ _ _)).changes
    case state =>
      injection h with h
      subst h
      exact ((Moves.refl s).onPort _ ((Moves.refl s).runState _ _ _ _ _ _)).changes
    case craneBadFrame =>
      injection h with h
      subst h
      exact ((Moves.refl s).onPort _ ((Moves.refl s).runBadFrame _)).changes
    case craneTelegramDiscarded =>
      injection h with h
      subst h
      exact ((Moves.refl s).onPort _ ((Moves.refl s).hear _)).changes
    case takenTimerExpiry =>
      injection h with h
      subst h
      exact (Moves.ite ((Moves.refl s).enterFault _ _ _).finish (Moves.refl s)).changes
    case legTimerExpiry =>
      injection h with h
      subst h
      exact (Moves.ite ((Moves.refl s).enterFault _ _ _).finish (Moves.refl s)).changes
    case silenceTimeout k =>
      injection h with h
      subst h
      have h1 := (Moves.refl s).updCrane k Crane.silent (fun _ => by rfl)
      exact (Moves.ite (h1.enterFault _ _ _).finish h1).changes
    case parkingHoldExpiry =>
      injection h with h
      subst h
      exact (Moves.ite ((Moves.refl s).sleep _).finish (Moves.refl s)).changes
    case earliestStartExpiry =>
      injection h with h
      subst h
      exact (Moves.ite ((Moves.refl s).evaluate _).finish (Moves.refl s)).changes
    case holdExpiry =>
      unfold execHoldExpiry at h
      split at h
      · injection h with h
        subst h
        exact Changes.refl s
      · injection h with h
        subst h
        exact ((Moves.refl s).expireHold _ _).finish.changes
    case stopInputSettled =>
      injection h with h
      subst h
      split
      · exact Changes.refl s
      · exact ((Moves.refl s).settleStop.changes.stopInput _).moves (Moves.refl _).finish
    case bodyLengthOutOfRange =>
      injection h with h
      subst h
      exact (Changes.refl s).lineBytes _ _

theorem runBody_changes {s : State} (hq : s.link.replyQueued = false) (body : List Byte) : Changes true s (runBody body s) := by
  unfold runBody
  split
  · exact (runRequest_changes _ hq).any
  · exact Changes.plain hq _ _ _ _
  · exact Changes.plain hq _ _ _ _

theorem idle_changes (s : State) : Changes true s s.idle := by
  unfold State.idle State.takeRequest
  split
  · exact (Moves.refl s).dispatch.changes
  split
  · rename_i h
    simp [State.canTake] at h
    split
    · exact Changes.refl s
    · rename_i body rest hr
      have h2 : Link.replyQueued { s.link with ring := rest } = false := h.2
      exact ((Changes.refl s).link (.take _ body rest hr)).trans (runBody_changes (s := { s with link := { s.link with ring := rest } }) h2 _)
  · exact (Moves.refl s).tick.changes

/-- Every step is a chain of changes, after the front command has left the queue. -/
theorem step_changes {s t : State} (h : step s = .next t) : Changes true s t := by
  unfold step at h
  split at h
  · injection h with h
    subst h
    exact idle_changes s
  · rename_i i rest _
    have h1 : Moves s { s with pending := rest } := (Moves.refl s).other rfl rfl rfl rfl rfl rfl rfl Or.inl
    exact h1.changes.trans (exec_changes h).any

end

end Sys2Proof.Machine
end

