-- ==== Sys2Proof/Laws/Link.lean ====
section
/-! SUPPORT. The receiver of the host link byte by byte (R174), and the link unit over a RESTART (R181). -/

namespace Sys2Proof.Machine

/-- The body length that two length bytes spell. -/
def lengthOf (high low : Byte) : Nat := high.toNat * 256 + low.toNat

theorem Link.byte_searching {l : Link} (h : l.rx = .searching) (b : Byte) :
    l.byte b = { l with rx := if b = markerByte then .marker else .searching } := by
  simp [Link.byte, rxByte, h]

theorem Link.byte_marker {l : Link} (h : l.rx = .marker) (b : Byte) : l.byte b = { l with rx := .length b } := by
  simp [Link.byte, rxByte, h]

theorem Link.byte_length_out {l : Link} {high b : Byte} (h : l.rx = .length high)
    (hn : lengthOf high b < 3 ∨ 1024 < lengthOf high b) : l.byte b = { l with rx := rescan high b } := by
  unfold lengthOf at hn
  simp [Link.byte, rxByte, h, hn]

theorem Link.byte_length_room {l : Link} {high b : Byte} (h : l.rx = .length high) (h3 : 3 ≤ lengthOf high b)
    (hn : lengthOf high b ≤ 1024) (hr : l.roomFor (lengthOf high b + 2) = true) :
    l.byte b = { l with rx := .body (lengthOf high b + 2) [] true } := by
  unfold lengthOf at *
  have h1 : ¬ (high.toNat * 256 + b.toNat < 3 ∨ 1024 < high.toNat * 256 + b.toNat) := by omega
  simp [Link.byte, rxByte, h, h1, hr]

theorem Link.byte_length_overrun {l : Link} {high b : Byte} (h : l.rx = .length high) (h3 : 3 ≤ lengthOf high b)
    (hn : lengthOf high b ≤ 1024) (hr : l.roomFor (lengthOf high b + 2) = false) :
    l.byte b = { l with rx := .body (lengthOf high b + 2) [] false, overrun := true } := by
  unfold lengthOf at *
  have h1 : ¬ (high.toNat * 256 + b.toNat < 3 ∨ 1024 < high.toNat * 256 + b.toNat) := by omega
  simp [Link.byte, rxByte, h, h1, hr]

theorem Link.byte_body {l : Link} {need : Nat} {got : List Byte} {stored : Bool} (h : l.rx = .body need got stored)
    (hn : 1 < need) (b : Byte) :
    l.byte b = { l with rx := .body (need - 1) (if stored then b :: got else []) stored } := by
  have h1 : ¬ need ≤ 1 := by omega
  simp [Link.byte, rxByte, h, h1]

theorem Link.byte_last_consumed {l : Link} {need : Nat} {got : List Byte} (h : l.rx = .body need got false)
    (hn : need ≤ 1) (b : Byte) : l.byte b = { l with rx := .searching } := by
  simp [Link.byte, rxByte, h, hn]

/-- The last byte of a stored frame: `all` are the bytes of body and check. -/
theorem Link.byte_last {l : Link} {need : Nat} {got : List Byte} (h : l.rx = .body need got true) (hn : need ≤ 1) (b : Byte)
    (all : List Byte) (ha : all = (b :: got).reverse) :
    l.byte b =
      if checkSum (all.take (all.length - 2)) = beNat (all.drop (all.length - 2)) then
        { l with rx := .searching, ring := l.ring ++ [all.take (all.length - 2)] }
      else { l with rx := .searching, errors := countUp l.errors } := by
  subst ha
  by_cases hc : checkSum ((b :: got).reverse.take ((b :: got).reverse.length - 2)) =
      beNat ((b :: got).reverse.drop ((b :: got).reverse.length - 2))
  · have hc' := beq_iff_eq.mpr hc
    rw [if_pos hc]
    simp only [Link.byte, rxByte, h, hn, if_true, frameEvent, hc']
  · have hc' : (checkSum ((b :: got).reverse.take ((b :: got).reverse.length - 2)) ==
        beNat ((b :: got).reverse.drop ((b :: got).reverse.length - 2))) = false := beq_eq_false_iff_ne.mpr hc
    rw [if_neg hc]
    simp only [Link.byte, rxByte, h, hn, if_true, frameEvent, hc']

/-- Bytes never touch the output queue. -/
@[simp] theorem Link.byte_out (l : Link) (b : Byte) : (l.byte b).out = l.out := by
  unfold Link.byte
  dsimp only
  repeat' split
  all_goals rfl

@[simp] theorem Link.bytes_out (l : Link) (bs : List Byte) : (l.bytes bs).out = l.out := by
  unfold Link.bytes
  induction bs generalizing l with
  | nil => rfl
  | cons b bs ih => rw [List.foldl_cons, ih, Link.byte_out]

/-- Only whether the head is begun depends on host-ready. -/
theorem Link.start_eq (l : Link) : l.start = { l with begun := l.begun || (l.hostReady && !l.out.isEmpty) } := by
  unfold Link.start
  split
  · rename_i h
    simp [h]
  · rename_i h
    have h1 : (l.hostReady && !l.out.isEmpty) = false := by simpa using h
    rw [h1, Bool.or_false]

/-! ## RESTART (R167) -/

/-- RESTART's STOP telegrams touch nothing but the crane ports. -/
theorem State.restartStops_eq (s : State) (ks : List Nat) :
    ks.foldl State.restartStop s = { s with portOut := (ks.foldl State.restartStop s).portOut } := by
  induction ks generalizing s with
  | nil => rfl
  | cons k ks ih =>
    rw [List.foldl_cons, ih (s.restartStop k)]
    have h : s.restartStop k = { s with portOut := (s.restartStop k).portOut } := by
      unfold State.restartStop
      split <;> rfl
    rw [h]

@[simp] theorem State.restarted_link (s : State) : s.restarted.link = s.link.restarted := by
  unfold State.restarted
  rw [State.restartStops_eq]

@[simp] theorem State.restarted_locs (s : State) : s.restarted.locs = s.locs.map (fun e => (e.1, e.2.restarted)) := by
  unfold State.restarted
  rw [State.restartStops_eq]

@[simp] theorem State.restarted_cranes (s : State) : s.restarted.cranes = s.cranes.map Crane.restarted := by
  unfold State.restarted
  rw [State.restartStops_eq]

@[simp] theorem State.restarted_aisles (s : State) : s.restarted.aisles = s.aisles := by
  unfold State.restarted
  rw [State.restartStops_eq]

end Sys2Proof.Machine
end

