-- ==== Sys2Proof/Tests/Slice0.lean ====
section
/-! SUPPORT. The model's own tests: ill-formed commands, the manual's worked figures, and for each statement with
hypotheses a state and operands that meet them. -/

open Sys2Proof Sys2Proof.Machine

namespace Sys2Proof.Tests

-- The kernel evaluates these theorems one after another.
set_option Elab.async false

/-! ## Ill-formed commands: one for each check of WellFormed.lean -/

def loc0 : LocFields := { aisle := 2, side := 1, column := 3, level := 2, depth := 0 }
def col0 : ColFields := { aisle := 2, side := 1, column := 3, depth := 0 }
def filter0 : FilterFields := { code := 0, mask := 0x3FFF }
def reach0 : ReachFields := { filterA := filter0, filterB := filter0, bEnable := 0 }
def figures0 : FigureFields :=
  { nvx := 3000, nax := 500, nvy := 800, nay := 400, evx := 1500, eax := 300, evy := 500, eay := 250, ts := 1500
    tf := 6000, tp := 6000, td := 2500 }
def aisle0 : AisleFields :=
  { aisle := 2, columns := 20, levels := 10, depth := 1, x1 := 2600, px := 1350, y1 := 400, py := 1250, twin := 0 }
def crane0 : CraneFields :=
  { crane := 3, aisle := 2, role := 0, endX := 1000, endY := 1200, gap := 0, reach := reach0, figures := figures0 }
def station0 : StationFields := { station := 5, aisle := 2, railEnd := 0, kind := 1, x := 1000, y := 1200, capacity := 4 }
def policy0 : PolicyFields :=
  { offset0 := 0, offset1 := 30000, offset2 := 120000, offset3 := 600000, aging := 8, pairing := 2, minSaving := 2000
    window := 3, holdTime := 120, marginTens := 3000, parkHold := 60 }
def store0 : StoreFields :=
  { job := 212, cls := 2, pallet := 88412, height := 1, station := 4, form := 1
    target := { aisle := 0, side := 0, column := 0, level := 0, depth := 0 }, zone := filter0, originator := 1 }
def retrieve0 : RetrieveFields :=
  { job := 301, cls := 1, form := 0, pallet := 70311, location := loc0, station := 5, group := 0, position := 0
    delay := 0, originator := 1 }
def recover0 : RecoverFields := { crane := 3, form := 1, location := loc0, station := 5 }
def level0 : LevelFields := { occupancy := 1, pallet := 70000, height := 2 }
def setLoc0 : SetLocFields := { location := loc0, occupancy := 0, pallet := 0, height := 2 }

theorem test_wf_loc : ∀ q ∈ [{ loc0 with aisle := 256 }, { loc0 with side := 256 }, { loc0 with column := 256 },
    { loc0 with level := 256 }, { loc0 with depth := 256 }], q.wf = false := by decide
theorem test_wf_col : ∀ q ∈ [{ col0 with aisle := 256 }, { col0 with side := 256 }, { col0 with column := 256 },
    { col0 with depth := 256 }], q.wf = false := by decide
theorem test_wf_filter : ∀ q ∈ [{ filter0 with code := 65536 }, { filter0 with mask := 65536 }], q.wf = false := by decide
theorem test_wf_reach : ∀ q ∈ [{ reach0 with filterA := { filter0 with code := 65536 } },
    { reach0 with filterB := { filter0 with mask := 65536 } }, { reach0 with bEnable := 256 }], q.wf = false := by decide
theorem test_wf_figures : ∀ q ∈ [{ figures0 with nvx := 65536 }, { figures0 with nax := 65536 }, { figures0 with nvy := 65536 },
    { figures0 with nay := 65536 }, { figures0 with evx := 65536 }, { figures0 with eax := 65536 },
    { figures0 with evy := 65536 }, { figures0 with eay := 65536 }, { figures0 with ts := 65536 },
    { figures0 with tf := 65536 }, { figures0 with tp := 65536 }, { figures0 with td := 65536 }], q.wf = false := by decide
theorem test_wf_aisle : ∀ q ∈ [{ aisle0 with aisle := 256 }, { aisle0 with columns := 256 }, { aisle0 with levels := 256 },
    { aisle0 with depth := 256 }, { aisle0 with x1 := 4294967296 }, { aisle0 with px := 65536 }, { aisle0 with y1 := 65536 },
    { aisle0 with py := 65536 }, { aisle0 with twin := 256 }], q.wf = false := by decide
theorem test_wf_crane : ∀ q ∈ [{ crane0 with crane := 256 }, { crane0 with aisle := 256 }, { crane0 with role := 256 },
    { crane0 with endX := 4294967296 }, { crane0 with endY := 65536 }, { crane0 with gap := 65536 },
    { crane0 with reach := { reach0 with bEnable := 256 } }, { crane0 with figures := { figures0 with ts := 65536 } }],
    q.wf = false := by decide
theorem test_wf_station : ∀ q ∈ [{ station0 with station := 256 }, { station0 with aisle := 256 },
    { station0 with railEnd := 256 }, { station0 with kind := 256 }, { station0 with x := 4294967296 },
    { station0 with y := 65536 }, { station0 with capacity := 256 }], q.wf = false := by decide
theorem test_wf_policy : ∀ q ∈ [{ policy0 with offset0 := 4294967296 }, { policy0 with offset1 := 4294967296 },
    { policy0 with offset2 := 4294967296 }, { policy0 with offset3 := 4294967296 }, { policy0 with aging := 256 },
    { policy0 with pairing := 256 }, { policy0 with minSaving := 65536 }, { policy0 with window := 256 },
    { policy0 with holdTime := 65536 }, { policy0 with marginTens := 65536 }, { policy0 with parkHold := 65536 }],
    q.wf = false := by decide
theorem test_wf_level : ∀ q ∈ [{ level0 with occupancy := 256 }, { level0 with pallet := 4294967296 },
    { level0 with height := 256 }], q.wf = false := by decide
theorem test_wf_store : ∀ q ∈ [{ store0 with job := 4294967296 }, { store0 with cls := 256 },
    { store0 with pallet := 4294967296 }, { store0 with height := 256 }, { store0 with station := 256 },
    { store0 with form := 256 }, { store0 with target := { loc0 with side := 256 } },
    { store0 with zone := { filter0 with code := 65536 } }, { store0 with originator := 256 }], q.wf = false := by decide
theorem test_wf_retrieve : ∀ q ∈ [{ retrieve0 with job := 4294967296 }, { retrieve0 with cls := 256 },
    { retrieve0 with form := 256 }, { retrieve0 with pallet := 4294967296 },
    { retrieve0 with location := { loc0 with side := 256 } }, { retrieve0 with station := 256 },
    { retrieve0 with group := 65536 }, { retrieve0 with position := 256 }, { retrieve0 with delay := 65536 },
    { retrieve0 with originator := 256 }], q.wf = false := by decide
theorem test_wf_recover : ∀ q ∈ [{ recover0 with crane := 256 }, { recover0 with form := 256 },
    { recover0 with location := { loc0 with side := 256 } }, { recover0 with station := 256 }], q.wf = false := by decide
theorem test_wf_setLoc : ∀ q ∈ [{ setLoc0 with location := { loc0 with side := 256 } }, { setLoc0 with occupancy := 256 },
    { setLoc0 with pallet := 4294967296 }, { setLoc0 with height := 256 }], q.wf = false := by decide

/-- A request's tag and the fields of the plain commands. -/
theorem test_wf_requests : ∀ i ∈ ([.unknownCode 65536 0x50 [], .unknownCode 0 256 [], .unknownCode 0 0x20 [],
    .unknownCode 0 0x50 (List.replicate 1022 0), .identify 65536, .status 65536 0, .status 0 256, .queryJob 65536 1,
    .queryJob 0 4294967296, .queryLoc 65536 loc0, .queryLoc 0 { loc0 with side := 256 }, .queryCrane 65536 1,
    .queryCrane 0 256, .queryGroup 65536 1, .queryGroup 0 65536, .queryPolicy 65536, .setAisle 65536 aisle0,
    .setAisle 0 { aisle0 with twin := 256 }, .setCrane 65536 crane0, .setCrane 0 { crane0 with role := 256 },
    .setStation 65536 station0, .setStation 0 { station0 with kind := 256 }, .setPolicy 65536 policy0,
    .setPolicy 0 { policy0 with aging := 256 }, .setOriginator 65536 1 1 0 0, .setOriginator 0 256 1 0 0,
    .setOriginator 0 1 256 0 0, .setOriginator 0 1 1 256 0, .setOriginator 0 1 1 0 256, .loadMap 65536 col0 [],
    .loadMap 0 { col0 with side := 256 } [], .loadMap 0 col0 (List.replicate 33 level0),
    .loadMap 0 col0 [{ level0 with height := 256 }], .start 65536, .store 65536 store0, .store 0 { store0 with cls := 256 },
    .retrieve 65536 retrieve0, .retrieve 0 { retrieve0 with cls := 256 }, .cancel 65536 1, .cancel 0 4294967296,
    .recover 65536 recover0, .recover 0 { recover0 with form := 256 }] : List Instr), i.wf = false := by decide +kernel

theorem test_wf_more : ∀ i ∈ ([.groupOpen 65536 1 1, .groupOpen 0 65536 1, .groupOpen 0 1 256, .groupClose 65536 1,
    .groupClose 0 65536, .groupSkip 65536 1 1, .groupSkip 0 65536 1, .groupSkip 0 1 256, .stationClear 65536 1 1,
    .stationClear 0 256 1, .stationClear 0 1 256, .setLoc 65536 setLoc0, .setLoc 0 { setLoc0 with height := 256 },
    .setAttr 65536 1 loc0 0, .setAttr 0 256 loc0 0, .setAttr 0 1 { loc0 with side := 256 } 0, .setAttr 0 1 loc0 256,
    .mark 65536 1 col0 0, .mark 0 256 col0 0, .mark 0 1 { col0 with side := 256 } 0, .mark 0 1 col0 4294967296,
    .setMode 65536 1 0 0, .setMode 0 256 0 0, .setMode 0 1 256 0, .setMode 0 1 0 256, .craneCtlResume 65536 3,
    .craneCtlResume 0 256, .craneCtlPark 65536 3, .craneCtlPark 0 256, .craneCtlProfile 65536 3 figures0,
    .craneCtlProfile 0 256 figures0, .craneCtlProfile 0 3 { figures0 with td := 65536 }, .craneCtlReach 65536 3 reach0,
    .craneCtlReach 0 256 reach0, .craneCtlReach 0 3 { reach0 with bEnable := 256 }, .restart 65536] : List Instr),
    i.wf = false := by decide

theorem test_wf_ports : ∀ i ∈ ([.frameGapTimeout 13 [], .bodyLengthOutOfRange 13 [], .taken 0 1, .taken 13 1, .taken 3 256,
    .done 0 1 0 0 0, .done 3 256 0 0 0, .done 3 1 4294967296 0 0, .done 3 1 0 65536 0, .done 3 1 0 0 4294967296,
    .failed 0 1 1 0 0 0, .failed 3 256 1 0 0 0, .failed 3 1 256 0 0 0, .failed 3 1 1 4294967296 0 0,
    .failed 3 1 1 0 65536 0, .failed 3 1 1 0 0 4294967296, .state 0 0 0 0 0 0, .state 3 256 0 0 0 0, .state 3 0 256 0 0 0,
    .state 3 0 0 4294967296 0 0, .state 3 0 0 0 65536 0, .state 3 0 0 0 0 4294967296, .craneBadFrame 0,
    .craneTelegramDiscarded 13, .takenTimerExpiry 0, .legTimerExpiry 13, .silenceTimeout 0, .parkingHoldExpiry 13,
    .earliestStartExpiry 4294967296, .holdExpiry 0] : List Instr), i.wf = false := by decide

/-! ## The manual's worked figures -/

/-- R52's table: v = 3,000, a = 500. -/
theorem test_axisTime : [1, 1350, 18000, 128250].map (axisTime 3000 500) = [90, 3287, 12000, 48750] := by decide +kernel

/-- R4's example and its place in a filter (R5). -/
theorem test_locCode : locCode { aisle := 2, side := .left, column := 9, level := 8, depth := .rear } = 0x041D := by decide

/-- The STORE request of chapter 10, byte by byte, with its check 02F7h. -/
def storeBytes : List Byte :=
  [0xC3, 0x00, 0x19, 0x20, 0x01, 0x05, 0x00, 0x00, 0x00, 0xD4, 0x02, 0x00, 0x01, 0x59, 0x5C, 0x01, 0x04, 0x01,
   0x00, 0x00, 0x00, 0x00, 0x00, 0x00, 0x00, 0x3F, 0xFF, 0x01, 0x02, 0xF7]

theorem test_storeBytes : frameBytes (encodeRequest (.store 0x0105 store0)) = storeBytes := by decide +kernel

/-! ## Small states: aisle 2 with crane 3 of the worked figures, and a twin aisle 4 with cranes 7 and 8 -/

def point (x y : Nat) : Point := { x := x, y := y }
def spot (side : Side) (column level : Nat) (depth : Depth) : Loc :=
  { aisle := 2, side := side, column := column, level := level, depth := depth }
def holds (pallet : Nat) : LocRec := { occ := .full, pallet := some pallet, height := 2, attrs := .none }
def free : LocRec := { occ := .empty, pallet := none, height := 2, attrs := .none }
def put (t : Assoc LocRec) (e : Loc × LocRec) : Assoc LocRec := locsPut (locKey e.1) e.2 t

def geometry : Aisle := { columns := 20, levels := 10, double := true, x1 := 2600, px := 1350, y1 := 400, py := 1250, twin := false }
def figures : Figures :=
  { normal := { vx := 3000, ax := 500, vy := 800, ay := 400 }, economy := { vx := 1500, ax := 300, vy := 500, ay := 250 }
    ts := 1500, tf := 6000, tp := 6000, td := 2500 }
def anyReach : Reach := { a := Filter.anywhere, b := Filter.anywhere, bOn := false }
def crane3 : Crane :=
  { Crane.reset with
    cfg := some { aisle := 2, role := .single, endPos := point 1000 1200, gap := 0 }, chan := .ready
    pos := some (point 1000 1200), figures := some figures, reach := some anyReach, lastLeg := 41 }
def station (kind : StationKind) (y : Nat) (occ : Nat) (queue : List Nat) : Station :=
  { aisle := 2, railEnd := .front, kind := kind, point := point 1000 y, capacity := 4, occ := occ, pend := 0, queue := queue }

/-- Chapter 04's table of locations, and the source of retrieve 301. -/
def map2 : Assoc LocRec :=
  [(spot .left 3 1 .front, holds 1), (spot .left 3 1 .rear, holds 2), (spot .right 3 1 .front, free),
   (spot .right 3 1 .rear, free), (spot .left 3 2 .front, { free with attrs := { Attrs.none with noStore := true } }),
   (spot .left 3 2 .rear, holds 3), (spot .right 3 2 .front, free), (spot .right 3 2 .rear, holds 4),
   (spot .left 4 1 .front, free), (spot .left 4 1 .rear, holds 5), (spot .left 9 8 .rear, holds 70311),
   (spot .left 9 8 .front, { free with height := 0 })].foldl put []

def demo : State :=
  { State.reset with
    aisles := [(2, geometry)], locs := map2, cranes := State.reset.cranes.set 2 crane3
    stations := [(4, station .infeed 400 0 []), (5, station .outfeed 1200 1 [])]
    readyOrder := [3], mode := { Mode.reset with run := .run, active := [2], stop := false, settled := true }
    policy := { Policy.reset with pairing := .both } }

def inMode (r : RunState) (s : State) : State := { s with mode := { s.mode with run := r } }
def set3 (f : Crane → Crane) (s : State) : State := s.updCrane 3 f

def job0 : Job :=
  { num := 301, kind := .retrieve, originator := 1, cls := 1, adm := 1, pallet := 70311, height := 0, station := 5
    stationNamed := true, source := some (spot .left 9 8 .rear), dest := none, zone := none, group := 0, position := 0
    delay := none, linked := 0, state := .ready, bypass := 0, crane := 0, srcRes := some .admission, dstRes := none
    inspect := false, holdReleased := false }
def storeJob : Job :=
  { job0 with
    num := 212, kind := .store, cls := 2, adm := 2, pallet := 88412, height := 1, station := 4, source := none
    zone := some Filter.anywhere, srcRes := none }

/-- Retrieve 301 READY with its source OUTBOUND, store 212 READY at the head of its queue. -/
def twoJobs : State :=
  { demo with
    pool := [job0, storeJob], admNext := 3, locs := put map2 (spot .left 9 8 .rear, { holds 70311 with occ := .outbound })
    stations := [(4, station .infeed 400 0 [212]), (5, station .outfeed 1200 1 [])] }

/-- A passing pair of results. -/
def estimates (s : State) : List Nat × Nat × List Nat := ((s.crane 3).plan.map Leg.est, (s.crane 3).estimate, s.pool.map Job.crane)

/-- Chapters 03 and 04: the destination of store 212, the scores of both candidates, and their saving. -/
theorem test_candidates : (twoJobs.candidates 3).map (fun c => (c.job.num, c.score, c.dest)) =
    [(301, 71376, none), (212, 143695, some (spot .right 3 2 .front))] := by decide +kernel
theorem test_saving : crane3.saving (point 5300 1650) (point 13400 9150) (point 1000 1200) = 7929 := by decide +kernel

/-- Chapter 03: the dual plan's legs and estimate; under STORE_LEADS the retrieve runs alone. -/
theorem test_dual : estimates (twoJobs.select 3).1 = ([10329, 13366, 21375, 19438], 64508, [3, 3]) := by decide +kernel
theorem test_single : estimates ({ twoJobs with policy := Policy.reset }.select 3).1 = ([21938, 19438], 41376, [3, 0]) := by
  decide +kernel

/-! ## Results of requests, with the boundary of every check -/

def replyResult : Telegram → Option Result
  | .reply _ _ r _ _ _ => some r
  | .report _ => none

def after (i : Instr) (s : State) : State :=
  match exec i s with
  | .next t => t
  | .fault _ | .refused _ => s

def resultOf (s : State) (i : Instr) : Option Result := (after i s).link.out.findSome? replyResult

def config : State := inMode .config demo
def inHold : State := inMode .hold demo
def inSafe : State := inMode .safe demo
def grouped : State :=
  { demo with groups := [(41, { status := .opened, d := 2, held := [(4, 411)], settled := [3] }),
      (42, { status := .closing, d := 1, held := [(2, 301)], settled := [] })] }
def unresolved : State := set3 (fun c => { c with load := some { id := 71230, resolved := false } }) demo
def uncertain : State := { twoJobs with pool := [{ job0 with state := .uncertain .fetch, crane := 3 }] }

/-- Position 4 of a group whose counter stands at 2 is assigned: a window of 2 or less is refused. -/
def promised : State :=
  { inMode .hold grouped with pool := [{ job0 with num := 411, group := 41, position := 4, state := .assigned }] }

theorem test_unknownCode_results : resultOf demo (.unknownCode 1 0x50 []) = some .unknownCode := by decide +kernel
theorem test_status_results : [0, 1, 2].map (fun n => resultOf demo (.status 1 n)) = [some .ok, some .ok, some .badField] := by
  decide +kernel
theorem test_queryJob_results : [0, 301, 302].map (fun n => resultOf twoJobs (.queryJob 1 n)) =
    [some .badField, some .ok, some .unknownJob] := by decide +kernel
theorem test_queryLoc_results : [loc0, { loc0 with aisle := 1 }, { loc0 with column := 21 }, { loc0 with level := 0 }].map
    (fun q => resultOf demo (.queryLoc 1 q)) = [some .ok, some .notConfigured, some .badField, some .badField] := by
  decide +kernel
theorem test_queryCrane_results : [0, 3, 12, 13].map (fun k => resultOf demo (.queryCrane 1 k)) =
    [some .badField, some .ok, some .notConfigured, some .badField] := by decide +kernel
theorem test_queryGroup_results : [0, 41, 65535].map (fun g => resultOf grouped (.queryGroup 1 g)) =
    [some .badField, some .ok, some .noGroup] := by decide +kernel
theorem test_setAisle_results : (resultOf demo (.setAisle 1 aisle0) = some .wrongMode) ∧
    ([aisle0, { aisle0 with aisle := 9 }, { aisle0 with columns := 97 }, { aisle0 with levels := 33 },
      { aisle0 with columns := 96, px := 5000 }].map (fun q => resultOf config (.setAisle 1 q)) =
        [some .ok, some .badField, some .badField, some .badField, some .badField]) := by decide +kernel
theorem test_setCrane_results : (resultOf demo (.setCrane 1 crane0) = some .wrongMode) ∧
    ([crane0, { crane0 with crane := 13 }, { crane0 with aisle := 1 }, { crane0 with role := 1 }, { crane0 with crane := 4 },
      { crane0 with figures := { figures0 with ts := 5001 } }].map (fun q => resultOf config (.setCrane 1 q)) =
        [some .ok, some .badField, some .notConfigured, some .badField, some .badField, some .badField]) := by decide +kernel
theorem test_setStation_results : (resultOf demo (.setStation 1 station0) = some .wrongMode) ∧
    ([station0, { station0 with station := 17 }, { station0 with aisle := 1 }, { station0 with capacity := 7 }].map
      (fun q => resultOf config (.setStation 1 q)) = [some .ok, some .badField, some .notConfigured, some .badField]) := by
  decide +kernel
theorem test_setPolicy_results : (resultOf demo (.setPolicy 1 policy0) = some .wrongMode) ∧
    ([policy0, { policy0 with offset3 := 3600001 }, { policy0 with offset0 := 30001 }, { policy0 with marginTens := 499 },
      { policy0 with window := 1 }].map (fun q => resultOf promised (.setPolicy 1 q)) =
        [some .ok, some .badField, some .badField, some .badField, some .inProgress]) := by decide +kernel
theorem test_setOriginator_results : (resultOf demo (.setOriginator 1 1 2 15 0) = some .wrongMode) ∧
    ([(7, 8, 15, 15), (8, 2, 0, 0), (1, 9, 0, 0), (1, 0, 16, 0), (1, 0, 0, 0)].map
      (fun (o, n, m, p) => resultOf config (.setOriginator 1 o n m p)) =
        [some .ok, some .badField, some .badField, some .badField, some .ok]) := by decide +kernel
theorem test_loadMap_results : (resultOf demo (.loadMap 1 col0 [level0]) = some .wrongMode) ∧
    ([[level0], [], List.replicate 11 { level0 with occupancy := 0 }, [{ level0 with pallet := 0 }], [level0, level0],
      [{ level0 with pallet := 70311 }], List.replicate 10 { level0 with occupancy := 0 }].map (fun es => resultOf inHold (.loadMap 1 col0 es)) =
        [some .ok, some .badField, some .badField, some .badField, some .duplicatePallet, some .duplicatePallet, some .ok]) := by
  decide +kernel
theorem test_start_results : [demo, config, { config with aisles := [] }, { config with mode := { config.mode with stop := true } }].map
    (fun s => resultOf s (.start 1)) = [some .wrongMode, some .ok, some .configError, some .stopActive] := by decide +kernel
theorem test_store_results : (resultOf config (.store 1 store0) = some .wrongMode) ∧
    ([store0, { store0 with job := 0 }, { store0 with job := 2147483647 }, { store0 with job := 2147483648 },
      { store0 with zone := { code := 16384, mask := 0 } }, { store0 with pallet := 70311 }, { store0 with station := 5 },
      { store0 with zone := { code := 12288, mask := 0 } }, { store0 with form := 0, target := loc0 },
      { store0 with form := 0, target := { loc0 with level := 1 } }, { store0 with form := 0, target := { loc0 with depth := 1 } }].map
        (fun q => resultOf demo (.store 1 q)) =
        [some .ok, some .badField, some .ok, some .badField, some .badField, some .duplicatePallet, some .badField,
          some .noReach, some .ok, some .ok, some .locationUnavailable]) := by decide +kernel
theorem test_store_more : [{ store0 with job := 301 }, { store0 with job := 9 }].map (fun q => resultOf twoJobs (.store 1 q)) =
    [some .duplicateJob, some .duplicatePallet] ∧
    resultOf { demo with stations := [(4, station .infeed 400 0 [1, 2, 3, 6])] } (.store 1 store0) = some .infeedFull ∧
    resultOf { demo with admNext := 4294967296 } (.store 1 store0) = some .poolFull := by decide +kernel
theorem test_retrieve_results : (resultOf config (.retrieve 1 retrieve0) = some .wrongMode) ∧
    ([retrieve0, { retrieve0 with job := 0 }, { retrieve0 with pallet := 9 }, { retrieve0 with station := 4 },
      { retrieve0 with form := 1 }, { retrieve0 with form := 1, location := { loc0 with depth := 1 }, delay := 65535 },
      { retrieve0 with group := 40, position := 1 }, { retrieve0 with group := 41, position := 1 },
      { retrieve0 with group := 41, position := 3 }, { retrieve0 with group := 41, position := 4 },
      { retrieve0 with group := 42, position := 5 }, { retrieve0 with group := 41, position := 255 },
      { retrieve0 with group := 41, position := 0 }].map (fun q => resultOf grouped (.retrieve 1 q)) =
        [some .ok, some .badField, some .unknownPallet, some .badField, some .locationUnavailable, some .ok, some .noGroup,
          some .stalePosition, some .duplicatePosition, some .duplicatePosition, some .groupClosing, some .ok, some .badField]) := by
  decide +kernel
theorem test_retrieve_more : [{ retrieve0 with job := 212 }, { retrieve0 with job := 9 }].map
      (fun q => resultOf twoJobs (.retrieve 1 q)) = [some .duplicateJob, some .duplicatePallet] ∧
    resultOf (set3 (fun c => { c with reach := none }) demo) (.retrieve 1 retrieve0) = some .noReach := by decide +kernel
theorem test_cancel_results : (resultOf config (.cancel 1 301) = some .wrongMode) ∧
    ([0, 9, 301, 212].map (fun n => resultOf twoJobs (.cancel 1 n)) = [some .badField, some .unknownJob, some .ok, some .ok]) ∧
    ([{ job0 with state := .active }, { job0 with state := .uncertain .put }, { job0 with kind := .recover },
      { job0 with state := .assigned, crane := 3 }].map (fun j => resultOf { twoJobs with pool := [j] } (.cancel 1 301)) =
        [some .inProgress, some .jobUncertain, some .notOwner, some .ok]) := by decide +kernel
theorem test_recover_results : (resultOf (inMode .safe unresolved) (.recover 1 recover0) = some .wrongMode) ∧
    ([recover0, { recover0 with crane := 0 }, { recover0 with crane := 12 }, { recover0 with station := 4 },
      { recover0 with form := 0 }, { recover0 with form := 0, location := { loc0 with depth := 1 } },
      { recover0 with form := 0, location := { loc0 with aisle := 1 } }].map (fun q => resultOf unresolved (.recover 1 q)) =
        [some .ok, some .badField, some .notConfigured, some .badField, some .ok, some .locationUnavailable,
          some .notConfigured]) ∧
    resultOf demo (.recover 1 recover0) = some .noLoad := by decide +kernel
theorem test_groupOpen_results : (resultOf config (.groupOpen 1 9 1) = some .wrongMode) ∧
    ([(0, 1), (65535, 255), (9, 0), (41, 1)].map (fun (g, p) => resultOf grouped (.groupOpen 1 g p)) =
      [some .badField, some .ok, some .badField, some .duplicateJob]) := by decide +kernel
theorem test_groupClose_results : (resultOf config (.groupClose 1 9) = some .wrongMode) ∧
    ([0, 41, 42, 65535].map (fun g => resultOf grouped (.groupClose 1 g)) =
      [some .badField, some .ok, some .groupClosing, some .noGroup]) := by decide +kernel
theorem test_groupSkip_results : (resultOf config (.groupSkip 1 41 2) = some .wrongMode) ∧
    ([(0, 2), (43, 2), (41, 1), (41, 2), (41, 3), (41, 4), (41, 255), (41, 0)].map (fun (g, p) => resultOf grouped (.groupSkip 1 g p)) =
      [some .badField, some .noGroup, some .stalePosition, some .ok, some .duplicatePosition, some .inProgress, some .ok,
        some .badField]) := by decide +kernel
theorem test_stationClear_results : (resultOf config (.stationClear 1 5 1) = some .wrongMode) ∧
    ([(0, 1), (5, 0), (5, 255), (16, 1), (4, 1)].map (fun (n, c) => resultOf demo (.stationClear 1 n c)) =
      [some .badField, some .ok, some .ok, some .notConfigured, some .badField]) := by decide +kernel
theorem test_setLoc_results : [setLoc0, { setLoc0 with occupancy := 1 }, { setLoc0 with occupancy := 2 },
      { setLoc0 with occupancy := 1, pallet := 70311 }, { setLoc0 with height := 4 },
      { setLoc0 with location := { loc0 with side := 0, column := 9, level := 8, depth := 1 } }].map
        (fun q => resultOf twoJobs (.setLoc 1 q)) =
    [some .ok, some .badField, some .badField, some .duplicatePallet, some .badField, some .locationReserved] := by
  decide +kernel
theorem test_setAttr_results : [(0, 0), (1, 15), (7, 16), (8, 0)].map (fun (o, a) => resultOf demo (.setAttr 1 o loc0 a)) =
    [some .badField, some .ok, some .badField, some .badField] := by decide +kernel
theorem test_mark_results : [(0, 0), (1, 4294967295), (7, 0), (8, 0)].map (fun (o, w) => resultOf demo (.mark 1 o col0 w)) =
    [some .badField, some .ok, some .ok, some .badField] := by decide +kernel
theorem test_setMode_results : [config, inSafe].map (fun s => resultOf s (.setMode 1 1 0 2)) = [some .wrongMode, some .wrongMode] ∧
    ([(1, 0, 2), (2, 1, 0), (3, 0, 0), (1, 2, 0), (1, 0, 255)].map (fun (r, v, a) => resultOf demo (.setMode 1 r v a)) =
      [some .ok, some .ok, some .badField, some .badField, some .notConfigured]) := by decide +kernel
theorem test_resume_results : (resultOf inSafe (.craneCtlResume 1 3) = some .wrongMode) ∧
    ([0, 3, 12, 13].map (fun k => resultOf (set3 (fun c => { c with chan := .listen, silence := 3000 }) demo) (.craneCtlResume 1 k)) =
      [some .badField, some .ok, some .notConfigured, some .badField]) ∧
    ([set3 (fun c => { c with chan := .fault, silence := 3001 }) demo, set3 (fun c => { c with chan := .listen }) uncertain,
      set3 (fun c => { c with chan := .parking }) demo, set3 (fun c => { c with chan := .parking, curLeg := 9 }) demo,
      set3 (fun c => { c with chan := .parked }) demo, demo].map (fun s => resultOf s (.craneCtlResume 1 3)) =
      [some .craneSilent, some .jobUncertain, some .ok, some .wrongMode, some .ok, some .wrongMode]) := by decide +kernel
theorem test_park_results : [inSafe, demo, set3 (fun c => { c with chan := .busy }) demo, set3 (fun c => { c with pos := none }) demo,
      set3 (fun c => { c with chan := .listen }) demo].map (fun s => resultOf s (.craneCtlPark 1 3)) =
    [some .wrongMode, some .ok, some .ok, some .wrongMode, some .wrongMode] := by decide +kernel
theorem test_profile_results : [inSafe, demo, set3 (fun c => { c with chan := .busy, pendFigures := some figures }) demo].map
      (fun s => resultOf s (.craneCtlProfile 1 3 figures0)) = [some .wrongMode, some .ok, some .collision] ∧
    resultOf demo (.craneCtlProfile 1 3 { figures0 with nvx := 8001 }) = some .badField ∧
    resultOf demo (.craneCtlProfile 1 1 figures0) = some .notConfigured := by decide +kernel
theorem test_reach_results : [inSafe, demo, set3 (fun c => { c with chan := .busy, pendReach := some anyReach }) demo].map
      (fun s => resultOf s (.craneCtlReach 1 3 reach0)) = [some .wrongMode, some .ok, some .collision] ∧
    resultOf demo (.craneCtlReach 1 3 { reach0 with bEnable := 2 }) = some .badField ∧
    resultOf demo (.craneCtlReach 1 13 reach0) = some .badField := by decide +kernel

/-! ## The hypotheses of the statements: states and operands that meet them -/

/-- The loaded demonstration states take a request at once and owe nothing. -/
theorem meets_taken : ∀ s ∈ [demo, config, inHold, inSafe, grouped, twoJobs, unresolved, uncertain, promised],
    s.takes ∧ s.quiet := by decide +kernel

def waiting : State := { demo with link := { demo.link with ring := [encodeRequest (.identify 7)] } }
def answered : State := demo.replied 0x81 7 .ok [0xD0]

theorem meets_StepRunsFrontCommand : ({ demo with pending := [.status 1 0, .start 2] } : State).pending = .status 1 0 :: [.start 2] :=
  rfl
theorem meets_IdleStep : ∀ s ∈ [waiting, demo, answered], s.pending = [] ∧ s.passRun = none ∧
    ¬ (s.passDue = true ∧ s.mode.run = .run) := by decide +kernel
theorem meets_IdleBranches : waiting.link.ring = encodeRequest (.identify 7) :: [] ∧
    (∀ t ∈ waiting.link.out, t.isReply = false) ∧ demo.link.ring = [] ∧ (∃ t ∈ answered.link.out, t.isReply = true) := by
  decide +kernel

/-- Crane 3 still to be visited by a running pass. -/
def visiting : State := { twoJobs with passRun := some { toVisit := [3], assigned := [] } }
theorem meets_Pass : ({ twoJobs with passDue := true } : State).passRun = none ∧ twoJobs.mode.run = .run ∧
    visiting.pending = [] ∧ visiting.passRun = some { toVisit := 3 :: [], assigned := [] } ∧
    ((visiting.crane 3).chan = .ready ∧ (visiting.crane 3).aisleNo ∈ visiting.mode.active ∧ (visiting.crane 3).pos ≠ none) ∧
    (twoJobs.select 3).2 = true ∧ (demo.select 3).2 = false ∧
    ((set3 (fun c => { c with chan := .listen }) visiting).crane 3).chan ≠ .ready := by decide +kernel
/-- R71, R91: the step of the last visit ends the pass and sends the first leg; a HOLD before it leaves nobody to visit. -/
theorem test_pass : (match step visiting with
      | .next t => ((t.crane 3).curLeg, t.passRun)
      | .fault _ | .refused _ => (0, none)) = (42, none) ∧
    (after (.setMode 1 2 0 2) visiting).passRun = some { toVisit := [], assigned := [] } := by decide +kernel
theorem meets_RequestBytesReadBack : ∀ i ∈ ([.store 65535 store0, .loadMap 0 col0 [], .unknownCode 1 0 []] : List Instr),
    i.isRequest = true ∧ i.wf = true := by decide +kernel
theorem meets_MisfitRequest : (0x01, 0) ∈ requestLengths ∧ (0x23, 8) ∈ requestLengths ∧ 65535 < 65536 ∧
    ([0] : List Byte).length ≠ 0 ∧ ([] : List Byte).length ≠ 8 ∧ demo.quiet ∧ demo.takes ∧
    (∀ n ≤ 32, (List.replicate 5 (0 : Byte)).length ≠ 4 + 6 * n) ∧
    (∀ n ≤ 32, (List.replicate 202 (0 : Byte)).length ≠ 4 + 6 * n) ∧
    (∀ n ∈ [2, 11, 26], (List.replicate 3 (0 : Byte)).length ≠ n) ∧
    ¬ ((5 : Byte) = 1 ∨ (5 : Byte) = 2) ∧ ((3 : Byte) = 3 ∧ (List.replicate 9 (0 : Byte)).length ≠ 24) := by decide +kernel
theorem meets_RequestTakenAtOnceOrWaits : (Instr.store 1 store0).isRequest = true ∧ (Instr.store 1 store0).wf = true ∧
    demo.takes ∧ waiting.link.ring ≠ [] ∧ answered.link.replyQueued = true := by decide +kernel
theorem meets_ReceiverTakesFrames : demo.link.rx = .searching ∧
    3 ≤ ([0x01, 0, 7] : List Byte).length ∧ (List.replicate 1024 (0 : Byte)).length ≤ 1024 ∧
    ([] : List Byte).length < 3 + 2 ∧ (List.replicate 1025 (0 : Byte)).length < 1024 + 2 ∧
    (0 : Byte).toNat * 256 + (2 : Byte).toNat < 3 ∧ 1024 < (4 : Byte).toNat * 256 + (1 : Byte).toNat ∧
    (demo.crane 3).cfg ≠ none ∧ (demo.crane 3).rx = .searching ∧ (0 : Byte).toNat * 256 + (1 : Byte).toNat < 2 := by
  decide +kernel
theorem meets_HostReadyAndSentTelegrams : answered.link.begun = true ∧
    answered.link.out = [.reply 0x81 7 .ok false false [0xD0]] := by decide +kernel
theorem meets_RepliesAndReports : ∀ j ∈ twoJobs.pool, twoJobs.work.concerns j = false := by decide +kernel
theorem meets_Status : 1 < 2 ∧ (1 ≤ 1 : Prop) := by decide
theorem meets_QueryPolicy : config.checkPolicy policy0 = .ok ∧ inHold.checkPolicy policy0 = .ok := by decide +kernel

/-- A crane alone in its aisle, or no crane at all: no two cranes in one role. -/
theorem rolesUnique_of {s : State} (k : Nat) (h : ∀ j ∈ craneNumbers, j ≠ k → (s.crane j).cfg = none) : s.rolesUnique := by
  have key : ∀ j n r, (s.crane j).hasRole n r = true → j = k := by
    intro j n r hj
    by_contra hne
    have : (s.crane j).cfg = none := by
      by_cases hr : 1 ≤ j ∧ j ≤ 12
      · exact h j (by simp [craneNumbers]; omega) hne
      · rw [State.crane_outside s hr]; rfl
    simp [Crane.hasRole, this] at hj
  intro i j n r hi hj
  rw [key i n r hi, key j n r hj]

theorem noTwin {s : State} {k : Nat} (h : s.twinOf k = none) : ∀ t, s.twinOf k = some t → (s.crane t).request = none := by
  intro t ht
  rw [h] at ht
  cases ht

theorem meets_SetCrane : roleOf 0 = some .single ∧ reachOf reach0 = some anyReach ∧ figuresOf figures0 = some figures ∧
    config.aisle 2 = some geometry ∧ config.mode.run = .config ∧ crane0.endX ≤ 200000 ∧ crane0.endY ≤ 50000 ∧
    figuresOf { figures0 with nvx := 99 } = none ∧ reachOf { reach0 with bEnable := 2 } = none ∧ config.aisle 1 = none := by
  decide +kernel
theorem meets_SetPolicy : inHold.mode.run = .hold ∧ promised.policy.window ≤ min 8 (max 1 3) ∧ min 8 (max 1 0) < promised.policy.window ∧
    (∃ e ∈ promised.groups, ∃ h ∈ e.2.held, ∃ j ∈ promised.pool, promised.job h.2 = some j ∧ e.2.d + 1 ≤ h.1 ∧
      j.dispatched = true) := by decide +kernel
theorem meets_StationsAndOriginators : config.mode.run = .config ∧ inHold.mode.run = .hold ∧ attrsOf 15 = some .all ∧
    attrsOf 0 = some .none ∧ config.aisle 1 = none ∧ config.aisle 2 = some geometry := by decide +kernel
theorem meets_Start : config.rolesUnique ∧ config.configFault = none ∧
    ({ config with aisles := [] } : State).configFault = some (1, 0) :=
  ⟨rolesUnique_of 3 (by decide +kernel), by decide +kernel, by decide +kernel⟩
theorem meets_Addresses : demo.aisle 1 = none ∧ demo.aisle 2 = some geometry ∧
    (spot .right 96 32 .rear).inRanges ∧ (spot .left 1 1 .front).inRanges := by decide +kernel
theorem meets_SetLoc : (demo.checkLoc loc0).toOption = some (spot .right 3 2 .front) ∧
    exceptResult (demo.checkLoc { loc0 with aisle := 1 }) = .notConfigured ∧
    (spot .right 3 2 .front).inRanges := by decide +kernel
theorem meets_LoadMap : inHold.mode.run = .hold ∧ (inHold.checkCol col0).toOption = some (spot .right 3 1 .front) ∧
    exceptResult (inHold.checkCol { col0 with depth := 2 }) = .badField ∧ (spot .right 3 1 .front).inRanges ∧
    inHold.aisle 2 = some geometry ∧ geometry.levels ≤ 32 ∧
    ((twoJobs.loc (spot .left 9 8 .rear)).occ = .inbound ∨ (twoJobs.loc (spot .left 9 8 .rear)).occ = .outbound) := by
  decide +kernel
theorem meets_SetAttr : attrsOf 2 = some { Attrs.none with noRetrieve := true } ∧
    (∀ j ∈ demo.pool, j.kind = .retrieve → j.state = .ready → j.source ≠ some (spot .right 3 2 .front)) ∧
    (∀ f ∈ [Attrs.noStore, Attrs.noRetrieve, Attrs.inspect, Attrs.noRelocate], f { Attrs.none with noRetrieve := true } =
      if f (demo.origin 1 2).mask then f { Attrs.none with noRetrieve := true }
      else f (demo.loc (spot .right 3 2 .front)).attrs) ∧
    (twoJobs.loc (spot .left 9 8 .rear)).attrs.noRetrieve = false ∧
    job0 ∈ twoJobs.pool ∧ job0.kind = .retrieve ∧ job0.state = .ready ∧ job0.source = some (spot .left 9 8 .rear) ∧
    job0.srcRes ≠ none ∧ (∀ i ∈ twoJobs.pool, i.num = job0.num ∨ i.source = job0.source → i = job0) := by decide +kernel

/-- The source of READY retrieve 301 already carries NO_RETRIEVE. -/
def standing : State :=
  { twoJobs with locs := put twoJobs.locs (spot .left 9 8 .rear,
      { holds 70311 with occ := .outbound, attrs := { Attrs.none with noRetrieve := true } }) }
/-- R11: setting NO_RETRIEVE pulls the job back; a request that finds it set, and sets INSPECT, does not. -/
theorem test_pullBack : [(twoJobs, 2), (standing, 6)].map (fun (s, a) =>
      ((after (.setAttr 1 1 { aisle := 2, side := 0, column := 9, level := 8, depth := 1 } a) s).job 301).map Job.state) =
    [some (.waiting .blockedOut), some .ready] := by decide +kernel
theorem meets_Mark : (∀ j ∈ demo.pool, j.kind = .retrieve → j.state = .ready → ∀ v ∈ [1, 10], j.source ≠ some (spot .right 3 v .front)) ∧
    ((List.range 10).map (· + 1)).filter (fun v => !Nat.testBit 4294967295 (v - 1)) = [] := by decide +kernel
/-- Originator 1's preset in aisle 2 is NO_RETRIEVE. -/
def marking : State := { after (.setOriginator 1 1 2 15 2) (inMode .hold twoJobs) with link := twoJobs.link }
theorem meets_MarkPullsBack : (let m := spot .left 9 8 .rear
    8 ∈ ((List.range 10).map (· + 1)).filter (fun v => !Nat.testBit 0 (v - 1)) ∧
      ((marking.loc m).attrs.write (marking.origin 1 2).mask (marking.origin 1 2).preset).noRetrieve = true ∧
      (marking.loc m).attrs.noRetrieve = false ∧ job0 ∈ marking.pool ∧ job0.source = some m ∧ marking.takes ∧ marking.quiet) := by
  decide +kernel
theorem meets_Store : demo.station 4 = some (station .infeed 400 0 []) ∧
    demo.servingCrane (station .infeed 400 0 []) = some 3 ∧ (demo.crane 3).reach = some anyReach ∧
    anyReach.hits (locCode (spot .right 3 2 .front)) = true ∧ spot .right 3 2 .front ∈ geometry.allLocs 2 := by decide +kernel
theorem meets_Retrieve : demo.findPallet 70311 = some (spot .left 9 8 .rear) ∧ demo.findPallet 9 = none ∧
    (demo.crane 3).inAisle 2 = true ∧ demo.serves 3 (station .outfeed 1200 1 []) = true := by decide +kernel

/-! ### Jobs, groups and stations -/

/-- Retrieve 301 before it is READY, with one fact of R37 changed. -/
def asking : Job := { job0 with state := .waiting .notYet, srcRes := none, delay := some 5000 }
def asks (l : Loc) (r : LocRec) : State := { demo with pool := [asking], locs := put map2 (l, r) }
def clearAhead : State := asks (spot .left 9 8 .rear) (holds 70311)
def blocked : State := asks (spot .left 9 8 .front) (holds 9)

theorem meets_Readiness : clearAhead.job 301 = some asking ∧ asking.source = some (spot .left 9 8 .rear) ∧
    (spot .left 9 8 .rear).inRanges ∧ clearAhead.relocationOf 70311 = none ∧ blocked.relocationOf 70311 = none ∧
    blocked.internalNumber = 2147483648 ∧ (∀ i ∈ blocked.pool, i.num ≠ 2147483648) := by decide +kernel

/-- R37's six outcomes, and 11.2's relocation. -/
theorem test_readiness : [clearAhead, asks (spot .left 9 8 .rear) free,
      asks (spot .left 9 8 .rear) { holds 70311 with attrs := { Attrs.none with noRetrieve := true } },
      asks (spot .left 9 8 .front) { free with occ := .inbound }, asks (spot .left 9 8 .front) .created, blocked,
      { clearAhead with pool := [asking, { job0 with num := 2147483648, kind := .relocate }] }].map
        (fun s => (after (.earliestStartExpiry 301) (inMode .hold s)).pool.map (fun j => (j.num, j.state))) =
    [[(301, .ready)], [], [(301, .waiting .blockedOut)], [(301, .waiting .pairBusy)], [(301, .waiting .frontFixed)],
      [(301, .waiting .relocating), (2147483648, .ready)], [(301, .waiting .relocating), (2147483648, .ready)]] := by
  decide +kernel
/-- Retrieves 301 and 302 of the two depths of one pair, both PAIR_BUSY, and the pair touched. -/
def rivals : State :=
  { demo with
    pool := [{ asking with state := .waiting .pairBusy, delay := none },
      { asking with num := 302, adm := 2, pallet := 9, source := some (spot .left 9 8 .front), state := .waiting .pairBusy, delay := none }]
    locs := put map2 (spot .left 9 8 .front, { holds 9 with occ := .full })
    work := { pairs := [locKey (spot .left 9 8 .front)], allBusy := false } }
/-- R38: the younger, of the FRONT, finds the pair taken by the relocation that the older has made of its own FRONT. -/
theorem test_rivals : rivals.finish.pool.map (fun j => (j.num, j.state)) =
    [(301, .waiting .relocating), (302, .waiting .relocating), (2147483648, .ready)] ∧ rivals.finish.quiet := by decide +kernel
theorem meets_Reexamination :
    let waits : JobState → Bool :=
      fun st => st == .waiting .pairBusy || st == .waiting .frontFixed || st == .waiting .blockedOut
    let concerned : State → List Nat := fun s => (s.pool.filter (fun j => j.kind == .retrieve && waits j.state &&
      ((s.work.allBusy && j.state == .waiting .pairBusy) ||
        j.source.any (fun l => s.work.pairs.contains (locKey { l with depth := .front }))))).map Job.num
    let round : State → State := fun s => (concerned s).foldl
      (fun u n => if (u.job n).any (fun j => waits j.state) then u.evaluate n else u)
      { s with work := { pairs := [], allBusy := false } }
    1 ≤ rivals.pool.length + 8 ∧ concerned rivals = [301, 302] ∧ concerned (round rivals) = [] := by decide +kernel

def placed : State :=
  { demo with
    pool := [{ storeJob with zone := none, dest := some (spot .right 3 2 .front)
                             dstRes := some { kind := .location, origin := .admission } }]
    stations := [(4, station .infeed 400 0 [212])], locs := put map2 (spot .right 3 2 .front, { holds 88412 with occ := .inbound }) }

theorem meets_Cancel : asking ∈ clearAhead.pool ∧ asking.group = 0 ∧ asking.srcRes = none ∧ asking.dstRes = none ∧
    job0.srcRes ≠ none ∧ (placed.job 212).map Job.dest = some (some (spot .right 3 2 .front)) ∧
    placed.station 4 = some (station .infeed 400 0 [212]) ∧ 212 ∈ (station .infeed 400 0 [212]).queue := by decide +kernel
theorem meets_Recover : unresolved.internalNumber = 2147483648 ∧ (∀ i ∈ unresolved.pool, i.num ≠ 2147483648) ∧
    unresolved.station 5 = some (station .outfeed 1200 1 []) ∧ unresolved.serves 3 (station .outfeed 1200 1 []) = true := by
  decide +kernel

/-- 11.5: the recovery is scored 14,984 from (8,000, 2,900). -/
theorem test_recover : ((after (.recover 1 recover0) (set3 (fun c => { c with pos := some (point 8000 2900), chan := .listen })
      unresolved)).candidates 3).map (fun c => (c.job.num, c.score)) = [(2147483648, 14984)] := by decide +kernel
theorem meets_Skip : ([3] : List Nat).Pairwise (· < ·) ∧ (∀ x ∈ [3], 2 < x) ∧ grouped.heldCrane 41 4 = none ∧
    ({ grouped with holds := [(3, { job := 411, group := 41, position := 4, outfeed := 5, timer := 1 })] } : State).heldCrane 41 4 =
      some 3 := by decide +kernel
/-- R143: the counter passes over the settled position. -/
theorem test_skip : ((after (.groupSkip 1 41 2) grouped).group 41).map (fun g => (g.d, g.settled)) = some (4, []) := by
  decide +kernel
theorem meets_StationClear : demo.station 5 = some (station .outfeed 1200 1 []) ∧ 0 < min 1 1 ∧ min 0 1 = 0 ∧
    demo.roomWaiter 5 = none ∧ 1 - 1 + 0 < 4 := by decide +kernel
theorem meets_SetMode : (255 : Nat) < 256 ∧ modeRunOf 2 = some .hold ∧ speedOf 1 = some .economy ∧
    (∀ n ∈ [1, 2, 3, 4, 5, 6, 7, 8], Nat.testBit 2 (n - 1) = true → demo.aisle n ≠ none) ∧ demo.aisle 8 = none := by
  decide +kernel

/-! ### Modes -/

def halted : State :=
  set3 (fun c => { c with chan := .listen, stopHalted := true })
    { inSafe with mode := { inSafe.mode with
        check := some { remaining := 1, records := [(3, { auto := true, powerUp := false, manual := false })] } } }

theorem meets_StopInput : demo.mode.stop ≠ true ∧ demo.mode.run = .run ∧ inSafe.mode.run = .safe ∧ demo.quiet ∧
    (inSafe.crane 3).chan.inService = true ∧ (inSafe.crane 3).cfg ≠ none ∧ (halted.crane 3).chan.inService = false := by
  decide +kernel
theorem meets_ResumeCheck : halted.quiet ∧ halted.mode.run = .safe ∧ halted.mode.check ≠ none ∧ demo.mode.check = none ∧
    (∀ k ∈ craneNumbers, (halted.crane k).stopHalted = true → (halted.crane k).curLeg = 0 ∧ (halted.crane k).chan = .listen) := by
  decide +kernel
/-- R166: the snapshot is absent and the load none, so the channel is READY again. -/
theorem test_resumeCheck : ((after .resumeCheckExpiry halted).crane 3).chan = .ready ∧
    (after .resumeCheckExpiry halted).mode.run = .hold := by decide +kernel
theorem test_restart : demo.takes ∧ (after (.restart 1) twoJobs).pool = [] ∧
    ((after (.restart 1) twoJobs).loc (spot .left 9 8 .rear)).occ = .full := by decide +kernel
theorem meets_Resume : (∀ t, demo.twinOf 3 = some t → (demo.crane t).request = none) ∧ inHold.mode.run = .hold ∧
    ((set3 (fun c => { c with chan := .parking }) demo).crane 3).curLeg = 0 := by
  exact ⟨noTwin (by decide +kernel), by decide +kernel⟩
theorem meets_Park : demo.inTwin 3 = false ∧ (demo.crane 3).curLeg = 0 ∧ (demo.crane 3).roomWait = false ∧
    tableGet 3 demo.holds = none ∧ (demo.crane 3).request = none ∧ (demo.crane 3).parkHold = none := by decide +kernel

/-! ### Crane channels -/

def legTo (kind : LegKind) (t : Target) (job : Option Nat) : Leg :=
  { kind := kind, target := t, job := job, pallet := some 70311, approach := false, start := point 1000 1200, est := 0 }
def fetch301 : Leg := legTo .fetch (.location (spot .left 9 8 .rear)) (some 301)
def put301 : Leg := legTo .put (.station 5) (some 301)
/-- Crane 3 with leg 42 outstanding at the head of a plan. -/
def busy (j : Job) (plan : List Leg) : State :=
  set3 (fun c => { c with chan := .busy, plan := plan, cycle := some .single, lastLeg := 42, curLeg := 42, legEst := 10329 })
    { twoJobs with pool := [{ j with crane := 3 }], readyOrder := [] }
def fetching : State := busy { job0 with state := .active } [fetch301, put301]
def delivery : Option DstRes := some { kind := .delivery, origin := .assignment }
def putting : State := busy { job0 with state := .carried, srcRes := none, dstRes := delivery } [put301]
def idle3 (c : Crane → Crane) (s : State) : State := set3 (fun k => c { k with curLeg := 0 }) s

/-- Aisle 4 of chapter 06: crane 7 is to put at column 46 while crane 8 stands at column 42. -/
def crane7 : Crane :=
  { crane3 with
    cfg := some { aisle := 4, role := .a, endPos := point 1000 0, gap := 3000 }, chan := .busy, pos := some (point 1500 0)
    claim := some { lo := 1500, hi := 1500 }, cycle := some .single
    plan := [legTo .put (.location { aisle := 4, side := .left, column := 46, level := 1, depth := .front }) none] }
def crane8 (x : Nat) (chan : ChanState) : Crane :=
  { crane3 with
    cfg := some { aisle := 4, role := .b, endPos := point 116000 0, gap := 2500 }, chan := chan, pos := some (point x 0)
    claim := some { lo := x, hi := x } }
def twin (x : Nat) (chan : ChanState) : State :=
  { demo with
    aisles := [(4, { geometry with columns := 80, levels := 1, double := false, x1 := 3000, px := 1400, y1 := 0, twin := true })]
    cranes := (State.reset.cranes.set 6 crane7).set 7 (crane8 x chan), readyOrder := [8] }

/-- 11.3: the claims and the waiting request after crane 7's PUT is refused and crane 8 evades. -/
theorem test_evasion : let s := (twin 60400 .ready).continueCrane 7
    (s.crane 7).request = some { lo := 1500, hi := 66000 } ∧ (s.crane 8).claim = some { lo := 60400, hi := 116000 } ∧
      (s.crane 8).cycle = some .evasion ∧ s.portOut.map Prod.fst = [8] := by decide +kernel
/-- 11.3: with crane 8 at 116,000 the PUT is granted. -/
theorem test_grant : let s := (twin 116000 .ready).continueCrane 7
    (s.crane 7).claim = some { lo := 1500, hi := 66000 } ∧ (s.crane 7).curLeg = 42 := by decide +kernel
/-- The twin aisle with both records changed. -/
def twins (f7 f8 : Crane → Crane) (x : Nat) (chan : ChanState) : State := ((twin x chan).updCrane 7 f7).updCrane 8 f8
/-- Crane 7 READY, to be parked at rail position 1,000; crane 8 far away, or near and not to be moved. -/
def parkFar : State := twins (fun c => { c with chan := .ready, plan := [], cycle := none }) id 60400 .ready
def parkNear : State := twins (fun c => { c with chan := .ready, plan := [], cycle := none }) id 6999 .listen
theorem meets_ParkTwin : ∀ s ∈ [parkFar, parkNear], s.quiet ∧ s.takes ∧ s.twinOf 7 = some 8 ∧ (s.crane 7).chan = .ready ∧
    (s.crane 7).pos = some (point 1500 0) ∧ (s.crane 7).curLeg = 0 ∧ (s.crane 7).roomWait = false ∧ tableGet 7 s.holds = none ∧
    (s.crane 7).request = none ∧ (s.crane 8).request = none := by decide +kernel
theorem meets_ParkClear : (parkFar.crane 8).railSpan = some { lo := 60400, hi := 60400 } ∧ 1500 + (3000 + 2500) ≤ 60400 ∧
    (parkNear.crane 8).railSpan = some { lo := 6999, hi := 6999 } ∧ ¬ 1500 + (3000 + 2500) ≤ 6999 ∧
    (parkNear.crane 8).canEvade = false := by decide +kernel

/-- R162: the seven detail codes of CONFIG_ERROR, each with its number. -/
theorem test_configFault : [{ config with aisles := [] },
      set3 (fun c => { c with cfg := c.cfg.map (fun g => { g with role := .a }) }) config,
      { config with cranes := State.reset.cranes }, { twin 60400 .offline with cranes := State.reset.cranes.set 6 crane7 },
      twins id (fun c => { c with cfg := c.cfg.map (fun g => { g with endPos := point 6499 0 }) }) 60400 .offline,
      twin 60400 .offline,
      twins id (fun c => { c with cfg := c.cfg.map (fun g => { g with endPos := point 119100 0 }) }) 60400 .offline].map
        State.configFault =
    [some (1, 0), some (2, 3), some (3, 2), some (4, 4), some (5, 4), some (6, 4), some (7, 4)] := by decide +kernel

theorem meets_ChannelGoesOn : (1 ≤ 3 ∧ 3 ≤ 12) ∧ (fetching.crane 3).plan = fetch301 :: [put301] ∧
    (let s := idle3 id fetching
     (s.mode.run = .run ∨ s.mode.run = .hold) ∧ (s.crane 3).curLeg = 0 ∧ (s.crane 3).roomWait = false ∧
      tableGet 3 s.holds = none ∧ (s.crane 3).request = none ∧ s.passRun = none ∧ s.inTwin 3 = false) ∧
    ((twin 116000 .busy).twinOf 7 = some 8 ∧ ((twin 116000 .busy).crane 8).railSpan = some { lo := 116000, hi := 116000 } ∧
      66000 + (3000 + 2500) ≤ 116000) ∧
    (((twin 60400 .busy).crane 8).canEvade = false ∧ ¬ 66000 + (3000 + 2500) ≤ 60400 ∧
      ((twin 60400 .busy).crane 8).request = none) ∧
    ((idle3 (fun c => { c with plan := [] }) fetching).crane 3).plan = [] ∧
    (∀ j ∈ fetching.pool, j.crane = 3 → j.state.isUncertain = false) := by decide +kernel

/-- 11.1: the leg timer starts at 10,329 + 30,000. -/
theorem test_taken : ((after (.taken 3 42) fetching).crane 3).legTimer = some 40329 := by decide +kernel
theorem meets_Taken : fetching.quiet ∧ (42 ≠ 0 ∧ 42 = (fetching.crane 3).curLeg ∧ (fetching.crane 3).legTimer = none) ∧
    (fetching.crane 1).cfg = none ∧ (fetching.crane 3).cfg ≠ none ∧
    ((set3 (fun c => { c with chan := .offline }) demo).crane 3).chan = .offline := by decide +kernel
theorem meets_FaultBreaksThePlan : (fetching.crane 3).chan = .busy ∧ (fetching.breakPlan 3 none).twinOf 3 = none ∧
    ((twin 60400 .busy).crane 7).chan = .busy ∧ ((twin 60400 .busy).breakPlan 7 none).twinOf 7 = some 8 ∧
    (((twin 60400 .busy).breakPlan 7 none).crane 8).request = none ∧ (demo.crane 3).chan ≠ .busy ∧
    demo.twinOf 3 = none := by decide +kernel
/-- R110 on a dual cycle whose first leg, the store's FETCH, is outstanding: UNCERTAIN, and READY again. -/
theorem test_breakDual : let s := (twoJobs.select 3).1.continueCrane 3
    ((s.crane 3).curLeg, s.pool.map Job.state) = (42, [.assigned, .active]) ∧
      (s.breakPlan 3 none).pool.map Job.state = [.ready, .uncertain .fetch] := by decide +kernel
theorem meets_FetchAndMoveAreDone : fetching.quiet ∧ (fetching.crane 3).cfg ≠ none ∧ fetching.inTwin 3 = false ∧
    42 = (fetching.crane 3).curLeg ∧ (fetching.crane 3).plan = fetch301 :: [put301] ∧
    (fetching.job 301).map Job.kind = some .retrieve ∧ (spot .left 9 8 .rear).inRanges ∧ fetching.job 9 = none ∧
    (demo.crane 3).curLeg = 0 := by decide +kernel
theorem meets_FetchAtStation : let s := busy { storeJob with state := .active } [legTo .fetch (.station 4) (some 212)]
    s.station 4 = some (station .infeed 400 0 [212]) ∧ (s.job 212).map Job.num = some 212 ∧
      (station .infeed 400 0 [212]).queue.head? = some 212 := by decide +kernel
theorem meets_ParkLegDone : let s := set3 (fun c => { c with chan := .parking, parkLeg := some (legTo .move .endPos none), curLeg := 42 }) demo
    (s.crane 3).parkLeg = some (legTo .move .endPos none) ∧ 42 = (s.crane 3).curLeg ∧ 0 < s.policy.parkHold := by decide +kernel
theorem meets_PutIsDone : putting.quiet ∧ (putting.crane 3).plan = put301 :: [] ∧ 42 = (putting.crane 3).curLeg ∧
    (putting.job 301).map Job.dstRes = some delivery ∧ putting.station 5 = some (station .outfeed 1200 1 []) ∧
    putting.roomWaiter 5 = none ∧ (putting.crane 3).roomWait = false ∧
    (placed.job 212).map Job.dstRes = some (some { kind := .location, origin := .admission }) := by decide +kernel
theorem meets_Leave : clearAhead.job 301 = some asking ∧ asking.kind = .retrieve ∧ asking.group = 0 ∧ asking.srcRes = none ∧
    asking.dstRes = none := by decide +kernel
/-- 11.1: DONE 45 leaves occupancy 2, pending 0, and crane 3 READY. -/
theorem test_put : let s := after (.done 3 42 1000 1200 0) { putting with stations := [(5, { station .outfeed 1200 1 [] with pend := 1 })] }
    (s.station 5).map (fun t => (t.occ, t.pend)) = some (2, 0) ∧ (s.crane 3).chan = .ready ∧ s.pool = [] := by decide +kernel
theorem meets_FailedLegIsSettled : fetching.quiet ∧ fetch301.kind = .fetch ∧ put301.kind = .put ∧
    fetch301.target = .location (spot .left 9 8 .rear) ∧ put301.target = .station 5 ∧
    ((set3 (fun c => { c with chan := .offline }) demo).crane 3).curLeg = 0 ∧ (legTo .fetch (.station 4) none).job = none := by
  decide +kernel
def binPut : State :=
  busy { storeJob with state := .carried, dest := some (spot .right 3 1 .rear)
                       dstRes := some { kind := .location, origin := .assignment } }
    [legTo .put (.location (spot .right 3 1 .rear)) (some 212)]
/-- R108: a PUT that finds its bin occupied goes to the location chosen anew. -/
theorem meets_BinOccupied : (binPut.crane 3).curLeg = 42 ∧ (spot .right 3 1 .rear).inRanges ∧
    (after (.failed 3 42 2 5300 400 88412) binPut).pool.map Job.dest = [some (spot .right 3 1 .front)] := by decide +kernel

def sequenced : State :=
  { busy { job0 with state := .carried, group := 41, position := 4, srcRes := none, dstRes := none, holdReleased := true }
      [{ legTo .move (.station 5) (some 301) with approach := true }, put301] with
    groups := [(41, { status := .opened, d := 2, held := [(4, 301)], settled := [] })] }
theorem meets_HoldKeepsTheSequence : sequenced.quiet ∧ (sequenced.crane 3).chan = .busy ∧ 42 = (sequenced.crane 3).curLeg ∧
    (sequenced.job 301).map (fun j => (j.group, j.position)) = some (41, 4) ∧ (sequenced.group 41).map Group.d = some 2 ∧
    tableGet 3 sequenced.holds = none ∧ (after (.done 3 42 1000 1200 70311) sequenced).holds.map Prod.fst = [3] ∧
    ((after (.done 3 42 1000 1200 70311) sequenced).crane 3).plan ≠ [] := by decide +kernel
/-- Retrieve 301 leaves at position 4, whose turn it is, with position 5 settled and crane 6 held for position 6. -/
def turn : State :=
  { demo with
    pool := [{ job0 with state := .carried, group := 41, position := 4, srcRes := none, crane := 3 }]
    groups := [(41, { status := .opened, d := 4, held := [(4, 301), (6, 302)], settled := [5] })]
    holds := [(6, { job := 302, group := 41, position := 6, outfeed := 5, timer := 1 })] }
theorem meets_TurnIsSettled : (turn.job 301).map Job.kind = some .retrieve ∧
    (turn.job 301).map (fun j => (j.group, j.position)) = some (41, 4) ∧ (turn.job 301).map Job.srcRes = some none ∧
    (turn.job 301).map Job.dstRes = some none ∧
    (turn.group 41).map (fun g => (g.d, g.settled)) = some (4, [5]) ∧
    ([5] : List Nat).Pairwise (· < ·) ∧ (∀ x ∈ [5], 4 < x) ∧
    turn.heldCrane 41 6 = some 6 ∧
    demo.holds = [] := by decide +kernel
/-- R143, R151: the counter passes over 5 to 6, and the hold for 6 ends. -/
theorem test_turn : let s := turn.leave 301 (.done false)
    ((s.group 41).map (fun g => (g.d, g.settled, g.held)), s.holds) = (some (6, [], [(6, 302)]), []) := by decide +kernel

theorem allCranes {s : State} {P : Crane → Prop} (h0 : P Crane.reset) (h : ∀ k ∈ craneNumbers, P (s.crane k)) : ∀ k, P (s.crane k) := by
  intro k
  by_cases hk : 1 ≤ k ∧ k ≤ 12
  · exact h k (by simp [craneNumbers]; omega)
  · rw [State.crane_outside s hk]
    exact h0
theorem meets_StateSetsTheChannel : (demo.quiet ∧ (demo.crane 3).cfg ≠ none ∧ demo.inTwin 3 = false ∧
    (∀ j ∈ demo.pool, j.crane = 3 → j.state.isUncertain = false) ∧ (demo.crane 3).chan = .ready ∧ (demo.crane 3).load = none ∧
    (∀ e ∈ demo.locs, e.2.stands 71230 = false) ∧ (∀ j ∈ demo.pool, j.storeHolds = true → j.pallet ≠ 71230) ∧
    (fetching.crane 3).plan ≠ []) ∧ ∀ i, (demo.crane i).load.map Load.id ≠ some 71230 :=
  ⟨by decide +kernel, allCranes (P := fun c => c.load.map Load.id ≠ some 71230) (by decide) (by decide +kernel)⟩

/-! ### UNCERTAIN jobs and foreign loads -/

/-- Job 301 UNCERTAIN on crane 3 in FAULT, its FETCH or its PUT outstanding when the plan broke. -/
def unsure (leg : LegKind) (j : Job) : State :=
  set3 (fun c => { c with chan := .fault }) { twoJobs with pool := [{ j with state := .uncertain leg, crane := 3 }] }
def carrying : Job := { job0 with srcRes := none, dstRes := delivery }
theorem meets_Uncertain : (∀ s ∈ [unsure .fetch job0, unsure .put carrying], (s.crane 3).cfg ≠ none ∧ s.inTwin 3 = false ∧
      (s.crane 3).chan = .fault ∧ s.quiet ∧ (s.uncertainJob 3).map Job.num = some 301) ∧
    job0.source = some (spot .left 9 8 .rear) ∧ (spot .left 9 8 .rear).inRanges ∧
    (unsure .put carrying).roomWaiter 5 = none ∧ carrying.dstRes = some { kind := .delivery, origin := .assignment } := by
  decide +kernel
theorem meets_ReturnReady : job0.dstRes = none ∧ (placed.job 212).map Job.dstRes =
      some (some { kind := .location, origin := .admission }) ∧
    (binPut.job 212).map (fun j => (j.dest, j.dstRes)) =
      some (some (spot .right 3 1 .rear), some { kind := .location, origin := .assignment }) ∧
    (spot .right 3 1 .rear).inRanges ∧ binPut.quiet := by decide +kernel
/-- R111: the four resolutions, by the leg and the load reported. -/
theorem test_uncertain : [(unsure .fetch job0, 0), (unsure .fetch job0, 70311), (unsure .put carrying, 0),
      (unsure .put carrying, 70311)].map (fun (s, load) =>
        let t := after (.state 3 0 0 5300 1650 load) s
        (t.pool.map Job.state, (t.crane 3).load, (t.loc (spot .left 9 8 .rear)).occ)) =
    [([.ready], none, .outbound), ([], some { id := 70311, resolved := false }, .empty), ([], none, .outbound),
      ([], some { id := 70311, resolved := false }, .outbound)] := by decide +kernel

/-- Crane 3 reports the pallet of a second crane, of a location, and of a STORE job; or its recorded pallet no more. -/
def doubled : State := demo.updCrane 4 (fun c => { c with load := some { id := 71230, resolved := true } })
def storing : State := { demo with pool := [storeJob] }
theorem meets_ForeignLoads : ((demo.crane 3).load.map Load.id).getD 0 = 0 ∧
    (doubled.crane 4).load.map Load.id = some 71230 ∧ ((unresolved.crane 3).load.map Load.id).getD 0 = 71230 ∧
    demo.findPallet 3 = some (spot .left 3 2 .rear) ∧ (spot .left 3 2 .rear).inRanges ∧
    (∀ e ∈ demo.locs, ¬ ((e.2.occ = .full ∨ e.2.occ = .outbound) ∧ e.2.pallet = some 88412)) ∧
    storing.pool = [storeJob] ∧ storeJob.pallet = 88412 := by decide +kernel
theorem meets_LoadIsNowhere : ¬ ((3 : Nat) ≠ 0 ∧ ∃ i, i ≠ 3 ∧ (demo.crane i).load.map Load.id = some 3) ∧
    ¬ ((88412 : Nat) ≠ 0 ∧ ∃ i, i ≠ 3 ∧ (storing.crane i).load.map Load.id = some 88412) := by
  constructor <;> rintro ⟨-, i, -, h⟩
  · exact allCranes (s := demo) (P := fun c => c.load.map Load.id ≠ some 3) (by decide) (by decide +kernel) i h
  · exact allCranes (s := storing) (P := fun c => c.load.map Load.id ≠ some 88412) (by decide) (by decide +kernel) i h
/-- R112: FAULT(DOUBLE_LOAD); a location stripped; a STORE job stripped; a recorded pallet gone. -/
theorem test_foreign : (((doubled.compareLoad 3 71230).crane 3).lastFault = some .doubleLoad) ∧
    (((demo.compareLoad 3 3).loc (spot .left 3 2 .rear)).occ = .unknown) ∧ ((storing.compareLoad 3 88412).pool = []) ∧
    ((unresolved.compareLoad 3 0).crane 3).load = none := by decide +kernel
theorem meets_BadFrames : (demo.crane 3).bad < 3 ∧ 3 ≤ ((set3 (fun c => { c with bad := 3 }) demo).crane 3).bad ∧
    (demo.crane 3).cfg ≠ none ∧ (demo.crane 1).cfg = none ∧ (demo.crane 3).rx = .searching ∧
    1 ≤ ([7] : List Byte).length ∧ ¬ ((0x45 : Byte) = 0x41 ∧ ([7] : List Byte).length = 1) ∧
    2 ≤ ([0x41, 7] : List Byte).length ∧ 1 ≠ (([0x41, 7] : List Byte).map BitVec.toNat).sum % 65536 := by decide +kernel
/-- R188: TAKEN of leg 42, byte by byte with its check 006Bh. -/
theorem test_portBytes : ((after (.bodyLengthOutOfRange 3 [0xC3, 0, 2, 0x41, 42, 0, 0x6B]) fetching).crane 3).legTimer =
    some 40329 := by decide +kernel
/-- 11.5: silence sends STOP and takes the channel to FAULT(SILENT); the job is UNCERTAIN. -/
theorem test_silence : let s := after (.silenceTimeout 3) fetching
    (s.crane 3).chan = .fault ∧ (s.crane 3).lastFault = some .silent ∧ s.portOut = [(3, [2, 3])] ∧
      s.pool.map Job.state = [.uncertain .fetch] := by decide +kernel

/-! ### Twin reports and the arbiter -/

/-- Crane 7 with leg 42 outstanding and its claim up to column 46; crane 8 waits for rail, or not. -/
def legOut (request : Option Span) : State :=
  twins (fun c => { c with curLeg := 42, lastLeg := 42, claim := some { lo := 1500, hi := 66000 } })
    (fun c => { c with chan := .busy, plan := [legTo .move .endPos none], request := request }) 116000 .busy
theorem meets_TwinReport : (∀ s ∈ [legOut none, twin 60400 .ready], (s.crane 7).cfg ≠ none ∧ s.inTwin 7 = true ∧
      (s.crane 7).chan ≠ .offline ∧ (s.crane 7).chan ≠ .manual) ∧
    ((legOut none).crane 7).curLeg = 42 ∧ ((legOut none).crane 7).plan.map Leg.kind = [.put] ∧
    ((twin 60400 .ready).crane 7).curLeg = 0 ∧ parkFar.twinOf 7 = some 8 ∧ ((legOut none).crane 8).request = none := by
  decide +kernel
theorem meets_Release : let s := legOut (some { lo := 71500, hi := 116000 })
    s.twinOf 7 = some 8 ∧ s.twinOf 8 = some 7 ∧ (s.crane 8).request = some { lo := 71500, hi := 116000 } ∧ s.mode.run = .run ∧
      (s.crane 7).request = none ∧ (s.crane 8).chan ≠ .parking ∧ (s.crane 8).plan = [legTo .move .endPos none] ∧
      (s.crane 7).railSpan = some { lo := 1500, hi := 66000 } ∧ 66000 + (2500 + 3000) ≤ 71500 ∧
      ¬ 66000 + (2500 + 3000) ≤ 71499 ∧ (s.crane 7).canEvade = false := by decide +kernel
/-- R128, R129: DONE of crane 7's leg takes its claim to its place and grants crane 8's request. -/
theorem test_release : let s := after (.done 7 42 60000 0 0) (legOut (some { lo := 65500, hi := 116000 }))
    ((s.crane 7).claim, (s.crane 8).claim, (s.crane 8).request, (s.crane 8).curLeg) =
      (some { lo := 60000, hi := 60000 }, some { lo := 65500, hi := 116000 }, none, 42) := by decide +kernel

/-- R112, R131: a first position makes READY crane 8 evade at once, and the load of that STATE is compared; the load of a
STATE while leg 42 is outstanding is not. -/
theorem test_comparesAtArrival :
    let s := after (.state 8 0 0 60400 0 71230) (twins (fun c => { c with request := some { lo := 1500, hi := 66000 } })
      (fun c => { c with pos := none, claim := none }) 60400 .ready)
    let u := after (.state 7 0 0 60000 0 71230) (legOut none)
    ((s.crane 8).cycle, (s.crane 8).curLeg, (s.crane 8).load) = (some .evasion, 42, some { id := 71230, resolved := false }) ∧
      (u.crane 7).load = ((legOut none).crane 7).load ∧ (u.crane 7).loadId ≠ 71230 := by decide +kernel

/-- Both cranes BUSY with a leg towards the other, crane 8's request in place; crane 8's leg has a job, or none. -/
def facing (j : Option Nat) (r8 : Option Span) : State :=
  { twins id (fun c => { c with
        chan := .busy, plan := [legTo .put (.location { aisle := 4, side := .left, column := 2, level := 1, depth := .front }) j]
        request := r8 }) 60400 .busy with pool := [{ job0 with crane := 8 }] }
theorem meets_Evasion : let s := twin 60400 .ready
    (s.twinOf 7 = some 8 ∧ s.twinOf 8 = some 7 ∧ s.mode.run = .run ∧ (s.crane 7).chan = .busy ∧ (s.crane 7).plan ≠ [] ∧
      (s.crane 7).curLeg = 0 ∧ (s.crane 7).roomWait = false ∧ tableGet 7 s.holds = none ∧ (s.crane 7).request = none ∧
      s.passRun = none ∧ (s.crane 7).pos = some (point 1500 0)) ∧
    ((s.crane 8).canEvade = true ∧ (s.crane 8).pos = some (point 60400 0) ∧ (s.crane 8).request = none ∧
      (s.crane 8).claim = some { lo := 60400, hi := 60400 } ∧ (s.crane 7).railSpan = some { lo := 1500, hi := 1500 } ∧
      1500 + (2500 + 3000) ≤ 60400 ∧ ¬ 66000 + (3000 + 2500) ≤ 60400) := by decide +kernel
theorem meets_MutualWait : ∀ j ∈ [none, some 301], let s := facing j (some { lo := 4400, hi := 60400 })
    s.twinOf 7 = some 8 ∧ s.twinOf 8 = some 7 ∧ (s.crane 8).chan = .busy ∧ (s.crane 8).plan.map Leg.job = [j] ∧
      (s.crane 8).request = some { lo := 4400, hi := 60400 } ∧ ¬ 1500 + (2500 + 3000) ≤ 4400 ∧
      (s.crane 8).claim = some { lo := 60400, hi := 60400 } ∧ (s.crane 7).claim = some { lo := 1500, hi := 1500 } ∧
      (s.crane 7).plan.map Leg.job = [none] ∧ s.job 301 ≠ none := by decide +kernel
/-- R132, R133: without jobs crane A is first and crane 8 gives way; with a job in crane 8's leg crane 7 does. -/
theorem test_mutualWait : [none, some 301].map (fun j =>
      let s := (facing j (some { lo := 4400, hi := 60400 })).continueCrane 7
      ([7, 8].map (fun k => ((s.crane k).plan.length, (s.crane k).request.isSome)), s.portOut.map Prod.fst)) =
    [([(1, true), (2, false)], [8]), ([(2, false), (1, true)], [7])] := by decide +kernel
/-- Both requests pass against the standing points, neither against the other's new claim. -/
def bothPass : State :=
  (facing (some 301) (some { lo := 30000, hi := 60400 })).updCrane 7 (fun c => { c with request := some { lo := 1500, hi := 40000 } })
theorem meets_BothPass : bothPass.twinOf 7 = some 8 ∧ bothPass.twinOf 8 = some 7 ∧ bothPass.mode.run = .run ∧
    (bothPass.crane 7).chan = .busy ∧ (bothPass.crane 8).chan = .busy ∧ 40000 + (3000 + 2500) ≤ 60400 ∧
    1500 + (2500 + 3000) ≤ 30000 ∧ ¬ 40000 + (3000 + 2500) ≤ 30000 := by decide +kernel
theorem test_bothPass : (bothPass.release 7).portOut.map Prod.fst = [8] := by decide +kernel
/-- R123, R134: crane 7's range ends two gaps below crane 8's end position, and before its place when it cannot be moved. -/
theorem meets_Range : [(60400, ChanState.ready, 110500), (60400, .ready, 110501), (60400, .fault, 54900),
      (60400, .fault, 54901)].map (fun (x, st, p) => (twin x st).inRange 7 p) = [true, false, true, false] ∧
    demo.inTwin 3 = false ∧ (twin 60400 .ready).twinOf 7 = some 8 ∧
    ({ twin 60400 .ready with cranes := State.reset.cranes.set 6 crane7 } : State).twinOf 7 = none := by decide +kernel

/-! ### What every step keeps -/

theorem meets_EveryStepKeepsTheState : (∃ t, step { demo with pending := [.store 1 store0] } = .next t) ∧ locsWf demo.locs ∧
    demo.aislesSound ∧ demo.poolSound ∧ demo.numbersSound ∧ groupsSound grouped.groups ∧ demo.quiet ∧ visiting.passSound ∧
    halted.checkSound := by
  refine ⟨⟨_, rfl⟩, by decide +kernel, ?_, ?_, ?_, ?_, by decide +kernel, ?_, ?_⟩
  · unfold State.aislesSound; decide +kernel
  · unfold State.poolSound; decide +kernel
  · unfold State.numbersSound; decide +kernel
  · unfold groupsSound; decide +kernel
  · exact ⟨by decide +kernel, fun _ _ _ => rfl⟩
  · exact fun _ => rfl
theorem meets_LinkIsSound : answered.link.bounded ∧ waiting.link.ringFits := by
  refine ⟨by decide +kernel, by decide +kernel, ?_⟩
  show Rx.sound waiting.link.rx
  exact trivial
theorem meets_EveryStepKeepsTwinCranesApart : (twin 60400 .ready).railSafe := by
  have hnum : ∀ j n r, ((twin 60400 .ready).crane j).hasRole n r = true → (j = 7 ∧ n = 4 ∧ r = .a) ∨ (j = 8 ∧ n = 4 ∧ r = .b) := by
    intro j n r hj
    have h78 : j = 7 ∨ j = 8 := by
      by_contra hne
      have : ((twin 60400 .ready).crane j).cfg = none := by
        by_cases hr : 1 ≤ j ∧ j ≤ 12
        · have : ∀ k ∈ craneNumbers, k ≠ 7 → k ≠ 8 → ((twin 60400 .ready).crane k).cfg = none := by decide +kernel
          exact this j (by simp [craneNumbers]; omega) (by omega) (by omega)
        · rw [State.crane_outside _ hr]; rfl
      simp [Crane.hasRole, this] at hj
    rcases h78 with rfl | rfl
    · have : ((twin 60400 .ready).crane 7).cfg = crane7.cfg := by decide +kernel
      simp [Crane.hasRole, this, crane7] at hj
      exact .inl ⟨rfl, hj.1.symm, hj.2.symm⟩
    · have : ((twin 60400 .ready).crane 8).cfg = (crane8 60400 .ready).cfg := by decide +kernel
      simp [Crane.hasRole, this, crane8] at hj
      exact .inr ⟨rfl, hj.1.symm, hj.2.symm⟩
  refine ⟨?_, ?_, ?_⟩
  · intro i j n r hi hj
    rcases hnum i n r hi with ⟨h1, -, h2⟩ | ⟨h1, -, h2⟩ <;> rcases hnum j n r hj with ⟨h3, -, h4⟩ | ⟨h3, -, h4⟩ <;> simp_all
  · exact allCranes (P := fun c => c.cfg = none → c.claim = none) (by decide) (by decide +kernel)
  · intro i j n v w _ hi hj hv hw
    rcases hnum i n _ hi with ⟨rfl, -, -⟩ | ⟨-, -, h⟩
    · rcases hnum j n _ hj with ⟨-, -, h⟩ | ⟨rfl, -, -⟩
      · cases h
      · have h7 : ((twin 60400 .ready).crane 7).claim = some { lo := 1500, hi := 1500 } := by decide +kernel
        have h8 : ((twin 60400 .ready).crane 8).claim = some { lo := 60400, hi := 60400 } := by decide +kernel
        have hg : (twin 60400 .ready).gaps 7 8 = 5500 := by decide +kernel
        rw [h7] at hv
        rw [h8] at hw
        cases hv
        cases hw
        rw [hg]
        decide
    · cases h
theorem meets_OnlyModeCommands : (after (.start 1) config).mode.run ≠ config.mode.run ∧ config.checkSound :=
  ⟨by decide +kernel, fun h => absurd rfl h⟩
theorem meets_AxisTime : (100 ≤ 8000 ∧ 100 ≤ 5000 ∧ 18000 ≤ 200000) ∧ 3000 * 3000 ≤ 18000 * 500 ∧ 17999 * 500 < 3000 * 3000 ∧
    18000 * 500 = 3000 * 3000 := by decide
theorem meets_Selection : twoJobs.pool.Pairwise (fun i j => i.adm < j.adm) ∧ (twoJobs.pool.map Job.num).Nodup ∧
    twoJobs.candidates 3 ≠ [] ∧ demo.candidates 3 = [] ∧ (twoJobs.candidates 3).map (fun c => (c.job.kind, c.dest)) =
      [(.retrieve, none), (.store, some (spot .right 3 2 .front))] := by decide +kernel

/-- A job of every kind that crane 3 may take: forks loaded for the recovery, a FRONT to relocate, a group's first position. -/
def recovering : State := after (.recover 1 recover0) unresolved
def relocating : State := (after (.earliestStartExpiry 301) (inMode .hold blocked))
def firstOf (p : Nat) : State :=
  { twoJobs with
    pool := [{ job0 with group := 41, position := p }], groups := [(41, { status := .opened, d := 1, held := [(p, 301)], settled := [2] })] }
theorem meets_Candidates : [twoJobs, recovering, relocating, firstOf 1, firstOf 3].map
      (fun s => (s.candidates 3).map (fun c => c.job.kind)) =
    [[.retrieve, .store], [.recover], [.relocate], [.retrieve], []] := by decide +kernel
/-- R81: a retrieve that named no outfeed is offered station 5. -/
theorem meets_Outfeed : demo.chooseOutfeed 3 (spot .left 9 8 .rear) = some 5 ∧
    demo.chooseOutfeed 4 (spot .left 9 8 .rear) = none := by decide +kernel

theorem meets_Assignment : (twoJobs.quiet ∧ recovering.quiet ∧ relocating.quiet) ∧
    (∀ s ∈ [twoJobs, recovering, relocating, firstOf 1], ∀ c ∈ s.candidates 3, ∀ l, c.dest = some l → l.inRanges) ∧
    (twoJobs.candidates 3).map (fun c => c.job.num) = [301, 212] := by
  refine ⟨by decide +kernel, ?_, by decide +kernel⟩
  have h : ∀ s ∈ [twoJobs, recovering, relocating, firstOf 1], ∀ c ∈ s.candidates 3, c.dest.all (fun l => decide l.inRanges) = true := by
    decide +kernel
  intro s hs c hc l hl
  have := h s hs c hc
  simpa [hl] using this
/-- R63: the store passed over by a lone retrieve ages, and at the threshold its class falls. -/
theorem test_aging : [0, 7].map (fun b => (({ twoJobs with
        pool := [job0, { storeJob with bypass := b }], policy := Policy.reset }.select 3).1.job 212).map (fun (j : Job) => (j.cls, j.bypass))) =
    [some (2, 1), some (1, 0)] := by decide +kernel
theorem meets_Destination : (twoJobs.chooseDest 3
    { aisle := 2, zone := Filter.anywhere, height := 1, clears := none, start := point 1000 400 }) = some (spot .right 3 2 .front) ∧
    twoJobs.chooseDest 3
      { aisle := 1, zone := Filter.anywhere, height := 1, clears := none, start := point 1000 400 } = none := by decide +kernel
/-- R168: what power-on leaves. -/
theorem test_powerOn : (after .powerOn twoJobs).pool = [] ∧ (after .powerOn twoJobs).mode.run = .config := by decide +kernel

end Sys2Proof.Tests
end

section
/-! SUPPORT. What a change of the crane records alone leaves, and what each change of a step keeps. -/

namespace Sys2Proof.Machine

variable {b : Bool} {s t : State}

theorem State.updCrane_eq (s : State) (k : Nat) (f : Crane → Crane) :
    s.updCrane k f = { s with cranes := (s.updCrane k f).cranes } := by
  unfold State.updCrane
  split <;> rfl

theorem State.reclaim_eq (s : State) (k : Nat) (g : CraneCfg) :
    s.reclaim k g = { s with cranes := (s.reclaim k g).cranes } := by
  unfold State.reclaim
  repeat' split
  all_goals first | rfl | exact s.updCrane_eq _ _

/-- SET_CRANE writes crane records and nothing else. -/
theorem State.defineCrane_eq (s : State) (q : CraneFields) :
    s.defineCrane q = { s with cranes := (s.defineCrane q).cranes } := by
  unfold State.defineCrane
  split
  · rfl
  · rw [State.updCrane_eq, State.reclaim_eq]

/-! ## The location table (R6) and the aisles (R1) -/

theorem Move.keeps_locsWf (h : Move s t) (hs : locsWf s.locs) : locsWf t.locs := by
  cases h with
  | other _ _ locs => rwa [locs]
  | setLoc l r => exact s.setLoc_wf l r hs
  | _ => simpa [State.setClaim, State.discardClaims] using hs

theorem Change.keeps_locsWf (h : Change b s t) (hs : locsWf s.locs) : locsWf t.locs := by
  cases h with
  | move _ _ m => exact m.keeps_locsWf hs
  | aisle => exact locsWf_filter _ hs
  | crane q => rwa [State.defineCrane_eq]
  | restart => simpa using locsWf_restarted hs
  | powerOn => exact ⟨List.Pairwise.nil, fun _ he => nomatch he⟩
  | answer | link | mode => exact hs

theorem Move.aisles (h : Move s t) : t.aisles = s.aisles := by
  cases h with
  | other _ aisles => exact aisles
  | _ => simp [State.setClaim, State.discardClaims]

/-- What SET_AISLE checks is what the aisle table promises (R1). -/
theorem State.checkAisle_ok {q : AisleFields} (h : s.checkAisle q = .ok) : s.mode.run = .config ∧ aisleOk q = true := by
  simp only [State.checkAisle, firstFail] at h
  repeat' split at h
  all_goals simp_all [State.inConfig]

theorem State.aislesSound_defineAisle {q : AisleFields} (h : aisleOk q = true) (hs : s.aislesSound) :
    (s.defineAisle q.aisle (aisleOf q)).aislesSound := by
  refine ⟨tableRising_put _ _ hs.1, fun e he => ?_⟩
  rcases mem_tablePut he with rfl | he
  · simp only [aisleOk, Bool.and_eq_true, decide_eq_true_eq] at h
    simp only [aisleOf]
    omega
  · exact hs.2 e he

theorem Change.keeps_aislesSound (h : Change b s t) (hs : s.aislesSound) : t.aislesSound := by
  cases h with
  | move _ _ m => rwa [State.aislesSound, m.aisles]
  | aisle _ _ hq => exact State.aislesSound_defineAisle (State.checkAisle_ok hq).2 hs
  | crane q => rwa [State.defineCrane_eq]
  | restart => rwa [State.aislesSound, State.restarted_aisles]
  | powerOn => exact ⟨List.Pairwise.nil, fun _ he => nomatch he⟩
  | answer | link | mode => exact hs

/-! ## The pool (R26, R27) -/

/-- The part of the pool's soundness that the fixed parts of its jobs show. -/
def fixedSound (l : List (Nat × JobKind × Nat)) (next : Nat) : Prop :=
  (l.filter (fun f => f.2.1.isHost)).length ≤ 496 ∧ (l.filter (fun f => !f.2.1.isHost)).length ≤ 16 ∧
    l.Pairwise (fun f g => f.2.2 < g.2.2) ∧ (∀ f ∈ l, f.2.2 < next) ∧ next ≤ 4294967296

theorem State.poolSound_iff (s : State) : s.poolSound ↔ fixedSound (s.pool.map Job.fixed) s.admNext := by
  simp [State.poolSound, fixedSound, State.hostJobs, State.internalJobs, Job.fixed, List.filter_map, Function.comp_def,
    List.pairwise_map]

theorem State.poolSound_freeJob (n : Nat) (hs : s.poolSound) : (s.freeJob n).poolSound := by
  obtain ⟨host, internal, rising, below, next⟩ := hs
  have sub : (s.freeJob n).pool.Sublist s.pool := List.filter_sublist
  exact ⟨((sub.filter _).length_le).trans host, ((sub.filter _).length_le).trans internal, rising.sublist sub,
    fun j hj => below j (sub.subset hj), next⟩

/-- A job joins behind the others while its kind has a place and a number is left. -/
theorem State.poolSound_enroll {j : Job} (hs : s.poolSound) (host : j.kind.isHost = true → s.hostJobs < 496)
    (internal : j.kind.isHost = false → s.internalJobs < 16) (room : s.admNext ≤ 4294967295) : (s.enroll j).poolSound := by
  obtain ⟨h1, h2, rising, below, next⟩ := hs
  unfold State.hostJobs at h1 host
  unfold State.internalJobs at h2 internal
  refine ⟨?_, ?_, ?_, ?_, by simp; omega⟩
  · cases hk : j.kind.isHost <;> simp_all [State.hostJobs, List.filter_append]
  · cases hk : j.kind.isHost <;> simp_all [State.internalJobs, List.filter_append]
  · simpa [List.pairwise_append, rising] using below
  · intro i hi
    simp only [State.enroll_pool, List.mem_append, List.mem_singleton] at hi
    simp only [State.enroll_admNext]
    rcases hi with hi | rfl
    · have := below i hi
      omega
    · simp

theorem State.hostRoom_iff (s : State) : s.hostRoom = true ↔ s.hostJobs < 496 ∧ s.admNext ≤ 4294967295 := by
  simp [State.hostRoom, State.admFree]

theorem State.internalRoom_iff (s : State) : s.internalRoom = true ↔ s.internalJobs < 16 ∧ s.admNext ≤ 4294967295 := by
  simp [State.internalRoom, State.admFree]

theorem Move.keeps_poolSound (h : Move s t) (hs : s.poolSound) : t.poolSound := by
  cases h with
  | other _ _ _ _ pool adm =>
    rw [State.poolSound_iff] at hs ⊢
    rwa [pool, adm]
  | freeJob n => exact State.poolSound_freeJob n hs
  | admitHost j kind room =>
    obtain ⟨host, adm⟩ := s.hostRoom_iff.mp room
    exact State.poolSound_enroll hs (fun _ => host) (fun hk => by simp [kind] at hk) adm
  | admitInternal j kind room =>
    obtain ⟨internal, adm⟩ := s.internalRoom_iff.mp room
    exact State.poolSound_enroll (s := { s with intNext := nextInternal s.internalNumber }) hs
      (fun hk => by simp [kind] at hk) (fun _ => internal) adm
  | setLoc | report | setGroups | discard => exact hs
  | _ => simpa [State.poolSound, State.hostJobs, State.internalJobs, State.setClaim] using hs

theorem poolSound_empty (hp : t.pool = []) (ha : t.admNext = 1) : t.poolSound := by
  simp [State.poolSound, State.hostJobs, State.internalJobs, hp, ha]

theorem Change.keeps_poolSound (h : Change b s t) (hs : s.poolSound) : t.poolSound := by
  cases h with
  | move _ _ m => exact m.keeps_poolSound hs
  | crane q => rwa [State.defineCrane_eq]
  | restart | powerOn => exact poolSound_empty rfl rfl
  | answer | link | aisle | mode => exact hs

/-! ## The job numbers (R25) -/

/-- The range of the internal job numbers (R25). -/
def internalRange (n : Nat) : Prop := 2147483648 ≤ n ∧ n ≤ 4294967295

theorem nextInternal_range {n : Nat} (h : internalRange n) : internalRange (nextInternal n) := by
  unfold internalRange nextInternal at *
  split <;> omega

/-- The internal number `i` places behind `n`. -/
theorem nextInternal_iterate {n : Nat} (h : internalRange n) (i : Nat) :
    nextInternal^[i] n = 2147483648 + (n - 2147483648 + i) % 2147483648 := by
  induction i with
  | zero =>
    unfold internalRange at h
    simp only [Function.iterate_zero, id]
    omega
  | succ i ih =>
    rw [Function.iterate_succ_apply', ih, nextInternal]
    split <;> omega

/-- The numbers of seventeen tries are all different. -/
theorem nextInternal_iterate_inj {n : Nat} (h : internalRange n) :
    Set.InjOn (fun i => nextInternal^[i] n) (Finset.range 17) := by
  intro i hi k hk e
  simp only [Finset.coe_range, Set.mem_Iio] at hi hk
  simp only [nextInternal_iterate h] at e
  omega

theorem freeInternal_range {fuel n : Nat} {pool : List Job} (h : internalRange n) :
    internalRange (freeInternal fuel n pool) := by
  induction fuel generalizing n with
  | zero => exact h
  | succ fuel ih =>
    unfold freeInternal
    split
    · exact ih (nextInternal_range h)
    · exact h

/-- A search that ends on a number in use has tried only numbers in use. -/
theorem freeInternal_used {fuel n : Nat} {pool : List Job} (h : freeInternal fuel n pool ∈ pool.map Job.num) :
    ∀ i < fuel, nextInternal^[i] n ∈ pool.map Job.num := by
  induction fuel generalizing n with
  | zero => simp
  | succ fuel ih =>
    unfold freeInternal at h
    have used : pool.any (fun j => j.num == n) = true ↔ n ∈ pool.map Job.num := by simp
    split at h
    · rename_i hn
      intro i hi
      cases i with
      | zero => exact used.mp hn
      | succ i => exact ih h i (by omega)
    · exact absurd (used.mpr h) ‹_›

theorem State.internalNumber_range (hs : s.numbersSound) : internalRange s.internalNumber :=
  freeInternal_range hs.2.2

/-- With an internal place free, the search for an internal number finds one that no job carries: fifteen jobs cannot
carry seventeen numbers. -/
theorem State.internalNumber_fresh (hs : s.numbersSound) (room : s.internalJobs < 16) :
    s.internalNumber ∉ s.pool.map Job.num := by
  intro hin
  obtain ⟨-, ranges, next⟩ := hs
  have hn : internalRange s.intNext := next
  let internal := (s.pool.filter (fun j => !j.kind.isHost)).map Job.num
  have tried : (Finset.range 17).image (fun i => nextInternal^[i] s.intNext) ⊆ internal.toFinset := by
    intro n hmem
    obtain ⟨i, hi, rfl⟩ := Finset.mem_image.mp hmem
    obtain ⟨j, hj, he⟩ := List.mem_map.mp (freeInternal_used hin i (Finset.mem_range.mp hi))
    have hr := ranges j hj
    have hk : j.kind.isHost = false := by
      by_contra hk
      rw [if_pos (by simpa using hk), he, nextInternal_iterate hn] at hr
      omega
    exact List.mem_toFinset.mpr (List.mem_map.mpr ⟨j, List.mem_filter.mpr ⟨hj, by simp [hk]⟩, he⟩)
  have h17 := (Finset.card_le_card tried).trans internal.toFinset_card_le
  rw [Finset.card_image_of_injOn (nextInternal_iterate_inj hn)] at h17
  simp only [Finset.card_range, internal, List.length_map] at h17
  unfold State.internalJobs at room
  omega

/-- The job numbers are sound where the fixed parts of the jobs say so. -/
def fixedNumbers (l : List (Nat × JobKind × Nat)) : Prop :=
  (l.map Prod.fst).Nodup ∧
    ∀ f ∈ l, if f.2.1.isHost then 1 ≤ f.1 ∧ f.1 ≤ 2147483647 else 2147483648 ≤ f.1 ∧ f.1 ≤ 4294967295

theorem State.numbersSound_iff (s : State) :
    s.numbersSound ↔ fixedNumbers (s.pool.map Job.fixed) ∧ internalRange s.intNext := by
  simp [State.numbersSound, fixedNumbers, internalRange, Job.fixed, Function.comp_def, and_assoc]

theorem State.numbersSound_freeJob (n : Nat) (hs : s.numbersSound) : (s.freeJob n).numbersSound := by
  obtain ⟨distinct, ranges, next⟩ := hs
  have sub : (s.freeJob n).pool.Sublist s.pool := List.filter_sublist
  exact ⟨distinct.sublist (sub.map _), fun j hj => ranges j (sub.subset hj), next⟩

/-- A job with a fresh number of its range joins the pool. -/
theorem State.numbersSound_enroll {j : Job} (hs : s.numbersSound) (fresh : j.num ∉ s.pool.map Job.num)
    (range : if j.kind.isHost then 1 ≤ j.num ∧ j.num ≤ 2147483647 else 2147483648 ≤ j.num ∧ j.num ≤ 4294967295) :
    (s.enroll j).numbersSound := by
  obtain ⟨distinct, ranges, next⟩ := hs
  refine ⟨?_, ?_, next⟩
  · rw [State.enroll_pool, List.map_append, List.nodup_append']
    exact ⟨distinct, by simp, by simpa using fresh⟩
  · intro i hi
    simp only [State.enroll_pool, List.mem_append, List.mem_singleton] at hi
    rcases hi with hi | rfl
    · exact ranges i hi
    · exact range

theorem State.job_none {n : Nat} : s.job n = none ↔ n ∉ s.pool.map Job.num := by
  simp [State.job, List.find?_eq_none]

theorem Move.keeps_numbersSound (h : Move s t) (hs : s.numbersSound) : t.numbersSound := by
  cases h with
  | other _ _ _ _ pool _ _ _ _ _ internal =>
    rw [State.numbersSound_iff] at hs ⊢
    rwa [pool, internal]
  | freeJob n => exact State.numbersSound_freeJob n hs
  | admitHost j kind room number fresh =>
    refine State.numbersSound_enroll hs (State.job_none.mp fresh) ?_
    simpa [kind, hostNumber] using number
  | admitInternal j kind room number =>
    obtain ⟨internal, -⟩ := s.internalRoom_iff.mp room
    have range := State.internalNumber_range hs
    have hs' : State.numbersSound { s with intNext := nextInternal s.internalNumber } :=
      ⟨hs.1, hs.2.1, nextInternal_range range⟩
    refine State.numbersSound_enroll hs' ?_ ?_
    · rw [number]
      exact State.internalNumber_fresh hs internal
    · rw [kind, number]
      exact range
  | setLoc | report | setGroups | discard => exact hs
  | _ => simpa [State.numbersSound, State.setClaim] using hs

theorem numbersSound_empty (hp : t.pool = []) (hi : t.intNext = 2147483648) : t.numbersSound := by
  simp [State.numbersSound, hp, hi]

theorem Change.keeps_numbersSound (h : Change b s t) (hs : s.numbersSound) : t.numbersSound := by
  cases h with
  | move _ _ m => exact m.keeps_numbersSound hs
  | crane q => rwa [State.defineCrane_eq]
  | restart | powerOn => exact numbersSound_empty rfl rfl
  | answer | link | aisle | mode => exact hs

/-! ## The groups (R143) -/

theorem Move.keeps_groupsSound (h : Move s t) (hs : groupsSound s.groups) : groupsSound t.groups := by
  cases h with
  | other _ _ _ _ _ _ _ _ _ groups => rwa [groups]
  | setGroups v sound => exact sound hs
  | _ => simpa [State.setClaim, State.discardClaims] using hs

theorem Change.keeps_groupsSound (h : Change b s t) (hs : groupsSound s.groups) : groupsSound t.groups := by
  cases h with
  | move _ _ m => exact m.keeps_groupsSound hs
  | crane q => rwa [State.defineCrane_eq]
  | restart | powerOn => exact fun _ he => nomatch he
  | answer | link | aisle | mode => exact hs

end Sys2Proof.Machine
end

section
/-! SUPPORT. What each change of the link unit keeps: the output queue's bounds and the input ring's. -/

namespace Sys2Proof.Machine

variable {b : Bool} {s t : State} {l m : Link}

/-! ## The output queue (R178) -/

@[simp] theorem Link.start_out (l : Link) : l.start.out = l.out := by rw [Link.start_eq]
@[simp] theorem Link.gap_out (l : Link) : l.gap.out = l.out := by
  unfold Link.gap
  split <;> rfl
@[simp] theorem Link.arrive_out (l : Link) (body : List Byte) : (l.arrive body).out = l.out := by
  unfold Link.arrive
  split <;> rfl

theorem Link.bounded_congr (h : m.out = l.out) : m.bounded ↔ l.bounded := by
  unfold Link.bounded Link.reports
  rw [h]

/-- Fewer telegrams keep the queue's bounds. -/
theorem Link.bounded_sublist (h : m.out.Sublist l.out) (hl : l.bounded) : m.bounded :=
  ⟨((h.filter _).length_le).trans hl.1, ((h.filter _).length_le).trans hl.2⟩

/-- REPORTS_LOST finds room for itself and a reply (R179). -/
theorem Link.reportLost_bounded (h : l.bounded) : l.reportLost.bounded := by
  unfold Link.reportLost
  split
  · rename_i room
    have hl := List.length_filter_le (fun t => !Telegram.isReply t) l.out
    unfold Link.bounded Link.reports at *
    simp [List.filter_append, Telegram.isReply] at *
    omega
  · exact h

theorem Link.sent_bounded (h : l.bounded) : l.sent.bounded :=
  (Link.bounded_congr (Link.start_out _)).mpr
    (Link.reportLost_bounded (Link.bounded_sublist (List.tail_sublist l.out) h))

theorem Link.restarted_bounded (h : l.bounded) : l.restarted.bounded := by
  refine Link.bounded_sublist ?_ h
  unfold Link.restarted
  cases l.begun
  · exact List.nil_sublist _
  · exact List.take_sublist 1 _

theorem LinkChange.keeps_bounded (h : LinkChange l m) (hl : l.bounded) : m.bounded := by
  cases h with
  | byte c => exact (Link.bounded_congr (l.byte_out c)).mpr hl
  | gap => exact (Link.bounded_congr l.gap_out).mpr hl
  | arrive body => exact (Link.bounded_congr (l.arrive_out body)).mpr hl
  | ready c => exact (Link.bounded_congr (Link.start_out _)).mpr hl
  | sent => exact Link.sent_bounded hl
  | take | clear => exact hl

theorem Move.keeps_bounded (h : Move s t) (hs : s.link.bounded) : t.link.bounded := by
  cases h with
  | other _ _ _ link => rwa [link]
  | report r => exact Link.report_bounded r hs
  | _ => simpa [State.setClaim, State.discardClaims] using hs

theorem Change.keeps_bounded (h : Change b s t) (hs : s.link.bounded) : t.link.bounded := by
  cases h with
  | move _ _ m => exact m.keeps_bounded hs
  | answer _ _ _ _ _ free => exact Link.answer_bounded _ _ _ _ hs free
  | link _ _ h => exact h.keeps_bounded hs
  | crane q => rwa [State.defineCrane_eq]
  | restart => simpa using Link.restarted_bounded hs
  | powerOn => simp [State.poweredOn, Link.reset, Link.bounded, Link.reports]
  | aisle | mode => exact hs

/-! ## The input ring (R175) -/

/-- The ring bound speaks of the ring and the receiver alone. -/
theorem Link.ringFits_congr (hring : m.ring = l.ring) (hrx : m.rx = l.rx) : m.ringFits ↔ l.ringFits := by
  unfold Link.ringFits Link.ringBytes
  rw [hring, hrx]

/-- A receiver that has set nothing aside frees its room. -/
theorem Link.ringFits_free {rx : Rx} (h : l.ringFits) (aside : rx.setAside = 0) (sound : rx.sound) :
    Link.ringFits { l with rx := rx } :=
  ⟨by have := h.1; simp only [Link.ringBytes, aside] at *; omega, sound⟩

theorem Link.roomFor_iff (l : Link) (n : Nat) : l.roomFor n = true ↔ l.ringBytes + l.rx.setAside + n ≤ 2048 := by
  simp [Link.roomFor]

theorem Link.ringBytes_append (l : Link) (body : List Byte) :
    Link.ringBytes { l with ring := l.ring ++ [body] } = l.ringBytes + (body.length + 2) := by
  simp [Link.ringBytes]

theorem rescan_setAside (x y : Byte) : (rescan x y).setAside = 0 := by
  unfold rescan
  repeat' split
  all_goals rfl

theorem rescan_sound (x y : Byte) : (rescan x y).sound := by
  unfold rescan
  repeat' split
  all_goals trivial

/-- A body that was received whole takes the room that was set aside for it. -/
theorem Link.ringFits_received {need : Nat} {got : List Byte} (h : l.ringFits) (hrx : l.rx = .body need got true)
    (c : Byte) : Link.ringFits { l with
      rx := .searching
      ring := l.ring ++ [(c :: got).reverse.take ((c :: got).reverse.length - 2)] } := by
  obtain ⟨fits, sound⟩ := h
  rw [hrx] at fits sound
  refine ⟨?_, trivial⟩
  simp only [Rx.sound, Rx.setAside, Link.ringBytes] at *
  simp only [List.map_append, List.sum_append, List.map_cons, List.map_nil, List.sum_cons, List.sum_nil,
    List.length_take, List.length_reverse, List.length_cons]
  omega

/-- Each byte of a frame moves within the room that the length set aside (R174, R175). -/
theorem Link.byte_ringFits (h : l.ringFits) (c : Byte) : (l.byte c).ringFits := by
  cases hrx : l.rx with
  | searching =>
    rw [Link.byte_searching hrx]
    exact Link.ringFits_free h (by split <;> rfl) (by split <;> trivial)
  | marker =>
    rw [Link.byte_marker hrx]
    exact Link.ringFits_free h rfl trivial
  | length high =>
    by_cases out : lengthOf high c < 3 ∨ 1024 < lengthOf high c
    · rw [Link.byte_length_out hrx out]
      exact Link.ringFits_free h (rescan_setAside _ _) (rescan_sound _ _)
    · obtain ⟨low, top⟩ := not_or.mp out
      cases room : l.roomFor (lengthOf high c + 2) with
      | false =>
        rw [Link.byte_length_overrun hrx (by omega) (by omega) room]
        exact Link.ringFits_free (l := { l with overrun := true }) h rfl trivial
      | true =>
        rw [Link.byte_length_room hrx (by omega) (by omega) room]
        rw [Link.roomFor_iff, hrx] at room
        simp only [Rx.setAside, Rx.sound, Link.ringFits, Link.ringBytes, List.length_nil] at *
        omega
  | body need got stored =>
    by_cases last : need ≤ 1
    · cases stored with
      | false =>
        rw [Link.byte_last_consumed hrx last]
        exact Link.ringFits_free h rfl trivial
      | true =>
        rw [Link.byte_last hrx last c _ rfl]
        split
        · exact Link.ringFits_received h hrx c
        · exact Link.ringFits_free (l := { l with errors := countUp l.errors }) h rfl trivial
    · rw [Link.byte_body hrx (by omega)]
      cases stored with
      | false => exact Link.ringFits_free h rfl trivial
      | true =>
        obtain ⟨fits, sound⟩ := h
        rw [hrx] at fits sound
        simp only [Rx.setAside, Rx.sound, Link.ringFits, Link.ringBytes, if_true, List.length_cons] at *
        omega

theorem Link.arrive_ringFits (h : l.ringFits) (body : List Byte) : (l.arrive body).ringFits := by
  unfold Link.arrive
  split
  · rename_i room
    rw [Link.roomFor_iff] at room
    exact ⟨by simp only [Link.ringBytes_append]; omega, h.2⟩
  · exact h

theorem Link.gap_ringFits (h : l.ringFits) : l.gap.ringFits := by
  unfold Link.gap
  split
  · exact Link.ringFits_free (l := { l with errors := countUp l.errors }) h rfl trivial
  · exact h

theorem Link.start_ringFits (h : l.ringFits) : l.start.ringFits := by
  rw [Link.start_eq]
  exact h

theorem Link.sent_ringFits (h : l.ringFits) : l.sent.ringFits := by
  refine Link.start_ringFits ?_
  unfold Link.reportLost
  split <;> exact h

theorem Link.take_ringFits {body : List Byte} {rest : List (List Byte)} (head : l.ring = body :: rest) (h : l.ringFits) :
    Link.ringFits { l with ring := rest } := by
  obtain ⟨fits, sound⟩ := h
  refine ⟨?_, sound⟩
  simp only [Link.ringBytes, head, List.map_cons, List.sum_cons] at *
  omega

theorem LinkChange.keeps_ringFits (h : LinkChange l m) (hl : l.ringFits) : m.ringFits := by
  cases h with
  | byte c => exact Link.byte_ringFits hl c
  | gap => exact Link.gap_ringFits hl
  | arrive body => exact Link.arrive_ringFits hl body
  | take body rest head => exact Link.take_ringFits head hl
  | ready c => exact Link.start_ringFits (l := { l with hostReady := c }) hl
  | sent => exact Link.sent_ringFits hl
  | clear => exact hl

theorem Link.report_rx (l : Link) (r : Report) : (l.report r).rx = l.rx := by
  rcases l.report_cases r with ⟨-, h⟩ | ⟨-, h⟩ <;> simp [h, Link.enqueue_eq]

theorem Move.keeps_ringFits (h : Move s t) (hs : s.link.ringFits) : t.link.ringFits := by
  cases h with
  | other _ _ _ link => rwa [link]
  | report r => exact (Link.ringFits_congr (s.link.report_ring r) (s.link.report_rx r)).mpr hs
  | _ => simpa [State.setClaim, State.discardClaims] using hs

theorem Change.keeps_ringFits (h : Change b s t) (hs : s.link.ringFits) : t.link.ringFits := by
  cases h with
  | move _ _ m => exact m.keeps_ringFits hs
  | answer => rwa [State.answer_link, Link.answer_eq]
  | link _ _ h => exact h.keeps_ringFits hs
  | crane q => rwa [State.defineCrane_eq]
  | restart => simp [Link.restarted, Link.ringFits, Link.ringBytes, Rx.setAside, Rx.sound]
  | powerOn => simp [State.poweredOn, Link.reset, Link.ringFits, Link.ringBytes, Rx.setAside, Rx.sound]
  | aisle | mode => exact hs

/-! ## The due pass (R68) -/

theorem Change.due (h : Change b s t) (hs : s.passDue = true → s.mode.run = .run) : t.passDue = true → t.mode.run = .run := by
  cases h with
  | move _ _ m => exact m.due hs
  | crane q => rwa [State.defineCrane_eq]
  | mode _ _ _ _ due => exact due
  | restart | powerOn => exact fun h => absurd h Bool.false_ne_true
  | answer | link | aisle => exact hs

end Sys2Proof.Machine
end

section
/-! SUPPORT. What an event leaves of mode control and of the running pass: the run state stays, no resume check starts, and
a running pass is given no crane to visit. `Moves` does not watch these fields; an operation that writes neither of them
is passed over here, because `Calm` reads only them. -/

namespace Sys2Proof.Machine

/-- A running pass has cranes to visit (R71). -/
def State.visits (s : State) : Prop := ∃ p, s.passRun = some p ∧ p.toVisit ≠ []

/-- From `s` to `t` the run state stays, no resume check starts, and no pass is given a crane to visit. -/
def Calm (s t : State) : Prop :=
  t.mode.run = s.mode.run ∧ (s.mode.check = none → t.mode.check = none) ∧ (t.visits → s.visits)

/-- A pass is given no crane where the crane lists are filtered or kept. -/
theorem State.visits_congr {s t : State} (h : t.passRun = s.passRun) : t.visits ↔ s.visits := by
  unfold State.visits
  rw [h]

namespace Calm

variable {s t u : State}

theorem refl (s : State) : Calm s s := ⟨rfl, id, id⟩

theorem trans (h : Calm s t) (g : Calm t u) : Calm s u :=
  ⟨g.1.trans h.1, fun hc => g.2.1 (h.2.1 hc), fun hv => h.2.2 (g.2.2 hv)⟩

theorem same (h : Calm s t) (mode : u.mode = t.mode) (pass : u.passRun = t.passRun) : Calm s u :=
  h.trans ⟨by rw [mode], by rw [mode]; exact id, (State.visits_congr pass).mp⟩

theorem ite {c : Prop} [Decidable c] (h : Calm s t) (g : Calm s u) : Calm s (if c then t else u) := by
  split
  · exact h
  · exact g

theorem foldl {α : Type} {f : State → α → State} (hf : ∀ u a, Calm u (f u a)) (h : Calm s t) (l : List α) :
    Calm s (l.foldl f t) := by
  induction l generalizing t with
  | nil => exact h
  | cons a l ih => exact ih (h.trans (hf t a))

/-! ## Shared operations and the rail arbiter -/

theorem trigger (h : Calm s t) : Calm s t.trigger := h.same t.trigger_mode t.trigger_passRun

theorem updJob (h : Calm s t) (n : Nat) (f : Job → Job) : Calm s (t.updJob n f) := h

theorem reserveDest (h : Calm s t) (n : Nat) (l : Loc) (p : Nat) (o : Origin) : Calm s (t.reserveDest n l p o) := h

theorem report (h : Calm s t) (r : Report) : Calm s (t.report r) := h

theorem updCrane (h : Calm s t) (k : Nat) (f : Crane → Crane) : Calm s (t.updCrane k f) :=
  h.same (by rw [t.updCrane_eq]) (by rw [t.updCrane_eq])

theorem freeSource (h : Calm s t) (n : Nat) : Calm s (t.freeSource n) := by
  unfold State.freeSource
  repeat' split
  all_goals exact h

/-- A crane that changes its channel state leaves the running pass. -/
theorem passWithout (h : Calm s t) (k : Nat) (u : State) (mode : u.mode = t.mode) (pass : u.passRun = t.passWithout k) :
    Calm s u := by
  refine h.trans ⟨by rw [mode], by rw [mode]; exact id, ?_⟩
  rintro ⟨p, hp, hv⟩
  rw [pass, State.passWithout, Option.map_eq_some_iff] at hp
  obtain ⟨q, hq, rfl⟩ := hp
  exact ⟨q, hq, fun he => hv (by simp [Pass.without, he])⟩

theorem chanTo (h : Calm s t) (k : Nat) (st : ChanState) (r : ChanReason) : Calm s (t.chanTo k st r) := by
  have hpass : Calm s { t.updCrane k (fun c => c.entering st r) with
      readyOrder := readyAfter t.readyOrder k st, passRun := t.passWithout k } :=
    h.passWithout k _ (by rw [t.updCrane_eq]) rfl
  unfold State.chanTo
  exact ite (trigger hpass) hpass

theorem activate (h : Calm s t) (g : Leg) : Calm s (t.activate g) := by
  unfold State.activate
  split <;> exact h

theorem sendLeg (h : Calm s t) (k : Nat) : Calm s (t.sendLeg k) := by
  unfold State.sendLeg
  split
  · exact h
  · dsimp only
    exact activate (t := State.portSend _ k _) (h.updCrane k _) _

theorem grant (h : Calm s t) (k : Nat) (v : Span) : Calm s (t.grant k v).1 := by
  have hsent := (h.updCrane k (fun c => { c with claim := some v, request := none })).sendLeg k
  unfold State.grant
  dsimp only
  split
  · exact hsent.trigger
  · exact hsent

theorem evade (h : Calm s t) (k : Nat) : Calm s (t.evade k) := (h.updCrane k _).chanTo k _ _

theorem mutualWait (h : Calm s t) (k j : Nat) : Calm s (t.mutualWait k j).1 := by
  unfold State.mutualWait
  dsimp only
  split
  · exact h
  · split
    · exact h
    · exact h.updCrane _ _

theorem refuse (h : Calm s t) (k : Nat) : Calm s (t.refuse k).1 := by
  unfold State.refuse
  split
  · exact h
  · split
    · exact h.evade _
    · split
      · exact h
      · split
        · exact h
        · exact h.mutualWait _ _

theorem askRail (h : Calm s t) (k : Nat) : Calm s (t.askRail k).1 := by
  unfold State.askRail
  split
  · exact h
  · dsimp only
    split
    · exact h.grant _ _
    · exact (h.updCrane k _).refuse k

theorem retestRail (h : Calm s t) (k : Nat) : Calm s (t.retestRail k).1 := by
  unfold State.retestRail
  split
  · exact h
  · split
    · split
      · exact h.grant _ _
      · dsimp only
        split
        · exact h.grant _ _
        · exact h.grant _ _
    · exact h.refuse k

theorem railStep (h : Calm s t) (op : RailOp) : Calm s (t.railStep op).1 := by
  cases op with
  | ask k =>
    unfold State.railStep
    dsimp only
    split
    · exact h.askRail k
    · exact h
  | retest k =>
    unfold State.railStep
    dsimp only
    split
    · exact h.retestRail k
    · exact h

theorem railRun (n : Nat) (ops : List RailOp) (h : Calm s t) : Calm s (State.railRun n ops t) := by
  induction n generalizing ops t with
  | zero => exact h
  | succ n ih =>
    cases ops with
    | nil => exact h
    | cons op ops => exact ih _ (h.railStep op)

theorem rail (h : Calm s t) (ops : List RailOp) : Calm s (t.rail ops) := h.railRun _ _

theorem enter (h : Calm s t) (k : Nat) (st : ChanState) (r : ChanReason) : Calm s (t.enter k st r) :=
  (h.chanTo k st r).rail _

theorem railReport (h : Calm s t) (k : Nat) (claim span : Option Span) (x : Nat) (o : Bool) :
    Calm s (t.railReport k claim span x o) := by
  unfold State.railReport
  split
  · exact ite (h.updCrane k _) ((h.updCrane k _).trigger.rail _)
  · exact h

theorem reportPosition (h : Calm s t) (k : Nat) (p : Point) (o : Bool) : Calm s (t.reportPosition k p o) :=
  railReport (h.updCrane k _) k _ _ _ _

theorem goOn (h : Calm s t) (k : Nat) : Calm s (t.goOn k) := by
  unfold State.goOn
  exact ite (ite (h.rail _) (h.sendLeg k)) h

theorem applyPending (h : Calm s t) (k : Nat) : Calm s (t.applyPending k) := by
  unfold State.applyPending
  exact ite (h.updCrane k _).trigger h

theorem startPark (h : Calm s t) (k : Nat) : Calm s (t.startPark k) := ((h.updCrane k _).enter k _ _).goOn k

theorem endCycle (h : Calm s t) (k : Nat) : Calm s (t.endCycle k) := by
  have hend := (h.updCrane k Crane.planless).applyPending k
  unfold State.endCycle
  exact ite (hend.startPark k) (hend.enter k _ _)

theorem continueCrane (h : Calm s t) (k : Nat) : Calm s (t.continueCrane k) := by
  unfold State.continueCrane
  exact ite (ite (h.endCycle k) (h.goOn k)) h

/-! ## Stations, groups and the job pool -/

theorem retryPut (h : Calm s t) (n : Nat) : Calm s (t.retryPut n) := by
  unfold State.retryPut
  split
  · exact ite ((h.updCrane _ _).goOn _) h
  · exact h

theorem lowerPend (h : Calm s t) (n : Nat) : Calm s (t.lowerPend n) :=
  retryPut (trigger (t := t.updStation n _) h) n

theorem deliver (h : Calm s t) (n : Nat) : Calm s (t.deliver n) :=
  retryPut (trigger (t := t.updStation n _) h) n

theorem freeDest (h : Calm s t) (n : Nat) : Calm s (t.freeDest n) := by
  unfold State.freeDest
  split
  · exact h
  · split
    · exact h
    · dsimp only
      split
      · exact lowerPend (t := t.updJob n _) h _
      · exact trigger (t := (t.updJob n _).occupy _ _ _) h
      · exact h

theorem releaseHold (h : Calm s t) (gid d : Nat) : Calm s (t.releaseHold gid d) := by
  unfold State.releaseHold
  split
  · exact h
  · exact goOn (t := { t with holds := tableDrop _ t.holds }) h _

theorem settle (h : Calm s t) (gid p : Nat) : Calm s (t.settle gid p) := by
  unfold State.settle
  split
  · exact h
  · have ht := trigger (t := { t with groups := tablePut gid (Group.settle ‹_› p) t.groups }) h
    exact ite (ht.releaseHold _ _) ht

theorem removeClosed (h : Calm s t) (gid : Nat) : Calm s (t.removeClosed gid) := by
  unfold State.removeClosed
  split
  · exact h
  · exact ite h h

theorem readyHead (h : Calm s t) (q : List Nat) : Calm s (t.readyHead q) := by
  unfold State.readyHead
  split
  · exact h
  · exact trigger (t := t.updJob _ _) h

theorem leaveQueue (h : Calm s t) (st n : Nat) : Calm s (t.leaveQueue st n) := by
  unfold State.leaveQueue
  split
  · exact h
  · dsimp only
    exact ite (ite (readyHead (t := t.updStation st _) h _) h) h

theorem reportMaybe (h : Calm s t) (r : Option Report) : Calm s (t.reportMaybe r) := by
  cases r <;> exact h

theorem freed (h : Calm s t) (n : Nat) : Calm s ((t.freeJob n).unlink n) := h

theorem leaveCore (h : Calm s t) (n : Nat) (o : JobEnd) : Calm s (t.leaveCore n o) := by
  unfold State.leaveCore
  split
  · exact h
  · rename_i j _
    have h1 := (h.freeSource n).freeDest n
    have h2 := ite (c := j.grouped = true) (h1.settle j.group j.position) h1
    have h3 := ite (c := j.kind = .store) ((h2.freed n).leaveQueue j.station n) (h2.freed n)
    have h4 := ite (c := j.grouped = true) (h3.removeClosed j.group) h3
    exact (h4.reportMaybe _).trigger

theorem createRelocation (h : Calm s t) (j : Job) (front : Loc) : Calm s (t.createRelocation j front) :=
  trigger (t := State.reserveSource _ _ _ _) h

theorem makeReady (h : Calm s t) (n : Nat) (l : Loc) : Calm s (t.makeReady n l) :=
  trigger (t := (t.reserveSource n l _).updJob n _) h

theorem evaluateFront (h : Calm s t) (j : Job) (l : Loc) : Calm s (t.evaluateFront j l) := by
  unfold State.evaluateFront
  dsimp only
  split
  · exact h.makeReady _ _
  · exact ite h (ite (h.createRelocation _ _) h)
  all_goals exact h

theorem evaluateAt (h : Calm s t) (j : Job) (l : Loc) : Calm s (t.evaluateAt j l) := by
  unfold State.evaluateAt
  split
  · exact h
  · exact ite (h.leaveCore _ _) (ite h (ite h (ite (h.evaluateFront j l) (h.makeReady _ l))))

theorem evaluate (h : Calm s t) (n : Nat) : Calm s (t.evaluate n) := by
  unfold State.evaluate
  split
  · exact h
  · split
    · exact h
    · exact h.evaluateAt _ _

theorem reevaluate (h : Calm s t) (n : Nat) : Calm s (t.reevaluate n) := by
  unfold State.reevaluate
  split
  · exact ite (h.evaluate n) h
  · exact h

theorem reexamineRun (n : Nat) (h : Calm s t) : Calm s (State.reexamineRun n t) := by
  induction n generalizing t with
  | zero => exact h
  | succ n ih =>
    unfold State.reexamineRun
    exact ite h (ih (foldl (t := t.clearWork) (fun u n => (refl u).reevaluate n) h _))

theorem reexamine (h : Calm s t) : Calm s t.reexamine := h.reexamineRun _

theorem conclude (h : Calm s t) (c tag : Nat) (r : Result) (d : List Byte) : Calm s (t.conclude c tag r d) := h.reexamine

theorem evaluateLinked (h : Calm s t) (m : Nat) : Calm s (t.evaluateLinked m) :=
  h.foldl (fun u n => evaluate (t := u.updJob n _) (refl u) n) _

theorem leave (h : Calm s t) (n : Nat) (o : JobEnd) : Calm s (t.leave n o) := by
  unfold State.leave
  split
  · exact h
  · exact ite (h.leaveCore n o) ((h.leaveCore n o).evaluateLinked n)

theorem removeLegs (h : Calm s t) (k n : Nat) : Calm s (t.removeLegs k n) := h.updCrane k _

theorem returnReady (h : Calm s t) (n : Nat) : Calm s (t.returnReady n) := by
  unfold State.returnReady
  split
  · exact h
  · exact trigger (t := State.updJob _ _ _) (ite (h.freeDest n) h)

/-! ## The dispatch engine -/

theorem fixJob (h : Calm s t) (c : Candidate) : Calm s (t.fixJob c) := by
  unfold State.fixJob
  repeat' split
  all_goals exact h

theorem age (h : Calm s t) (l : List Candidate) : Calm s (t.age l) := h

theorem assignJob (h : Calm s t) (k : Nat) (c : Candidate) : Calm s (t.assignJob k c) := h

theorem assign (h : Calm s t) (k : Nat) (c : Candidate) (p : Option Candidate) (l : List Candidate) :
    Calm s (t.assign k c p l) := by
  have fixed := h.foldl (f := State.fixJob) (fun u c => (refl u).fixJob c) (planOrder c p)
  have assigned := fixed.foldl (f := fun u c => u.assignJob k c) (fun u c => (refl u).assignJob k c) (planOrder c p)
  unfold State.assign
  dsimp only
  exact ((foldl (fun u c => (refl u).report _) ((assigned.updCrane k _).age _) _).chanTo k _ _).reexamine

theorem select (h : Calm s t) (k : Nat) : Calm s (t.select k).1 := by
  unfold State.select
  dsimp only
  split
  · exact h
  · exact h.assign _ _ _ _

theorem passAssigned (h : Calm s t) (k : Nat) : Calm s (t.passAssigned k) := by
  refine h.trans ⟨rfl, id, ?_⟩
  rintro ⟨p, hp, hv⟩
  obtain ⟨q, hq, rfl⟩ := Option.map_eq_some_iff.mp hp
  exact ⟨q, hq, hv⟩

theorem visit (h : Calm s t) (k : Nat) : Calm s (t.visit k) := by
  unfold State.visit
  exact ite (ite ((h.select k).passAssigned k) (h.select k)) h

/-- Where no pass runs, none visits. -/
theorem noPass (h : Calm s t) (mode : u.mode = t.mode) (pass : u.passRun = none) : Calm s u := by
  refine h.trans ⟨by rw [mode], by rw [mode]; exact id, ?_⟩
  rintro ⟨p, hp, -⟩
  rw [pass] at hp
  cases hp

theorem closePass (h : Calm s t) : Calm s t.closePass := by
  unfold State.closePass
  split
  · exact ite ((noPass (u := { t with passRun := none }) h rfl rfl).foldl (fun u k => (refl u).goOn k) _) h
  · exact h

theorem advancePass (h : Calm s t) {p : Pass} (hp : t.passRun = some p) : Calm s (t.advancePass p) := by
  unfold State.advancePass
  split
  · exact h
  · rename_i k rest hv
    have shorter : Calm t { t with passRun := some { p with toVisit := rest } } :=
      ⟨rfl, id, fun _ => ⟨p, hp, by rw [hv]; exact List.cons_ne_nil _ _⟩⟩
    exact (h.trans shorter).visit k

/-! ## The crane channels -/

theorem hear (h : Calm s t) (k : Nat) : Calm s (t.hear k) := h.updCrane k _

theorem heard (h : Calm s t) (k : Nat) : Calm s (t.heard k) := by
  unfold State.heard
  exact ite (h.enter k _ _) h

theorem unresolve (h : Calm s t) (k p : Nat) : Calm s (t.unresolve k p) := h.updCrane k _

theorem dropLoad (h : Calm s t) (k : Nat) : Calm s (t.dropLoad k) := h.updCrane k _

theorem endSource (h : Calm s t) (n : Nat) (l : Loc) (o : Occupancy) : Calm s (t.endSource n l o) := by
  unfold State.endSource
  exact ite (trigger (t := State.updJob _ _ _) h) h

theorem putMade (h : Calm s t) (k : Nat) (j : Job) (late : Bool) : Calm s (t.putMade k j late) := by
  unfold State.putMade
  dsimp only
  refine leave (dropLoad ?_ k) _ _
  split
  · split
    · exact ite h h
    · exact h
    · exact deliver (t := t.updJob _ _) h _
  · exact h

theorem resolveLeg (h : Calm s t) (k : Nat) (j : Job) (kind : LegKind) (load : Nat) :
    Calm s (t.resolveLeg k j kind load) := by
  unfold State.resolveLeg
  dsimp only
  split
  · refine ite (unresolve (leave ?_ _ _) _ _) (h.returnReady _)
    split
    · exact h.endSource _ _ _
    · exact h
  · exact ite ((h.leave _ _).unresolve _ _) (h.putMade _ _ _)
  · exact h

theorem resolveUncertain (h : Calm s t) (k load : Nat) : Calm s (t.resolveUncertain k load) := by
  unfold State.resolveUncertain
  split
  · exact h
  · split
    · exact h.resolveLeg _ _ _ _
    all_goals exact h

theorem breakJob (h : Calm s t) (k n : Nat) (leg : Option LegKind) (info : Option Nat) :
    Calm s (t.breakJob k n leg info) := by
  have broken : ∀ j : Job, Calm s ((t.leave n (.failed .interrupted)).unresolve k j.pallet) := fun _ =>
    (h.leave _ _).unresolve _ _
  unfold State.breakJob
  split
  · exact h
  · split
    · exact h.returnReady _
    · cases leg with
      | none => exact broken _
      | some kind =>
        cases info with
        | none => exact h
        | some load => exact h.resolveLeg _ _ _ _
    · cases leg with
      | none => exact broken _
      | some kind =>
        cases info with
        | none => exact h
        | some load => exact h.resolveLeg _ _ _ _
    all_goals exact h

theorem breakPlan (h : Calm s t) (k : Nat) (info : Option Nat) : Calm s (t.breakPlan k info) := by
  unfold State.breakPlan
  dsimp only
  refine (foldl (fun u n => (refl u).breakJob k n _ info) ?_ _).applyPending k
  exact h.updCrane k Crane.broken

theorem haltCrane (h : Calm s t) (k : Nat) (info : Option Nat) : Calm s (t.haltCrane k info) := by
  unfold State.haltCrane
  split
  · exact h.breakPlan k info
  · exact h.updCrane k _
  all_goals exact h

theorem stopCrane (h : Calm s t) (k : Nat) : Calm s (t.stopCrane k) := h

theorem enterFault (h : Calm s t) (k : Nat) (r : FaultReason) (info : Option Nat) : Calm s (t.enterFault k r info) := by
  unfold State.enterFault
  exact ite h (((ite (h.stopCrane k) h).haltCrane k info).enter k _ _)

theorem strip (h : Calm s t) (j : Job) (r : FailReason) : Calm s (t.strip j r) :=
  ((h.removeLegs _ _).leave _ _).continueCrane _

theorem failJob (h : Calm s t) (k : Nat) (j : Job) (r : FailReason) : Calm s (t.failJob k j r) :=
  (h.removeLegs _ _).leave _ _

theorem dropRecorded (h : Calm s t) (k id : Nat) : Calm s (t.dropRecorded k id) := by
  unfold State.dropRecorded
  dsimp only
  split
  · exact h.dropLoad k
  · exact ((h.dropLoad k).removeLegs _ _).leave _ _

theorem stripFor (h : Calm s t) (k : Nat) (j : Job) : Calm s (t.stripFor k j) := by
  unfold State.stripFor
  exact ite ((h.removeLegs _ _).leave _ _) (h.strip _ _)

theorem stripLocation (h : Calm s t) (k id : Nat) : Calm s (t.stripLocation k id) := by
  unfold State.stripLocation
  split
  · exact h
  · dsimp only
    split
    · exact report (t := t.occupy _ _ _) h _
    · exact ((report (t := t.occupy _ _ _) h _).updJob _ _).stripFor _ _

theorem stripStore (h : Calm s t) (k id : Nat) : Calm s (t.stripStore k id) := by
  unfold State.stripStore
  split
  · exact h
  · exact h.stripFor _ _

theorem acceptForeign (h : Calm s t) (k id : Nat) : Calm s (t.acceptForeign k id) :=
  (((h.updCrane k _).stripLocation k id).stripStore k id).unresolve k id

theorem compareLoad (h : Calm s t) (k load : Nat) : Calm s (t.compareLoad k load) := by
  have dropped : Calm s (if (t.crane k).loadId ≠ 0 then t.dropRecorded k (t.crane k).loadId else t) :=
    ite (h.dropRecorded k _) h
  unfold State.compareLoad
  exact ite h (ite (h.enterFault _ _ _) (ite (dropped.acceptForeign k load) dropped))

theorem carry (h : Calm s t) (k : Nat) (j : Job) (b : Bool) : Calm s (t.carry k j b) :=
  updCrane (t := t.updJob _ _) h k _

theorem fetchDone (h : Calm s t) (k : Nat) (j : Job) (g : Target) : Calm s (t.fetchDone k j g) := by
  unfold State.fetchDone
  split
  · rename_i l
    have ended := h.endSource j.num l .empty
    exact carry (ite (ended.evaluateLinked j.num) ended) k j _
  · exact (h.leaveQueue _ _).carry k j _
  · exact h

theorem sequenceCheck (h : Calm s t) (k : Nat) (j : Job) : Calm s (t.sequenceCheck k j) := by
  unfold State.sequenceCheck
  split
  · exact h
  · exact ite h h

theorem sleep (h : Calm s t) (k : Nat) : Calm s (t.sleep k) :=
  enter (t := (t.updCrane k _).portSend k _) (h.updCrane k _) k _ _

theorem parkDone (h : Calm s t) (k : Nat) : Calm s (t.parkDone k) := by
  unfold State.parkDone
  exact ite (h.sleep k) (h.updCrane k _)

theorem legDone (h : Calm s t) (k : Nat) (g : Leg) : Calm s (t.legDone k g) := by
  unfold State.legDone
  split
  · split
    · exact h.fetchDone _ _ _
    · exact h.putMade _ _ _
    · exact ite (h.sequenceCheck _ _) h
  · exact ite (h.parkDone k) h

theorem binOccupied (h : Calm s t) (k : Nat) (j : Job) (l : Loc) : Calm s (t.binOccupied k j l) := by
  have reported : Calm s ((t.endDest j.num l .unknown none).report (.locationConflict k l j.pallet .binOccupied)) := h
  unfold State.binOccupied
  refine ite ((reported.failJob _ _ _).unresolve _ _) ?_
  split
  · exact (reported.failJob _ _ _).unresolve _ _
  · exact (reported.reserveDest _ _ _ _).updCrane k _

theorem outfeedFull (h : Calm s t) (k n : Nat) (g : Leg) : Calm s (t.outfeedFull k n g) :=
  updCrane (t := t.updStation n _) h k _

theorem fetchFailed (h : Calm s t) (k : Nat) (j : Job) (g : Target) (o : Occupancy) (f : Finding) (r : FailReason) :
    Calm s (t.fetchFailed k j g o f r) := by
  unfold State.fetchFailed
  split
  · exact failJob (t := State.report _ _) (h.endSource _ _ _) _ _ _
  · exact h.failJob _ _ _
  · exact h.failJob _ _ _

theorem legFailed (h : Calm s t) (k : Nat) (g : Leg) (f : Finding) : Calm s (t.legFailed k g f) := by
  unfold State.legFailed
  split
  · exact h
  · split
    · exact h.fetchFailed _ _ _ _ _ _
    · exact h.fetchFailed _ _ _ _ _ _
    · split
      · exact h.binOccupied _ _ _
      · exact h.outfeedFull _ _ _
      · exact h
    · exact h

theorem settleLoad (h : Calm s t) (k load : Nat) (m : Bool) : Calm s (t.settleLoad k load m) := by
  have resolved := h.resolveUncertain k load
  exact continueCrane (ite resolved (resolved.compareLoad k load)) k

theorem afterLeg (h : Calm s t) (k load : Nat) (m : Bool) : Calm s (t.afterLeg k load m) := (h.settleLoad k load m).reexamine

theorem onStale (h : Calm s t) (k : Nat) (p : Point) (load : Nat) (m : Bool) : Calm s (t.onStale k p load m) :=
  ((h.reportPosition k p m).heard k).afterLeg k load m

theorem onDone (h : Calm s t) (k id : Nat) (p : Point) (load : Nat) : Calm s (t.onDone k id p load) := by
  have ended := ((h.hear k).updCrane k Crane.legEnded).reportPosition k p false
  unfold State.onDone
  refine ite ?_ ((h.hear k).onStale _ _ _ _)
  split
  · exact ended.afterLeg _ _ _
  · exact (ended.legDone _ _).afterLeg _ _ _

theorem currentFailed (h : Calm s t) (k : Nat) (g : Leg) (r : Nat) (p : Point) (load : Nat) :
    Calm s (t.currentFailed k g r p load) := by
  have ended := (h.updCrane k Crane.legEnded).reportPosition k p false
  unfold State.currentFailed
  split
  · exact (ended.legFailed _ _ _).afterLeg _ _ _
  · exact ended.afterLeg _ _ _
  · exact ((h.reportPosition _ _ _).enterFault _ _ _).afterLeg _ _ _

theorem onFailed (h : Calm s t) (k id r : Nat) (p : Point) (load : Nat) : Calm s (t.onFailed k id r p load) := by
  have heard := h.hear k
  unfold State.onFailed
  dsimp only
  split
  · exact ite (heard.currentFailed _ _ _ _ _) (heard.onStale _ _ _ _)
  · exact heard.onStale _ _ _ _

theorem stateChange (h : Calm s t) (k : Nat) (m p : Bool) (load : Nat) : Calm s (t.stateChange k m p load) := by
  have marked : Calm s (if p = true then t.updCrane k (fun c => { c with powerReturn := true }) else t) :=
    ite (h.updCrane k _) h
  unfold State.stateChange
  dsimp only
  split
  · exact ite marked ((marked.haltCrane _ _).enter _ _ _)
  · exact ite marked ((marked.haltCrane _ _).enter _ _ _)
  · split
    · exact marked.enter _ _ _
    · exact marked.enter _ _ _
    all_goals exact marked

theorem markCheck (h : Calm s t) (k : Nat) (m p : Bool) : Calm s (t.markCheck k m p) := by
  unfold State.markCheck
  split
  · exact h
  · rename_i c hc
    exact h.trans ⟨rfl, fun hn => absurd (hc.symm.trans hn) (Option.some_ne_none c), id⟩

theorem onState (h : Calm s t) (k : Nat) (m p : Bool) (pt : Point) (load : Nat) : Calm s (t.onState k m p pt load) := by
  have changed := stateChange (t := (t.hear k).recordPosition k pt) ((h.hear k).updCrane k _) k m p load
  exact (((changed.railReport k _ _ _ _).settleLoad k load _).markCheck k m p).reexamine

theorem runTaken (h : Calm s t) (k id : Nat) : Calm s (runTaken k id t) := by
  have heard := (h.hear k).heard k
  exact reexamine (ite (heard.updCrane k _) heard)

theorem runState (h : Calm s t) (k m f x y l : Nat) : Calm s (runState k m f x y l t) := by
  unfold Machine.runState
  exact ite (h.onState _ _ _ _ _) (h.hear k)

theorem runBadFrame (h : Calm s t) (k : Nat) : Calm s (runBadFrame k t) := by
  unfold Machine.runBadFrame
  exact ite (ite ((h.updCrane k _).enterFault _ _ _).reexamine (h.updCrane k _)) (h.updCrane k _)

theorem runCraneTelegram (h : Calm s t) (i : Instr) : Calm s (runCraneTelegram t i) := by
  unfold Machine.runCraneTelegram
  split
  · exact h.runTaken _ _
  · exact h.onDone _ _ _ _
  · exact h.onFailed _ _ _ _ _
  · exact h.runState _ _ _ _ _ _
  · exact h

theorem portEvent (h : Calm s t) (k : Nat) (e : RxEvent) : Calm s (t.portEvent k e) := by
  unfold State.portEvent
  split
  · exact h
  · exact h
  · exact h.runBadFrame _
  · split
    · exact h.runCraneTelegram _
    · exact h.hear _

theorem portByte (h : Calm s t) (k : Nat) (b : Byte) : Calm s (State.portByte k t b) := by
  unfold State.portByte
  exact ite ((h.updCrane k _).portEvent _ _) h

theorem lineBytes (h : Calm s t) (port : Nat) (bs : List Byte) : Calm s (t.lineBytes port bs) := by
  unfold State.lineBytes
  exact ite h (h.foldl (fun u b => (refl u).portByte port b) bs)

theorem portGap (h : Calm s t) (k : Nat) : Calm s (t.portGap k) := by
  unfold State.portGap
  exact ite ((h.updCrane k _).runBadFrame k) h

theorem onPort (h : Calm s t) (k : Nat) {f : State → State} (hf : Calm t (f t)) : Calm s (t.onPort k f) := by
  unfold State.onPort
  exact ite (h.trans hf) h

end Calm

end Sys2Proof.Machine
end

section
/-! SUPPORT. Every step keeps the pass and the resume check with their run states, and leaves no re-examination owed. -/

namespace Sys2Proof.Machine

variable {s t u : State}

/-! ## Requests are calm, but for those that set the run state -/

namespace Calm

theorem judged (s : State) (c tag : Nat) (r : Result) {e : State → State} (he : Calm s (e s)) :
    Calm s (s.judged c tag r e) := by
  unfold State.judged
  exact ite (he.conclude _ _ _ _) ((refl s).conclude _ _ _ _)

theorem judgedData (s : State) (c tag : Nat) (r : Result) {e : State → State} {d : State → List Byte}
    (he : Calm s (e s)) : Calm s (s.judgedData c tag r e d) := by
  unfold State.judgedData
  exact ite (he.conclude _ _ _ _) ((refl s).conclude _ _ _ _)

theorem plain (s : State) (c tag : Nat) (r : Result) (d : List Byte) : Calm s (s.conclude c tag r d) :=
  (refl s).conclude c tag r d

theorem discardClaims (h : Calm s t) (n : Nat) : Calm s (t.discardClaims n) := h

theorem defineCrane (h : Calm s t) (q : CraneFields) : Calm s (t.defineCrane q) :=
  h.same (by rw [t.defineCrane_eq]) (by rw [t.defineCrane_eq])

theorem defineStation (h : Calm s t) (q : StationFields) : Calm s (t.defineStation q) := by
  unfold State.defineStation
  split <;> exact h

theorem definePolicy (h : Calm s t) (p : Policy) : Calm s (t.definePolicy p) := by
  unfold State.definePolicy State.promoteAt
  exact ite h h

theorem applySetLoc (h : Calm s t) (l : Loc) (q : SetLocFields) : Calm s (t.applySetLoc l q) := by
  unfold State.applySetLoc
  exact ite (trigger (t := t.correct _ _ _ _) h) h

theorem loadLevels (l : Loc) (v : Nat) (es : List LevelFields) (h : Calm s t) : Calm s (loadLevels l v es t) := by
  induction es generalizing v t with
  | nil => exact h
  | cons e es ih => exact ih (t := t.correct _ _ _ _) _ h

theorem pullBack (h : Calm s t) (l : Loc) : Calm s (t.pullBack l) := by
  unfold State.pullBack
  split
  · exact h
  · exact (h.freeSource _).updJob _ _

theorem touchPair (h : Calm s t) (l : Loc) : Calm s (t.touchPair l) := h

theorem setLoc (h : Calm s t) (l : Loc) (r : LocRec) : Calm s (t.setLoc l r) := h

theorem writeAttrs (h : Calm s t) (l : Loc) (a : Attrs) : Calm s (t.writeAttrs l a) := by
  have written := ite (c := (a.noRetrieve && !(t.loc l).attrs.noRetrieve) = true)
    ((h.setLoc l { t.loc l with attrs := a }).pullBack l) (h.setLoc l { t.loc l with attrs := a })
  unfold State.writeAttrs
  exact ite (written.touchPair l).trigger written

theorem markAll (h : Calm s t) (o : Nat) (l : Loc) (w : Nat) : Calm s (t.markAll o l w) :=
  h.foldl (fun u m => (refl u).writeAttrs m _) _

theorem applyStore (h : Calm s t) (q : StoreFields) : Calm s (t.applyStore q) := by
  have reserved : ∀ u : State, Calm s u → Calm s (u.reserveTarget q) := by
    intro u hu
    unfold State.reserveTarget
    repeat' split
    all_goals exact hu
  have joined : ∀ u : State, Calm s u → Calm s (u.joinQueue q.station q.job) := fun u hu => hu
  have enrolled : ∀ j : Job, Calm s (t.enroll j) := fun j => h
  unfold State.applyStore
  exact ite (joined _ (reserved _ (enrolled _))).trigger (joined _ (reserved _ (enrolled _)))

theorem enterGroup (h : Calm s t) (gid p n : Nat) : Calm s (t.enterGroup gid p n) := by
  unfold State.enterGroup
  split <;> exact h

theorem enroll (h : Calm s t) (j : Job) : Calm s (t.enroll j) := h

theorem applyRetrieve (h : Calm s t) (q : RetrieveFields) : Calm s (t.applyRetrieve q) := by
  unfold State.applyRetrieve
  split
  · exact h
  · dsimp only
    have grouped : ∀ j, Calm s (if q.group = 0 then t.enroll j else (t.enroll j).enterGroup q.group q.position q.job) :=
      fun j => ite (h.enroll j) ((h.enroll j).enterGroup _ _ _)
    exact ite ((grouped _).evaluate _) (grouped _)

theorem cancelJob (h : Calm s t) (j : Job) : Calm s (t.cancelJob j) := by
  unfold State.cancelJob
  exact ite (((h.removeLegs _ _).leave _ _).continueCrane _) (h.leave _ _)

theorem reserveRecover (h : Calm s t) (q : RecoverFields) (n p : Nat) : Calm s (t.reserveRecover q n p) := by
  unfold State.reserveRecover
  repeat' split
  all_goals exact h

theorem applyRecover (h : Calm s t) (q : RecoverFields) : Calm s (t.applyRecover q) :=
  ((reserveRecover (t := State.enroll { t with intNext := _ } _) h q _ _).trigger).report _

theorem closeGroup (h : Calm s t) (gid : Nat) : Calm s (t.closeGroup gid) := by
  unfold State.closeGroup
  split
  · exact h
  · exact ite h h

theorem clearStation (h : Calm s t) (n c : Nat) : Calm s (t.clearStation n c) := by
  unfold State.clearStation
  exact ite h ((trigger (t := t.updStation _ _) h).retryPut _)

theorem applyResume (h : Calm s t) (k : Nat) : Calm s (t.applyResume k) := by
  unfold State.applyResume
  split
  · exact h.enter _ _ _
  · exact h.enter _ _ _
  · exact (h.updCrane k _).enter _ _ _
  · exact enter (t := t.portSend _ _) h _ _ _
  all_goals exact h

theorem applyPark (h : Calm s t) (k : Nat) : Calm s (t.applyPark k) := by
  unfold State.applyPark
  split
  · exact h.startPark _
  · exact h.updCrane _ _
  all_goals exact h

theorem applyStaged (h : Calm s t) (k : Nat) : Calm s (t.applyStaged k) := by
  unfold State.applyStaged
  exact ite h (h.applyPending k)

theorem expireHold (h : Calm s t) (k : Nat) (v : Hold) : Calm s (t.expireHold k v) :=
  (updJob (t := { t with holds := tableDrop k t.holds }) h _ _).goOn k

theorem clearErrors (h : Calm s t) (c : Nat) : Calm s (t.clearErrors c) := by
  unfold State.clearErrors
  exact ite h h

end Calm

/-- A request that may not change the run state is calm. -/
theorem runRequest_calm {i : Instr} (h : i.setsRun = false) (s : State) : Calm s (runRequest i s) := by
  have r := Calm.refl s
  cases i <;> simp only [Instr.setsRun, Bool.true_eq_false] at h <;> simp only [runRequest]
  case unknownCode | identify | queryPolicy => exact Calm.plain s _ _ _ _
  case status tag clear =>
    unfold runStatus
    exact Calm.ite ((r.clearErrors clear).conclude _ _ _ _) (Calm.plain s _ _ _ _)
  case queryJob =>
    unfold runQueryJob
    repeat' split
    all_goals exact Calm.plain s _ _ _ _
  case queryLoc =>
    unfold runQueryLoc
    split <;> exact Calm.plain s _ _ _ _
  case queryCrane =>
    unfold runQueryCrane
    repeat' split
    all_goals exact Calm.plain s _ _ _ _
  case queryGroup =>
    unfold runQueryGroup
    repeat' split
    all_goals exact Calm.plain s _ _ _ _
  case setAisle => exact Calm.judged s _ _ _ r
  case setCrane => exact Calm.judged s _ _ _ (r.defineCrane _)
  case setStation => exact Calm.judged s _ _ _ (r.defineStation _)
  case setPolicy => exact Calm.judgedData s _ _ _ (r.definePolicy _)
  case setOriginator => exact Calm.judged s _ _ _ r
  case loadMap =>
    unfold runLoadMap
    refine Calm.ite (Calm.plain s _ _ _ _) ?_
    split
    · exact Calm.plain s _ _ _ _
    · exact Calm.judgedData s _ _ _ (r.loadLevels _ _ _)
  case store => exact Calm.judgedData s _ _ _ (r.applyStore _)
  case retrieve => exact Calm.judgedData s _ _ _ (r.applyRetrieve _)
  case cancel =>
    unfold runCancel
    refine Calm.ite (Calm.plain s _ _ _ _) (Calm.ite (Calm.plain s _ _ _ _) ?_)
    split
    · exact Calm.plain s _ _ _ _
    · exact Calm.judgedData s _ _ _ (r.cancelJob _)
  case recover => exact Calm.judgedData s _ _ _ (r.applyRecover _)
  case groupOpen => exact Calm.judged s _ _ _ r
  case groupClose => exact Calm.judgedData s _ _ _ (r.closeGroup _)
  case groupSkip => exact Calm.judgedData s _ _ _ (r.settle _ _)
  case stationClear => exact Calm.judgedData s _ _ _ (r.clearStation _ _)
  case setLoc =>
    unfold runSetLoc
    split
    · exact Calm.plain s _ _ _ _
    · exact Calm.judged s _ _ _ (r.applySetLoc _ _)
  case setAttr =>
    unfold runSetAttr
    refine Calm.ite (Calm.plain s _ _ _ _) ?_
    split
    · exact Calm.plain s _ _ _ _
    · exact Calm.judgedData s _ _ _ (r.writeAttrs _ _)
  case mark =>
    unfold runMark
    refine Calm.ite (Calm.plain s _ _ _ _) ?_
    split
    · exact Calm.plain s _ _ _ _
    · exact (r.markAll _ _ _).conclude _ _ _ _
  case craneCtlResume => exact Calm.judgedData s _ _ _ (r.applyResume _)
  case craneCtlPark => exact Calm.judgedData s _ _ _ (r.applyPark _)
  case craneCtlProfile => exact Calm.judgedData s _ _ _ ((r.updCrane _ _).applyStaged _)
  case craneCtlReach => exact Calm.judgedData s _ _ _ ((r.updCrane _ _).applyStaged _)
  all_goals exact r

/-- A request command that may not change the run state is calm, taken at once or not. -/
theorem Calm.present {i : Instr} (h : i.setsRun = false) (s : State) : Calm s (s.present i (runRequest i)) := by
  unfold State.present
  exact Calm.ite (runRequest_calm h s) (Calm.refl s)

/-- An event that is no request is calm where it may not change the run state. -/
theorem event_calm {i : Instr} (hr : i.isRequest = false) (h : i.setsRun = false) (he : exec i s = .next t) : Calm s t := by
  have r := Calm.refl s
  cases i <;> simp only [Instr.isRequest, Instr.setsRun, Bool.true_eq_false] at hr h
  case holdExpiry k =>
    simp only [exec, execHoldExpiry] at he
    split at he <;> injection he with he <;> subst he
    · exact r
    · exact (r.expireHold k _).reexamine
  all_goals
    injection he with he
    subst he
  case hostFrame => exact r.lineBytes _ _
  case frameGapTimeout port bytes =>
    exact Calm.ite r ((r.lineBytes _ _).onPort _ ((Calm.refl _).portGap _))
  case hostReadyChange => exact r
  case telegramSent => exact Calm.ite r r
  case taken => exact r.onPort _ (r.runTaken _ _)
  case done => exact r.onPort _ (r.onDone _ _ _ _)
  case failed => exact r.onPort _ (r.onFailed _ _ _ _ _)
  case state => exact r.onPort _ (r.runState _ _ _ _ _ _)
  case craneBadFrame => exact r.onPort _ (r.runBadFrame _)
  case craneTelegramDiscarded => exact r.onPort _ (r.hear _)
  case takenTimerExpiry => exact Calm.ite (r.enterFault _ _ _).reexamine r
  case legTimerExpiry => exact Calm.ite (r.enterFault _ _ _).reexamine r
  case silenceTimeout k =>
    exact Calm.ite ((r.updCrane k Crane.silent).enterFault _ _ _).reexamine (r.updCrane k Crane.silent)
  case parkingHoldExpiry => exact Calm.ite (r.sleep _).reexamine r
  case earliestStartExpiry => exact Calm.ite (r.evaluate _).reexamine r
  case bodyLengthOutOfRange => exact r.lineBytes _ _

/-- A command that may not change the run state is calm. -/
theorem exec_calm {i : Instr} (h : i.setsRun = false) (he : exec i s = .next t) : Calm s t := by
  by_cases hr : i.isRequest = true
  · rw [exec_request i hr] at he
    injection he with he
    exact he ▸ Calm.present h s
  · exact event_calm (by simpa using hr) h he

end Sys2Proof.Machine
end

section
/-! SUPPORT. The commands that set the run state, the end of every event, and the invariants of every step. -/

namespace Sys2Proof.Machine

variable {s t u : State}

/-! ## The pass and the resume check with their run states -/

/-- A pass has cranes to visit in RUN alone (R71). -/
def State.visitsSound (s : State) : Prop := s.visits → s.mode.run = .run

theorem State.passSound_iff (s : State) :
    s.passSound ↔ (s.passDue = true → s.mode.run = .run) ∧ s.visitsSound := by
  simp only [State.passSound, State.visitsSound, State.visits, forall_exists_index, and_imp]

/-- From `s` to `t` a pass keeps visiting in RUN alone, and a resume check running in SAFE alone. -/
def Steady (s t : State) : Prop := (s.visitsSound → t.visitsSound) ∧ (s.checkSound → t.checkSound)

theorem Calm.steady (h : Calm s t) : Steady s t := by
  obtain ⟨run, check, visits⟩ := h
  exact ⟨fun hs hv => run.trans (hs (visits hv)), fun hs hc => run.trans (hs (mt check hc))⟩

namespace Steady

theorem refl (s : State) : Steady s s := ⟨id, id⟩

theorem trans (h : Steady s t) (g : Steady t u) : Steady s u := ⟨g.1 ∘ h.1, g.2 ∘ h.2⟩

theorem calm (h : Steady s t) (g : Calm t u) : Steady s u := h.trans g.steady

theorem ite {c : Prop} [Decidable c] (h : c → Steady s t) (g : ¬c → Steady s u) : Steady s (if c then t else u) := by
  split
  · exact h ‹_›
  · exact g ‹_›

/-- Outside SAFE no resume check runs. -/
theorem noCheck (h : s.checkSound) (run : s.mode.run ≠ .safe) : s.mode.check = none := by
  by_contra hc
  exact run (h hc)

/-- A change of the run state that begins outside SAFE and starts no resume check. -/
theorem leavingNoCheck (run : s.mode.run ≠ .safe) (check : t.mode.check = s.mode.check)
    (visits : t.visits → t.mode.run = .run) : Steady s t :=
  ⟨fun _ => visits, fun hs hc => absurd (check.trans (noCheck hs run)) hc⟩

/-- A change after which no resume check runs and no pass visits. -/
theorem cleared (check : t.mode.check = none) (pass : t.passRun = none) : Steady s t := by
  refine ⟨fun _ hv => ?_, fun _ hc => absurd check hc⟩
  obtain ⟨p, hp, -⟩ := hv
  rw [pass] at hp
  cases hp

end Steady

theorem enterRun_steady (run : s.mode.run = .config) : Steady s s.enterRun := by
  have running : Steady s { s with mode := { s.mode with run := .run, active := s.aisles.map Prod.fst } } :=
    Steady.leavingNoCheck (by rw [run]; decide) rfl (fun _ => rfl)
  exact running.calm (Calm.refl _).trigger

theorem runStart_steady (s : State) (tag : Nat) : Steady s (runStart tag s) := by
  have plain : ∀ r d, Steady s (s.conclude 0x16 tag r d) := fun r d => (Calm.plain s _ _ r d).steady
  unfold runStart
  refine Steady.ite (fun _ => plain _ _) (fun config => ?_)
  split
  · exact plain _ _
  · refine Steady.ite (fun _ => plain _ _) (fun _ => ?_)
    exact (enterRun_steady (by simpa [State.inConfig] using config)).calm ((Calm.refl _).conclude _ _ _ _)

/-- A pass that has been stopped visits no crane (R71). -/
theorem stopped_visits (h : t.passRun = s.passRun.map Pass.stopped) : ¬ t.visits := by
  rintro ⟨p, hp, hv⟩
  rw [h] at hp
  obtain ⟨q, -, rfl⟩ := Option.map_eq_some_iff.mp hp
  exact hv rfl

theorem setRun_steady (run : s.mode.run ≠ .safe) (r : RunState) : Steady s (s.setRun r) := by
  unfold State.setRun
  refine Steady.ite (fun hr => ?_) (fun _ => ?_)
  · have running : Steady s { s with mode := { s.mode with run := r } } :=
      Steady.leavingNoCheck run rfl (fun _ => hr)
    exact Steady.ite (fun _ => running) (fun _ => running.calm (Calm.refl _).trigger)
  · exact Steady.leavingNoCheck run rfl (fun hv => absurd hv (stopped_visits rfl))

theorem Calm.setActive (h : Calm s t) (l : List Nat) : Calm s (t.setActive l) := by
  have active : Calm s { t with mode := { t.mode with active := l } } := h.trans ⟨rfl, id, id⟩
  unfold State.setActive
  exact ite active.trigger active

theorem Calm.stageSpeed (h : Calm s t) (v : SpeedClass) (k : Nat) : Calm s (State.stageSpeed v t k) := by
  unfold State.stageSpeed
  exact ite ((h.updCrane k _).applyStaged k) h

theorem applyMode_steady (run : s.mode.run ≠ .safe) (r : RunState) (v : SpeedClass) (l : List Nat) :
    Steady s (s.applyMode r v l) := by
  have speed : Calm s { s with mode := { s.mode with speed := v } } := ⟨rfl, id, id⟩
  have staged := speed.foldl (fun u k => (Calm.refl u).stageSpeed v k) craneNumbers
  have set := staged.steady.trans ((setRun_steady (by rw [staged.1]; exact run) r).calm ((Calm.refl _).setActive l))
  unfold State.applyMode
  dsimp only
  exact Steady.ite (fun _ => set.calm ((Calm.refl _).report _)) (fun _ => set)

theorem State.checkMode_ok {r v l : Nat} (h : s.checkMode r v l = .ok) : s.mode.run ≠ .safe := by
  intro hrun
  simp [State.checkMode, firstFail, State.inRunHold, hrun] at h

theorem runSetMode_steady (s : State) (tag r v l : Nat) : Steady s (runSetMode tag r v l s) := by
  unfold runSetMode State.judgedData
  refine Steady.ite (fun ok => ?_) (fun _ => (Calm.plain s _ _ _ _).steady)
  exact (applyMode_steady (State.checkMode_ok ok) _ _ _).calm ((Calm.refl _).conclude _ _ _ _)

theorem restarted_steady (s : State) : Steady s s.restarted := Steady.cleared rfl rfl

/-- A request keeps pass and resume check with their run states. -/
theorem runRequest_steady (i : Instr) (s : State) : Steady s (runRequest i s) := by
  by_cases h : i.setsRun = false
  · exact (runRequest_calm h s).steady
  · cases i <;> simp only [Instr.setsRun, not_true_eq_false] at h <;> simp only [runRequest]
    case start => exact runStart_steady s _
    case setMode => exact runSetMode_steady s _ _ _ _
    case restart => exact (restarted_steady s).calm ((Calm.refl _).conclude _ _ _ _)
    all_goals exact Steady.refl s

/-! ## The stop input and the resume check -/

theorem Calm.safeCrane (h : Calm s t) (k : Nat) : Calm s (t.safeCrane k) := by
  unfold State.safeCrane
  exact ite ((((ite (h.stopCrane k) h).haltCrane k none).updCrane k _).enter k _ _) h

theorem Calm.reportMode (h : Calm s t) (c : ModeCause) : Calm s (t.reportMode c) := h

theorem Calm.setSnapshot (h : Calm s t) (v : Option (Assoc (Option Load))) :
    Calm s { t with mode := { t.mode with snapshot := v } } := h.trans ⟨rfl, id, id⟩

theorem enterSafe_steady (s : State) : Steady s s.enterSafe := by
  have safe : Steady s { s with mode := { s.mode with run := .safe }, passDue := false, passRun := none } := by
    refine ⟨fun _ hv => ?_, fun _ _ => rfl⟩
    obtain ⟨p, hp, -⟩ := hv
    cases hp
  have halted := safe.calm (Calm.foldl (fun u k => (Calm.refl u).safeCrane k) (Calm.refl _) craneNumbers)
  unfold State.enterSafe
  dsimp only
  generalize craneNumbers.foldl State.safeCrane
    { s with mode := { s.mode with run := .safe }, passDue := false, passRun := none } = u at halted ⊢
  exact (halted.calm ((Calm.refl u).setSnapshot _).reexamine).calm ((Calm.refl _).reportMode _)

theorem stopInput_steady (s : State) (c : Bool) : Steady s (s.stopInput c) := by
  have settled : Calm s { s with mode := { s.mode with stop := c } } := ⟨rfl, id, id⟩
  unfold State.stopInput
  refine Steady.ite (fun _ => Steady.refl s) (fun _ => ?_)
  dsimp only
  split
  · exact settled.steady
  · exact settled.steady.trans (enterSafe_steady _)
  · exact settled.steady.trans (enterSafe_steady _)
  · exact settled.steady
  · exact settled.steady
  · exact settled.steady.trans ⟨id, fun _ _ => by assumption⟩
  · exact settled.steady.trans ⟨id, fun _ hc => absurd rfl hc⟩

theorem settleStop_calm (s : State) : Calm s s.settleStop := ⟨rfl, id, id⟩

theorem endCheck_steady (s : State) (c : Check) : Steady s (s.endCheck c) := Steady.cleared rfl rfl

/-- The commands that set the run state keep pass and resume check with it. -/
theorem exec_setsRun_steady {i : Instr} (h : i.setsRun = true) (he : exec i s = .next t) : Steady s t := by
  have stop : ∀ c, Steady s (s.settleStop.stopInput c).finish := fun c =>
    ((settleStop_calm s).steady.trans (stopInput_steady _ c)).calm (Calm.refl _).reexamine
  by_cases hr : i.isRequest = true
  · rw [exec_request i hr] at he
    injection he with he
    subst he
    unfold State.present
    exact Steady.ite (fun _ => runRequest_steady i s) (fun _ => Steady.refl s)
  · cases i <;> simp only [Instr.isRequest, not_true_eq_false, Instr.setsRun, Bool.false_eq_true] at hr h
    case powerOn =>
      injection he with he
      subst he
      exact Steady.cleared rfl rfl
    case stopInputChange c =>
      injection he with he
      subst he
      exact stop c
    case stopInputSettled c =>
      injection he with he
      subst he
      exact Steady.ite (fun _ => Steady.refl s) (fun _ => stop c)
    case resumeCheckExpiry =>
      simp only [exec, execResumeCheckExpiry] at he
      split at he <;> injection he with he <;> subst he
      · exact Steady.refl s
      · exact (endCheck_steady s _).calm (Calm.refl _).reexamine

theorem exec_steady {i : Instr} (he : exec i s = .next t) : Steady s t := by
  cases h : i.setsRun with
  | false => exact (exec_calm h he).steady
  | true => exact exec_setsRun_steady h he

/-! ## The idle step -/

theorem dispatch_steady (h : s.dispatches = true) : Steady s s.dispatch := by
  unfold State.dispatch
  split
  · rename_i p hp
    exact (((Calm.refl s).advancePass hp).closePass.reexamine).steady
  · rename_i hp
    have run : s.mode.run = .run := by simp_all [State.dispatches]
    have started : Steady s s.startPass := ⟨fun _ _ => run, id⟩
    exact started.calm ((Calm.refl _).closePass.reexamine)

theorem tick_steady (s : State) : Steady s s.tick := by
  have calm : Calm s s.tick := ⟨rfl, fun hc => by simp [State.tick, Mode.tick, hc], id⟩
  exact calm.steady

theorem runBody_steady (body : List Byte) (s : State) : Steady s (runBody body s) := by
  unfold runBody
  split
  · exact runRequest_steady _ s
  · exact (Calm.plain s _ _ _ _).steady
  · exact (Calm.plain s _ _ _ _).steady

theorem takeRequest_steady (s : State) : Steady s s.takeRequest := by
  unfold State.takeRequest
  split
  · exact Steady.refl s
  · rename_i body rest _
    have taken : Calm s { s with link := { s.link with ring := rest } } := Calm.refl s
    exact taken.steady.trans (runBody_steady body _)

theorem idle_steady (s : State) : Steady s s.idle := by
  unfold State.idle
  exact Steady.ite dispatch_steady (fun _ => Steady.ite (fun _ => takeRequest_steady s) (fun _ => tick_steady s))

theorem step_steady (h : step s = .next t) : Steady s t := by
  unfold step at h
  split at h
  · injection h with h
    exact h ▸ idle_steady s
  · rename_i i rest _
    have fetched : Calm s { s with pending := rest } := Calm.refl s
    exact fetched.steady.trans (exec_steady h)

/-! ## No re-examination is owed between events (R38) -/

theorem State.quiet_reexamineRun (n : Nat) (s : State) : (State.reexamineRun n s).quiet := by
  induction n generalizing s with
  | zero => rfl
  | succ n ih =>
    unfold State.reexamineRun
    split
    · rename_i h
      obtain ⟨pairs, busy⟩ := (Bool.and_eq_true _ _).mp h
      show s.work = _
      cases hw : s.work
      simp_all
    · exact ih _

theorem State.quiet_reexamine (s : State) : s.reexamine.quiet := State.quiet_reexamineRun _ s

theorem State.quiet_finish (s : State) : s.finish.quiet := s.quiet_reexamine

theorem State.quiet_conclude (s : State) (c tag : Nat) (r : Result) (d : List Byte) : (s.conclude c tag r d).quiet :=
  s.quiet_reexamine

theorem State.quiet_ite {c : Prop} [Decidable c] (h : t.quiet) (g : u.quiet) : (if c then t else u).quiet := by
  split
  · exact h
  · exact g

theorem State.quiet_judged (s : State) (c tag : Nat) (r : Result) (e : State → State) : (s.judged c tag r e).quiet := by
  unfold State.judged
  split <;> exact State.quiet_conclude _ _ _ _ _

theorem State.quiet_judgedData (s : State) (c tag : Nat) (r : Result) (e : State → State) (d : State → List Byte) :
    (s.judgedData c tag r e d).quiet := by
  unfold State.judgedData
  split <;> exact State.quiet_conclude _ _ _ _ _

theorem State.quiet_updCrane (h : s.quiet) (k : Nat) (f : Crane → Crane) : (s.updCrane k f).quiet := by
  rw [s.updCrane_eq]
  exact h

/-- Every request ends with its re-examinations. -/
theorem runRequest_quiet (i : Instr) (h : s.quiet) : (runRequest i s).quiet := by
  cases i <;> simp only [runRequest, id]
  case unknownCode | identify | queryPolicy => exact s.quiet_conclude _ _ _ _
  case status =>
    unfold runStatus
    split <;> exact State.quiet_conclude _ _ _ _ _
  case queryJob =>
    unfold runQueryJob
    repeat' split
    all_goals exact s.quiet_conclude _ _ _ _
  case queryLoc =>
    unfold runQueryLoc
    split <;> exact s.quiet_conclude _ _ _ _
  case queryCrane =>
    unfold runQueryCrane
    repeat' split
    all_goals exact s.quiet_conclude _ _ _ _
  case queryGroup =>
    unfold runQueryGroup
    repeat' split
    all_goals exact s.quiet_conclude _ _ _ _
  case loadMap =>
    unfold runLoadMap
    refine State.quiet_ite (s.quiet_conclude _ _ _ _) ?_
    split
    · exact s.quiet_conclude _ _ _ _
    · exact s.quiet_judgedData _ _ _ _ _
  case start =>
    unfold runStart
    refine State.quiet_ite (s.quiet_conclude _ _ _ _) ?_
    split
    · exact s.quiet_conclude _ _ _ _
    · exact State.quiet_ite (s.quiet_conclude _ _ _ _) (State.quiet_conclude _ _ _ _ _)
  case cancel =>
    unfold runCancel
    refine State.quiet_ite (s.quiet_conclude _ _ _ _) (State.quiet_ite (s.quiet_conclude _ _ _ _) ?_)
    split
    · exact s.quiet_conclude _ _ _ _
    · exact s.quiet_judgedData _ _ _ _ _
  case setLoc =>
    unfold runSetLoc
    split
    · exact s.quiet_conclude _ _ _ _
    · exact s.quiet_judged _ _ _ _
  case setAttr =>
    unfold runSetAttr
    refine State.quiet_ite (s.quiet_conclude _ _ _ _) ?_
    split
    · exact s.quiet_conclude _ _ _ _
    · exact s.quiet_judgedData _ _ _ _ _
  case mark =>
    unfold runMark
    refine State.quiet_ite (s.quiet_conclude _ _ _ _) ?_
    split <;> exact State.quiet_conclude _ _ _ _ _
  case restart => exact State.quiet_conclude _ _ _ _ _
  case setAisle | setCrane | setStation | setOriginator | groupOpen => exact s.quiet_judged _ _ _ _
  case setPolicy | store | retrieve | recover | groupClose | groupSkip | stationClear | setMode | craneCtlResume | craneCtlPark |
      craneCtlProfile | craneCtlReach =>
    exact s.quiet_judgedData _ _ _ _ _
  all_goals exact h

theorem runBadFrame_quiet (h : s.quiet) (k : Nat) : (runBadFrame k s).quiet := by
  unfold runBadFrame
  exact State.quiet_ite (State.quiet_ite (State.quiet_reexamine _) (State.quiet_updCrane h _ _)) (State.quiet_updCrane h _ _)

theorem onDone_quiet (s : State) (k id : Nat) (p : Point) (load : Nat) : (s.onDone k id p load).quiet := by
  unfold State.onDone
  refine State.quiet_ite ?_ (State.quiet_reexamine _)
  split <;> exact State.quiet_reexamine _

theorem onFailed_quiet (s : State) (k id r : Nat) (p : Point) (load : Nat) : (s.onFailed k id r p load).quiet := by
  unfold State.onFailed
  dsimp only
  split
  · refine State.quiet_ite ?_ (State.quiet_reexamine _)
    unfold State.currentFailed
    split <;> exact State.quiet_reexamine _
  · exact State.quiet_reexamine _

theorem runState_quiet (h : s.quiet) (k m f x y l : Nat) : (runState k m f x y l s).quiet := by
  unfold runState
  exact State.quiet_ite (State.quiet_reexamine _) (State.quiet_updCrane h _ _)

theorem runCraneTelegram_quiet (h : s.quiet) (i : Instr) : (runCraneTelegram s i).quiet := by
  unfold runCraneTelegram
  split
  · exact State.quiet_reexamine _
  · exact onDone_quiet s _ _ _ _
  · exact onFailed_quiet s _ _ _ _ _
  · exact runState_quiet h _ _ _ _ _ _
  · exact h

theorem portByte_quiet (h : s.quiet) (k : Nat) (b : Byte) : (State.portByte k s b).quiet := by
  have heard := State.quiet_updCrane h k (fun c => { c with rx := (rxByte 2 (fun _ => true) (s.crane k).rx b).1 })
  unfold State.portByte State.portEvent
  refine State.quiet_ite ?_ h
  dsimp only
  split
  · exact heard
  · exact heard
  · exact runBadFrame_quiet heard k
  · split
    · exact runCraneTelegram_quiet heard _
    · exact State.quiet_updCrane heard _ _

theorem lineBytes_quiet (h : s.quiet) (port : Nat) (bs : List Byte) : (s.lineBytes port bs).quiet := by
  unfold State.lineBytes
  refine State.quiet_ite h ?_
  induction bs generalizing s with
  | nil => exact h
  | cons b bs ih => exact ih (portByte_quiet h port b)

theorem portGap_quiet (h : s.quiet) (k : Nat) : (s.portGap k).quiet := by
  unfold State.portGap
  exact State.quiet_ite (runBadFrame_quiet (State.quiet_updCrane h _ _) k) h

theorem onPort_quiet (h : s.quiet) (k : Nat) {f : State → State} (hf : (f s).quiet) : (s.onPort k f).quiet := by
  unfold State.onPort
  exact State.quiet_ite hf h

/-- Every event that is no request ends with its re-examinations, or touches nothing. -/
theorem event_quiet {i : Instr} (hr : i.isRequest = false) (h : s.quiet) (he : exec i s = .next t) : t.quiet := by
  cases i <;> simp only [Instr.isRequest, Bool.true_eq_false] at hr
  case resumeCheckExpiry =>
    simp only [exec, execResumeCheckExpiry] at he
    split at he <;> obtain rfl := Host.Outcome.next.inj he
    · exact h
    · exact State.quiet_finish _
  case holdExpiry k =>
    simp only [exec, execHoldExpiry] at he
    split at he <;> obtain rfl := Host.Outcome.next.inj he
    · exact h
    · exact State.quiet_finish _
  all_goals obtain rfl := Host.Outcome.next.inj he
  case powerOn => rfl
  case hostFrame => exact lineBytes_quiet h _ _
  case bodyLengthOutOfRange => exact lineBytes_quiet h _ _
  case frameGapTimeout port bytes =>
    have bytes := lineBytes_quiet h port bytes
    exact State.quiet_ite h (onPort_quiet bytes port (portGap_quiet bytes port))
  case hostReadyChange => exact h
  case telegramSent => exact State.quiet_ite h h
  case stopInputChange => exact State.quiet_finish _
  case stopInputSettled => exact State.quiet_ite h (State.quiet_finish _)
  case taken => exact onPort_quiet h _ (State.quiet_finish _)
  case done => exact onPort_quiet h _ (onDone_quiet s _ _ _ _)
  case failed => exact onPort_quiet h _ (onFailed_quiet s _ _ _ _ _)
  case state => exact onPort_quiet h _ (runState_quiet h _ _ _ _ _ _)
  case craneBadFrame => exact onPort_quiet h _ (runBadFrame_quiet h _)
  case craneTelegramDiscarded => exact onPort_quiet h _ (State.quiet_updCrane h _ _)
  case silenceTimeout => exact State.quiet_ite (State.quiet_finish _) (State.quiet_updCrane h _ _)
  all_goals exact State.quiet_ite (State.quiet_finish _) h

theorem exec_quiet {i : Instr} (h : s.quiet) (he : exec i s = .next t) : t.quiet := by
  by_cases hr : i.isRequest = true
  · rw [exec_request i hr] at he
    injection he with he
    subst he
    unfold State.present
    exact State.quiet_ite (runRequest_quiet i h) h
  · exact event_quiet (by simpa using hr) h he

theorem idle_quiet (h : s.quiet) : s.idle.quiet := by
  unfold State.idle
  refine State.quiet_ite (State.quiet_reexamine _) (State.quiet_ite ?_ h)
  unfold State.takeRequest
  split
  · exact h
  · unfold runBody
    split
    · exact runRequest_quiet (s := { s with link := _ }) _ h
    · exact State.quiet_conclude _ _ _ _ _
    · exact State.quiet_conclude _ _ _ _ _

theorem step_quiet (hs : s.quiet) (h : step s = .next t) : t.quiet := by
  unfold step at h
  split at h
  · injection h with h
    exact h ▸ idle_quiet hs
  · rename_i i rest _
    exact exec_quiet (s := { s with pending := rest }) hs h

/-- Settles O53: each invariant is kept by every change of a step's chain; those of the pass, the resume check and the
re-examinations, by every command and by the idle step. -/
theorem everyStepKeepsTheState : Obligations.EveryStepKeepsTheState := by
  intro s t h
  have chain := step_changes h
  obtain ⟨visits, check⟩ := step_steady h
  refine ⟨chain.keep (P := fun u => locsWf u.locs) fun _ _ c => c.keeps_locsWf,
    chain.keep fun _ _ c => c.keeps_aislesSound,
    chain.keep fun _ _ c => c.keeps_poolSound,
    chain.keep fun _ _ c => c.keeps_numbersSound,
    chain.keep (P := fun u => groupsSound u.groups) fun _ _ c => c.keeps_groupsSound,
    fun hs => step_quiet hs h,
    chain.keep (P := fun u => u.link.bounded) fun _ _ c => c.keeps_bounded,
    chain.keep (P := fun u => u.link.ringFits) fun _ _ c => c.keeps_ringFits, ?_, check⟩
  rw [State.passSound_iff, State.passSound_iff]
  exact And.imp (chain.keep (P := fun u => u.passDue = true → u.mode.run = .run) fun _ _ c => c.due) visits

end Sys2Proof.Machine
end

section
/-! SUPPORT. A request taken at once, and the queries (R21, R48, R122, R154). -/

namespace Sys2Proof.Machine

variable {s : State}

theorem append_congr {α : Type} {a b c d : List α} (h : a = c) (g : b = d) : a ++ b = c ++ d := by rw [h, g]

/-! ## A request taken at once (R176, R177) -/

theorem exec_taken {i : Instr} (hi : i.isRequest = true) (h : s.takes) : exec i s = .next (runRequest i s) := by
  rw [exec_request i hi, State.present_taken h.1 h.2]

/-- Where no re-examination is owed, a request ends with its reply alone. -/
theorem State.conclude_replied (h : s.quiet) (c tag : Nat) (r : Result) (d : List Byte) :
    s.conclude c tag r d = s.replied (c + 0x80) tag r d := State.conclude_quiet h c tag r d

/-! ## The encodings of a reply's items -/

theorem flagByte_eq (b : Bool) : flagByte b = beBytes 1 (if b = true then 1 else 0) := by
  cases b <;> rfl

theorem Job.reservations_eq (j : Job) :
    j.reservations = j.srcRes.toList.map (fun o => (1, o.code)) ++
      j.dstRes.toList.map (fun r => (if r.kind = .location then 2 else 3, r.origin.code)) := by
  unfold Job.reservations
  cases j.srcRes <;> obtain _ | ⟨_ | _, _⟩ := j.dstRes <;> rfl

theorem jobNumber_eq (j : Option Job) : jobNumber j = (j.map Job.num).getD 0 := by
  cases j <;> rfl

theorem Crane.loadId_eq (c : Crane) : c.loadId = (c.load.map Load.id).getD 0 := by
  unfold Crane.loadId
  cases c.load <;> rfl

/-- The plan of a crane, or its park leg as a list of one (R122). -/
theorem Crane.planData_eq (c : Crane) : c.planData =
    match c.parkLeg with
    | some p => beBytes 1 CycleKind.park.code ++ (beBytes 1 1 ++ legBytes p) ++ beBytes 4 p.est
    | none => beBytes 1 ((c.cycle.map CycleKind.code).getD 0) ++ (beBytes 1 c.plan.length ++ c.plan.flatMap legBytes) ++
        beBytes 4 c.estimate := by
  unfold Crane.planData
  cases c.parkLeg with
  | none => cases c.cycle <;> rfl
  | some p => simp [listBytes]

theorem Occupancy.reserved_iff (o : Occupancy) : o.reserved = true ↔ o = .inbound ∨ o = .outbound := by
  cases o <;> simp [Occupancy.reserved]

theorem craneOk_iff {k : Nat} : craneOk k = true ↔ 1 ≤ k ∧ k ≤ 12 := by simp [craneOk]

/-- The job that carries a location's reservation, if the location is reserved (R21). -/
theorem State.holderOf_eq (s : State) (l : Loc) : s.holderOf l =
    if (s.loc l).occ = .inbound ∨ (s.loc l).occ = .outbound then
      ((s.pool.find? (fun j => decide ((j.srcRes ≠ none ∧ j.source = some l) ∨
        (j.dest = some l ∧ j.dstRes.map DstRes.kind = some .location)))).map Job.num).getD 0
    else 0 := by
  unfold State.holderOf
  by_cases h : (s.loc l).occ.reserved = true
  · rw [if_pos h, if_pos ((Occupancy.reserved_iff _).mp h)]
    refine (jobNumber_eq (s.pool.find? _)).trans (congrArg (fun p => ((s.pool.find? p).map Job.num).getD 0) ?_)
    funext j
    cases j.dstRes <;> cases j.srcRes <;> simp [Bool.beq_eq_decide_eq, and_comm]
  · rw [if_neg h, if_neg (mt (Occupancy.reserved_iff _).mpr h)]

/-- Settles O13: a query taken at once ends with its reply, whose data are the record's items. -/
theorem queriesChangeNothing : Obligations.QueriesChangeNothing := by
  intro tag s takes quiet flag point span place legItems jobItems craneItems groupItems
  have hflag : flag = flagByte := funext fun b => (flagByte_eq b).symm
  have hpoint : point = pointBytes := funext fun p => by cases p <;> rfl
  have hspan : span = spanBytes := funext fun v => by cases v <;> rfl
  have hplace : place = locBytes := funext fun l => by cases l <;> rfl
  have hleg : legItems = legBytes := funext fun g => by simp only [legItems, hflag, hplace, legBytes]
  have hjob : ∀ j, jobItems j = j.data := by
    intro j
    simp only [jobItems, hflag, hplace, Job.data, Job.reservations_eq, listBytes, secondsUp]
    cases j.state <;> rfl
  have hgroup : ∀ n g, groupItems n g = s.groupData n g := by
    intro n g
    simp only [groupItems, State.groupData, listBytes]
    rfl
  have hcrane : ∀ k g, craneItems k g = s.craneData k g := by
    intro k g
    unfold State.craneData
    dsimp only [craneItems]
    simp only [hflag, hpoint, hspan, hleg]
    repeat' refine append_congr ?_ ?_
    all_goals try with_reducible rfl
    · cases (s.crane k).lastFault <;> rfl
    · rw [Crane.loadId_eq]
    · cases (s.crane k).load <;> rfl
    · rw [jobNumber_eq]
    · cases (s.crane k).pendSpeed <;> rfl
    · cases (s.crane k).pendFigures <;> rfl
    · cases (s.crane k).pendReach <;> rfl
    · cases (s.crane k).reach <;> rfl
    · exact (Crane.planData_eq _).symm
    · rw [jobNumber_eq]
    · simp [State.readyPlace]
    · unfold State.twinData
      rfl
  have plain : ∀ c r {d d' : List Byte}, d = d' →
      (.next (s.conclude c tag r d) : Host.Outcome State Fault Refusal) = .next (s.replied (c + 0x80) tag r d') := by
    rintro c r d - rfl
    rw [State.conclude_replied quiet]
  refine ⟨fun n => ?_, fun q => ?_, s.holderOf_eq, fun k => ?_, fun g => ?_⟩ <;> rw [exec_taken rfl takes]
  · simp only [runRequest, runQueryJob]
    split
    · exact plain _ _ rfl
    · cases s.job n with
      | none => exact plain _ _ rfl
      | some j => exact plain _ _ (hjob j).symm
  · simp only [runRequest, runQueryLoc]
    cases s.checkLoc q with
    | error r => exact plain _ _ rfl
    | ok l => exact plain _ _ rfl
  · simp only [runRequest, runQueryCrane]
    by_cases hk : k < 1 ∨ 12 < k
    · rw [if_neg (mt craneOk_iff.mp (by omega)), if_pos hk]
      exact plain _ _ rfl
    · rw [if_pos (craneOk_iff.mpr (by omega)), if_neg hk]
      cases (s.crane k).cfg with
      | none => exact plain _ _ rfl
      | some cfg => exact plain _ _ (hcrane k cfg).symm
  · simp only [runRequest, runQueryGroup, Nat.lt_one_iff]
    split
    · exact plain _ _ rfl
    · cases s.group g with
      | none => exact plain _ _ rfl
      | some e => exact plain _ _ (hgroup g e).symm

end Sys2Proof.Machine
end

section
/-! SUPPORT. SET_AISLE (R1, R125), and addresses, codes and filters (R3 to R5). -/

namespace Sys2Proof.Machine

variable {s : State}

/-! ## SET_AISLE -/

theorem aisleOk_iff (q : AisleFields) : aisleOk q = true ↔
    1 ≤ q.aisle ∧ q.aisle ≤ 8 ∧ 1 ≤ q.columns ∧ q.columns ≤ 96 ∧ 1 ≤ q.levels ∧ q.levels ≤ 32 ∧ q.depth ≤ 1 ∧
      q.x1 ≤ 200000 ∧ 500 ≤ q.px ∧ q.px ≤ 5000 ∧ q.y1 ≤ 50000 ∧ 300 ≤ q.py ∧ q.py ≤ 3000 ∧ q.twin ≤ 1 ∧
      q.x1 + (q.columns - 1) * q.px ≤ 200000 ∧ q.y1 + (q.levels - 1) * q.py ≤ 50000 := by
  simp [aisleOk, and_assoc]

theorem State.checkAisle_config (h : s.mode.run = .config) (q : AisleFields) :
    s.checkAisle q = if aisleOk q = true then .ok else .badField := by
  cases hq : aisleOk q <;> simp [State.checkAisle, firstFail, State.inConfig, h, hq]

theorem State.checkAisle_other (h : s.mode.run ≠ .config) (q : AisleFields) : s.checkAisle q = .wrongMode := by
  simp [State.checkAisle, firstFail, State.inConfig, h]

theorem State.aisle_defineAisle (s : State) (k n : Nat) (a : Aisle) :
    (s.defineAisle k a).aisle n = if n = k then some a else s.aisle n := by
  split
  · subst n
    exact tableGet_tablePut _ _ _
  · exact tableGet_tablePut_other ‹_› _ _

/-- An aisle that is defined again has its locations as they are created; the other aisles' stay (R1). -/
theorem State.loc_defineAisle (s : State) (k : Nat) (a : Aisle) {l : Loc} (h : l.inRanges) :
    (s.defineAisle k a).loc l = if l.aisle = k then LocRec.created else s.loc l := by
  have drop := tableGet_filter (fun j => j / 16384 != k) (locKey l) s.locs
  rw [locKey_aisle h] at drop
  show (tableGet (locKey l) (locsWithout k s.locs)).getD LocRec.created = _
  rw [locsWithout, drop]
  by_cases ha : l.aisle = k
  · simp [ha]
  · simp [ha, State.loc]

theorem State.crane_discardClaims (s : State) (n k : Nat) : (s.discardClaims n).crane k =
    if (s.crane k).inAisle n then { s.crane k with claim := none, request := none } else s.crane k := by
  by_cases hk : 1 ≤ k ∧ k ≤ 12
  · exact State.crane_map s _ hk
  · rw [State.crane_outside _ hk, State.crane_outside s hk]
    rfl

/-- Settles O14. -/
theorem setAisleDefinesTheAisle : Obligations.SetAisleDefinesTheAisle := by
  intro tag q s takes quiet
  rw [exec_taken rfl takes]
  simp only [runRequest, runSetAisle, State.judged]
  refine ⟨fun run => ?_, fun config => ?_⟩
  · rw [State.checkAisle_other run, if_neg (by decide), State.conclude_replied quiet]
  · rw [State.checkAisle_config config]
    by_cases fits : aisleOk q = true
    · rw [if_pos fits, if_pos rfl, if_pos ((aisleOk_iff q).mp fits)]
      have defined : (s.defineAisle q.aisle (aisleOf q)).quiet := quiet
      exact ⟨_, congrArg _ (State.conclude_replied defined _ _ _ _), fun n => s.aisle_defineAisle q.aisle n (aisleOf q),
        fun l h1 h2 h3 h4 => s.loc_defineAisle q.aisle (aisleOf q) ⟨h1, h2, h3, h4⟩,
        fun k => s.crane_discardClaims q.aisle k, rfl⟩
    · rw [if_neg fits, if_neg (mt (aisleOk_iff q).mpr fits), if_neg (by decide), State.conclude_replied quiet]

/-! ## Addresses (R3) -/

theorem sideOf_code (n : Nat) (sd : Side) : sideOf n = some sd ↔ sd.code = n := by
  unfold sideOf
  split <;> cases sd <;> simp_all [Side.code, eq_comm]

theorem depthOf_code (n : Nat) (dp : Depth) : depthOf n = some dp ↔ dp.code = n := by
  unfold depthOf
  split <;> cases dp <;> simp_all [Depth.code, eq_comm]

theorem locIn_ok {n : Nat} {a : Aisle} {sd : Side} {column level : Nat} {dp : Depth}
    (h : 1 ≤ column ∧ column ≤ a.columns ∧ 1 ≤ level ∧ level ≤ a.levels ∧ (dp = .rear → a.double = true)) :
    locIn n a sd.code column level dp.code =
      .ok { aisle := n, side := sd, column := column, level := level, depth := dp } := by
  unfold locIn
  rw [(sideOf_code _ sd).mpr rfl, (depthOf_code _ dp).mpr rfl]
  exact if_pos h

theorem locIn_cases (n : Nat) (a : Aisle) (side column level depth : Nat) :
    (∃ sd dp, sd.code = side ∧ dp.code = depth ∧
        (1 ≤ column ∧ column ≤ a.columns ∧ 1 ≤ level ∧ level ≤ a.levels ∧ (dp = .rear → a.double = true)) ∧
        locIn n a side column level depth =
          .ok { aisle := n, side := sd, column := column, level := level, depth := dp }) ∨
      locIn n a side column level depth = .error .badField := by
  unfold locIn
  cases hs : sideOf side with
  | none => exact .inr rfl
  | some sd =>
    cases hd : depthOf depth with
    | none => exact .inr rfl
    | some dp =>
      dsimp only
      split
      · exact .inl ⟨sd, dp, (sideOf_code _ _).mp hs, (depthOf_code _ _).mp hd, ‹_›, rfl⟩
      · exact .inr rfl

theorem exists_side {n : Nat} (h : n ≤ 1) : ∃ sd : Side, sd.code = n := by
  obtain rfl | rfl : n = 0 ∨ n = 1 := by omega
  · exact ⟨.left, rfl⟩
  · exact ⟨.right, rfl⟩

theorem exists_depth {n : Nat} (h : n ≤ 1) : ∃ dp : Depth, dp.code = n := by
  obtain rfl | rfl : n = 0 ∨ n = 1 := by omega
  · exact ⟨.front, rfl⟩
  · exact ⟨.rear, rfl⟩

theorem Side.code_le (sd : Side) : sd.code ≤ 1 := by cases sd <;> decide
theorem Depth.code_le (dp : Depth) : dp.code ≤ 1 := by cases dp <;> decide
theorem Depth.rear_iff (dp : Depth) : dp = .rear ↔ dp.code = 1 := by cases dp <;> simp [Depth.code]

theorem State.checkLoc_some {q : LocFields} {a : Aisle} (h : s.aisle q.aisle = some a) :
    s.checkLoc q = locIn q.aisle a q.side q.column q.level q.depth := by
  unfold State.checkLoc
  rw [h]

/-- Settles O19. -/
theorem addressesCodesAndFilters : Obligations.AddressesCodesAndFilters := by
  refine ⟨fun s q h => ?_, fun s q a h => ?_, fun l m hl hm ha hc => ?_, fun l h => (locCode_lt h).trans (by decide),
    fun f l => ?_⟩
  · unfold State.checkLoc
    rw [h]
  · rw [State.checkLoc_some h]
    split
    · rename_i fits
      obtain ⟨side, col1, col2, lev1, lev2, depth, double⟩ := fits
      obtain ⟨sd, hsd⟩ := exists_side side
      obtain ⟨dp, hdp⟩ := exists_depth depth
      rw [← hsd, ← hdp, locIn_ok ⟨col1, col2, lev1, lev2, fun hr => double (hdp ▸ dp.rear_iff.mp hr)⟩]
      exact ⟨_, rfl, rfl, rfl, rfl, rfl, rfl, rfl⟩
    · rename_i misfit
      obtain ⟨sd, dp, hsd, hdp, ⟨col1, col2, lev1, lev2, double⟩, -⟩ | bad :=
        locIn_cases q.aisle a q.side q.column q.level q.depth
      · exact absurd ⟨hsd ▸ sd.code_le, col1, col2, lev1, lev2, hdp ▸ dp.code_le,
          fun hr => double (dp.rear_iff.mpr (hdp.trans hr))⟩ misfit
      · exact bad
  · exact locKey_inj hl hm (by rw [locKey, locKey, ha, hc])
  · simp only [Filter.hits, List.all_eq_true, List.mem_range, Bool.or_eq_true, beq_iff_eq]
    refine forall₂_congr fun i _ => ?_
    cases f.mask.testBit i <;> simp

end Sys2Proof.Machine
end

section
/-! SUPPORT. The host's corrections of the rack map: SET_LOC (R14) and LOAD_MAP (R15). -/

namespace Sys2Proof.Machine

variable {s : State}

/-! ## The pairs an event touches, and the due pass -/

theorem State.mem_touchPair (s : State) (l : Loc) (key : Nat) :
    key ∈ (s.touchPair l).work.pairs ↔ key = pairKey l ∨ key ∈ s.work.pairs := by
  simp only [State.touchPair]
  split
  · rename_i h
    have : pairKey l ∈ s.work.pairs := List.contains_iff_mem.mp h
    constructor
    · exact Or.inr
    · rintro (rfl | hk) <;> assumption
  · exact List.mem_cons

/-- The first pair an event touches. -/
theorem State.touchPair_quiet (h : s.quiet) (l : Loc) :
    s.touchPair l = { s with work := { pairs := [pairKey l], allBusy := false } } := by
  unfold State.touchPair
  rw [h]
  rfl

theorem State.trigger_eq (s : State) :
    s.trigger = { s with passDue := s.passDue || decide (s.mode.run = .run) } := by
  unfold State.trigger
  by_cases h : s.mode.run = .run <;> simp [h]

/-! ## Where a pallet is held (R8) -/

theorem State.craneHolds_iff (s : State) (id : Nat) :
    s.craneHolds id = true ↔ ∃ k b, (s.crane k).load = some { id := id, resolved := b } := by
  unfold State.craneHolds
  rw [List.any_eq_true]
  constructor
  · rintro ⟨k, -, h⟩
    cases hl : (s.crane k).load with
    | none => simp [hl] at h
    | some l =>
      simp only [hl, beq_iff_eq] at h
      exact ⟨k, l.resolved, by rw [hl, ← h]⟩
  · rintro ⟨k, b, h⟩
    refine ⟨k, ?_, by simp [h]⟩
    by_contra hk
    rw [State.crane_outside s (fun hr => hk (by simp [craneNumbers]; omega))] at h
    cases h

theorem Job.storeHolds_iff (j : Job) : j.storeHolds = true ↔ j.kind = .store ∧
    ((∃ w, j.state = .waiting w) ∨ j.state = .ready ∨ j.state = .assigned ∨ j.state = .active ∨
      j.state = .uncertain .fetch) := by
  unfold Job.storeHolds
  cases j.state <;> simp

theorem State.palletHeld_iff (s : State) (id : Nat) (keys : List Nat) : s.palletHeld id keys = true ↔
    (∃ e ∈ s.locs, e.1 ∉ keys ∧ e.2.pallet = some id ∧ (e.2.occ = .full ∨ e.2.occ = .outbound ∨ e.2.occ = .inbound)) ∨
      (∃ k b, (s.crane k).load = some { id := id, resolved := b }) ∨
      (∃ j ∈ s.pool, j.kind = .store ∧ j.pallet = id ∧
        ((∃ w, j.state = .waiting w) ∨ j.state = .ready ∨ j.state = .assigned ∨ j.state = .active ∨
          j.state = .uncertain .fetch)) := by
  unfold State.palletHeld State.palletInRack
  simp only [Bool.or_eq_true, State.craneHolds_iff, List.any_eq_true, Bool.and_eq_true, Job.storeHolds_iff, beq_iff_eq,
    Bool.not_eq_true', List.contains_eq_mem, decide_eq_false_iff_not, or_assoc, and_assoc]
  simp only [and_comm, and_left_comm]

/-! ## A correction of one location (R14) -/

theorem hostOccOf_isSome (n : Nat) : (hostOccOf n).isSome = true ↔ n = 0 ∨ n = 1 ∨ n = 4 := by
  unfold hostOccOf
  split <;> simp_all

theorem correctionOk_iff (occ pallet height : Nat) : correctionOk occ pallet height = true ↔
    (occ = 0 ∨ occ = 1 ∨ occ = 4) ∧ (occ = 1 → pallet ≠ 0) ∧ height ≤ 3 := by
  simp [correctionOk, hostOccOf_isSome, and_assoc, imp_iff_not_or]

/-- The record a correction leaves. -/
theorem LocRec.corrected_eq {occ : Nat} (h : occ = 0 ∨ occ = 1 ∨ occ = 4) (r : LocRec) (pallet height : Nat) :
    r.corrected occ pallet height = { r with
      occ := if occ = 0 then .empty else if occ = 1 then .full else .unknown
      pallet := if occ = 1 then some pallet else none, height := height } := by
  obtain rfl | rfl | rfl := h <;> rfl

/-- What a location reads after a correction. -/
theorem State.loc_correct (s : State) {l m : Loc} (hl : l.inRanges) (hm : m.inRanges) (occ pallet height : Nat) :
    (s.correct l occ pallet height).loc m = if m = l then (s.loc l).corrected occ pallet height else s.loc m := by
  split
  · subst m
    exact State.loc_setLoc s l _
  · rename_i hne
    exact State.loc_setLoc_other s (fun hk => hne (locKey_inj hm hl hk)) _

/-- A correction in a state that owes no re-examination. -/
theorem State.correct_quiet (h : s.quiet) (l : Loc) (occ pallet height : Nat) :
    s.correct l occ pallet height =
      { s with
        locs := (s.correct l occ pallet height).locs
        work := { pairs := [locKey { l with depth := .front }], allBusy := false } } := by
  unfold State.correct
  rw [State.touchPair_quiet (s := s.setLoc l _) h]
  rfl

/-! ## SET_LOC (R14) -/

theorem State.checkSetLoc_eq (s : State) (l : Loc) (q : SetLocFields) : s.checkSetLoc l q =
    if ¬ (q.occupancy = 0 ∨ q.occupancy = 1 ∨ q.occupancy = 4) ∨ (q.occupancy = 1 ∧ q.pallet = 0) ∨ 3 < q.height then .badField
    else if (s.loc l).occ = .inbound ∨ (s.loc l).occ = .outbound then .locationReserved
    else if q.occupancy = 1 ∧ s.palletHeld q.pallet [locKey l] = true then .duplicatePallet
    else .ok := by
  have fields : (!correctionOk q.occupancy q.pallet q.height) = true ↔
      ¬ (q.occupancy = 0 ∨ q.occupancy = 1 ∨ q.occupancy = 4) ∨ (q.occupancy = 1 ∧ q.pallet = 0) ∨ 3 < q.height := by
    rw [Bool.not_eq_true', ← Bool.not_eq_true, correctionOk_iff]
    omega
  simp only [State.checkSetLoc, firstFail, fields, Occupancy.reserved_iff, Bool.and_eq_true, beq_iff_eq]

theorem State.applySetLoc_eq (h : s.quiet) (l : Loc) (q : SetLocFields) : s.applySetLoc l q =
    { s with
      locs := (s.applySetLoc l q).locs, work := { pairs := [locKey { l with depth := .front }], allBusy := false }
      passDue := s.passDue || decide (q.occupancy ≤ 1 ∧ s.mode.run = .run) } := by
  unfold State.applySetLoc
  dsimp only
  rw [State.correct_quiet h]
  by_cases hq : q.occupancy ≤ 1
  · rw [if_pos hq, State.trigger_eq]
    simp [hq]
  · rw [if_neg hq]
    simp [hq]

theorem State.applySetLoc_locs (s : State) (l : Loc) (q : SetLocFields) :
    (s.applySetLoc l q).locs = (s.correct l q.occupancy q.pallet q.height).locs := by
  unfold State.applySetLoc
  dsimp only
  split
  · exact State.trigger_locs _
  · rfl

/-- Settles O20. -/
theorem setLocRewritesOneLocation : Obligations.SetLocRewritesOneLocation := by
  intro tag q s takes quiet
  rw [exec_taken rfl takes]
  simp only [runRequest, runSetLoc]
  refine ⟨fun r bad => ?_, fun l found inside => ?_, s.palletHeld_iff⟩
  · rw [bad]
    exact congrArg _ (State.conclude_replied quiet _ _ _ _)
  · rw [found]
    simp only [State.judged, State.checkSetLoc_eq]
    split
    · exact congrArg _ (State.conclude_replied quiet _ _ _ _)
    · rename_i fields
      split
      · exact congrArg _ (State.conclude_replied quiet _ _ _ _)
      · split
        · exact congrArg _ (State.conclude_replied quiet _ _ _ _)
        · refine ⟨s.applySetLoc l q, rfl, fun m hm => ?_, State.applySetLoc_eq quiet l q⟩
          rw [State.loc_congr (s.applySetLoc_locs l q), s.loc_correct inside hm, LocRec.corrected_eq (by omega)]

end Sys2Proof.Machine
end

section
/-! SUPPORT. LOAD_MAP (R15): a column's levels are written one by one. -/

namespace Sys2Proof.Machine

variable {s : State}

/-! ## The levels of a column -/

theorem mem_levels {n v : Nat} : v ∈ (List.range n).map (· + 1) ↔ 1 ≤ v ∧ v ≤ n := by
  simp only [List.mem_map, List.mem_range]
  constructor
  · rintro ⟨i, hi, rfl⟩
    omega
  · rintro ⟨h1, h2⟩
    exact ⟨v - 1, by omega, by omega⟩

theorem State.levelsOf_some {n : Nat} {a : Aisle} (h : s.aisle n = some a) :
    s.levelsOf n = (List.range a.levels).map (· + 1) := by
  unfold State.levelsOf
  rw [h]

/-- A checked column is one of the aisle it names, at level 1. -/
theorem State.checkCol_ok {q : ColFields} {l : Loc} (h : s.checkCol q = .ok l) : l.aisle = q.aisle ∧ l.level = 1 := by
  unfold State.checkCol at h
  split at h
  · cases h
  · obtain ⟨sd, dp, -, -, -, ok⟩ | bad := locIn_cases q.aisle ‹Aisle› q.side q.column 1 q.depth
    · rw [ok] at h
      cases h
      exact ⟨rfl, rfl⟩
    · rw [bad] at h
      cases h

theorem Loc.atLevel_inRanges {l : Loc} (h : l.inRanges) {v : Nat} (h1 : 1 ≤ v) (h2 : v ≤ 32) : (l.atLevel v).inRanges :=
  ⟨h.1, h.2.1, h1, h2⟩

/-! ## The writes of LOAD_MAP -/

/-- The entry that a list, written from level `v` of a column on, holds for a location. -/
def columnEntry (l : Loc) (v : Nat) (entries : List LevelFields) (m : Loc) : Option LevelFields :=
  if m = l.atLevel m.level ∧ v ≤ m.level then entries[m.level - v]? else none

theorem columnEntry_head {l m : Loc} {v : Nat} (e : LevelFields) (es : List LevelFields) (h : m = l.atLevel v) :
    columnEntry l v (e :: es) m = some e := by
  subst h
  simp [columnEntry, Loc.atLevel]

theorem columnEntry_tail {l m : Loc} {v : Nat} (e : LevelFields) (es : List LevelFields) (h : m ≠ l.atLevel v) :
    columnEntry l v (e :: es) m = columnEntry l (v + 1) es m := by
  unfold columnEntry
  by_cases hm : m = l.atLevel m.level
  · have hv : m.level ≠ v := fun hv => h (hv ▸ hm)
    by_cases hlt : v + 1 ≤ m.level
    · rw [if_pos ⟨hm, by omega⟩, if_pos ⟨hm, hlt⟩, show m.level - v = m.level - (v + 1) + 1 by omega,
        List.getElem?_cons_succ]
    · rw [if_neg (by omega), if_neg (by omega)]
  · rw [if_neg (fun h => hm h.1), if_neg (fun h => hm h.1)]

theorem columnEntry_below {l : Loc} {v w : Nat} (es : List LevelFields) (h : w < v) :
    columnEntry l v es (l.atLevel w) = none := by
  unfold columnEntry
  exact if_neg (fun hw => by have := hw.2; simp only [Loc.atLevel] at this; omega)

/-- Each location of the column takes its entry; every other location keeps its record. -/
theorem loadLevels_loc {l m : Loc} (hl : l.inRanges) (hm : m.inRanges) (es : List LevelFields) (v : Nat) (s : State)
    (h1 : 1 ≤ v) (h2 : v + es.length ≤ 33) : (loadLevels l v es s).loc m =
      ((columnEntry l v es m).map (fun e => (s.loc m).corrected e.occupancy e.pallet e.height)).getD (s.loc m) := by
  induction es generalizing v s with
  | nil =>
    have none : columnEntry l v [] m = none := by
      unfold columnEntry
      split <;> rfl
    rw [none]
    rfl
  | cons e es ih =>
    rw [List.length_cons] at h2
    have here := Loc.atLevel_inRanges hl h1 (by omega : v ≤ 32)
    rw [loadLevels, ih _ _ (by omega) (by omega)]
    by_cases hmv : m = l.atLevel v
    · rw [columnEntry_head e es hmv, hmv, columnEntry_below es (Nat.lt_succ_self v), State.loc_correct s here here,
        if_pos rfl]
      rfl
    · rw [columnEntry_tail e es hmv, State.loc_correct s here hm, if_neg hmv]

/-- LOAD_MAP writes locations and owes the re-examination of their pairs, and nothing else. -/
theorem loadLevels_eq (l : Loc) (v : Nat) (es : List LevelFields) (s : State) : loadLevels l v es s =
    { s with
      locs := (loadLevels l v es s).locs
      work := { pairs := (loadLevels l v es s).work.pairs, allBusy := s.work.allBusy } } := by
  induction es generalizing v s with
  | nil => rfl
  | cons e es ih =>
    rw [loadLevels, ih]
    rfl

theorem loadLevels_pairs (l : Loc) (v : Nat) (es : List LevelFields) (s : State) (key : Nat) :
    key ∈ (loadLevels l v es s).work.pairs ↔
      (∃ w, v ≤ w ∧ w < v + es.length ∧ key = locKey { l with level := w, depth := .front }) ∨ key ∈ s.work.pairs := by
  induction es generalizing v s with
  | nil => simp [loadLevels]; omega
  | cons e es ih =>
    rw [loadLevels, ih, State.correct, State.mem_touchPair, List.length_cons]
    constructor
    · rintro (⟨w, h1, h2, hk⟩ | hk | hk)
      · exact .inl ⟨w, by omega, by omega, hk⟩
      · exact .inl ⟨v, by omega, by omega, hk⟩
      · exact .inr hk
    · rintro (⟨w, h1, h2, hk⟩ | hk)
      · by_cases hw : w = v
        · exact .inr (.inl (by rw [hk, hw]; rfl))
        · exact .inl ⟨w, by omega, by omega, hk⟩
      · exact .inr (.inr hk)

/-! ## The checks of LOAD_MAP -/

theorem noRepeat_iff (l : List Nat) : noRepeat l = true ↔ l.Nodup := by
  induction l with
  | nil => simp [noRepeat]
  | cons a l ih => simp [noRepeat, ih]

/-- A list of entries that LOAD_MAP takes (R15). -/
def entriesFit (levels : Nat) (entries : List LevelFields) : Prop :=
  entries ≠ [] ∧ entries.length ≤ levels ∧ ∀ e ∈ entries, correctionOk e.occupancy e.pallet e.height = true

/-- Some level of a column is reserved (R15). -/
def State.columnReserved (s : State) (l : Loc) (levels : Nat) : Prop :=
  ∃ v, 1 ≤ v ∧ v ≤ levels ∧
    ((s.loc { l with level := v }).occ = .inbound ∨ (s.loc { l with level := v }).occ = .outbound)

/-- Some pallet id of the list stands twice in it, or is held elsewhere (R8, R15). -/
def State.idsHeld (s : State) (l : Loc) (entries : List LevelFields) : Prop :=
  ¬ (fullIds entries).Nodup ∨ ∃ id ∈ fullIds entries, s.palletHeld id (writtenKeys l entries.length) = true

/-- The checks of LOAD_MAP in their order, each read as what it tests. -/
theorem State.checkLoadMap_eq {l : Loc} {a : Aisle} (h : s.aisle l.aisle = some a) (entries : List LevelFields)
    [Decidable (entriesFit a.levels entries)] [Decidable (s.columnReserved l a.levels)] [Decidable (s.idsHeld l entries)] :
    s.checkLoadMap l entries =
      if ¬ entriesFit a.levels entries then .badField
      else if s.columnReserved l a.levels then .locationReserved
      else if s.idsHeld l entries then .duplicatePallet
      else .ok := by
  have fits : (entries.isEmpty || decide ((s.levelsOf l.aisle).length < entries.length) ||
      !entries.all (fun e => correctionOk e.occupancy e.pallet e.height)) = true ↔ ¬ entriesFit a.levels entries := by
    simp only [State.levelsOf_some h, List.length_map, List.length_range, entriesFit]
    cases entries <;> simp [imp_iff_not_or]
  have reserved : (s.levelsOf l.aisle).any (fun v => (s.loc (l.atLevel v)).occ.reserved) = true ↔
      s.columnReserved l a.levels := by
    simp only [State.levelsOf_some h, List.any_eq_true, mem_levels, Occupancy.reserved_iff, and_assoc]
    rfl
  have held : (!noRepeat (fullIds entries) ||
        (fullIds entries).any (fun id => s.palletHeld id (writtenKeys l entries.length))) = true ↔ s.idsHeld l entries := by
    simp [State.idsHeld, ← noRepeat_iff]
  unfold State.checkLoadMap
  simp only [firstFail, fits, reserved, held]

theorem entriesFit_iff (levels : Nat) (entries : List LevelFields) : entriesFit levels entries ↔
    entries ≠ [] ∧ entries.length ≤ levels ∧ ∀ e ∈ entries, (e.occupancy = 0 ∨ e.occupancy = 1 ∨ e.occupancy = 4) ∧
      (e.occupancy = 1 → e.pallet ≠ 0) ∧ e.height ≤ 3 := by
  simp only [entriesFit, correctionOk_iff]

theorem columnEntry_one (l : Loc) (entries : List LevelFields) {m : Loc} (h : 1 ≤ m.level) :
    columnEntry l 1 entries m = if m = { l with level := m.level } then entries[m.level - 1]? else none := by
  unfold columnEntry
  by_cases hm : m = l.atLevel m.level
  · rw [if_pos ⟨hm, h⟩]
    exact (if_pos hm).symm
  · rw [if_neg (fun hc => hm hc.1)]
    exact (if_neg hm).symm

theorem columnEntry_mem {l m : Loc} {v : Nat} {entries : List LevelFields} {e : LevelFields}
    (h : columnEntry l v entries m = some e) : e ∈ entries := by
  unfold columnEntry at h
  split at h
  · exact List.mem_of_getElem? h
  · cases h

theorem State.inConfigHold_iff (s : State) : s.inConfigHold = true ↔ s.mode.run = .config ∨ s.mode.run = .hold := by
  simp [State.inConfigHold]

/-- Settles O21. -/
theorem loadMapRewritesOneColumn : Obligations.LoadMapRewritesOneColumn := by
  classical
  intro tag q entries s takes quiet
  rw [exec_taken rfl takes]
  simp only [runRequest, runLoadMap]
  refine ⟨fun run => ?_, fun r run bad => ?_, fun l a run found aisle inside levels => ?_⟩
  · have closed : s.inConfigHold = false := by
      obtain run | run := run <;> simp [State.inConfigHold, run]
    rw [closed]
    exact congrArg _ (State.conclude_replied quiet _ _ _ _)
  · rw [s.inConfigHold_iff.mpr run, bad]
    exact congrArg _ (State.conclude_replied quiet _ _ _ _)
  · obtain ⟨atAisle, -⟩ := State.checkCol_ok found
    have check := State.checkLoadMap_eq (atAisle ▸ aisle) entries
    rw [s.inConfigHold_iff.mpr run, found]
    simp only [State.judgedData, Bool.not_true, Bool.false_eq_true, if_false]
    refine ⟨fun misfit => ?_, fun some short fit => ?_⟩
    · have bad : ¬ entriesFit a.levels entries := by
        rw [entriesFit_iff]
        rintro ⟨some, short, fit⟩
        obtain rfl | long | ⟨e, he, wrong⟩ := misfit
        · exact some rfl
        · omega
        · have := fit e he
          omega
      rw [check, if_pos bad]
      exact congrArg _ (State.conclude_replied quiet _ _ _ _)
    · rw [if_neg (not_not.mpr ((entriesFit_iff _ _).mpr ⟨some, short, fit⟩))] at check
      refine ⟨fun (reserved : s.columnReserved l a.levels) => ?_, fun free => ?_⟩
      · rw [check, if_pos reserved]
        exact congrArg _ (State.conclude_replied quiet _ _ _ _)
      have unreserved : ¬ s.columnReserved l a.levels := fun ⟨v, h1, h2, hv⟩ => not_or.mpr (free v h1 h2) hv
      rw [if_neg unreserved] at check
      refine ⟨fun (held : s.idsHeld l entries) => ?_, fun distinct unheld => ?_⟩
      · rw [check, if_pos held]
        exact congrArg _ (State.conclude_replied quiet _ _ _ _)
      · have free : ¬ s.idsHeld l entries := by
          rintro (h | ⟨id, hid, h⟩)
          · exact h distinct
          · exact Bool.false_ne_true ((unheld id hid).symm.trans h)
        rw [check, if_neg free, if_pos rfl]
        refine ⟨loadLevels l 1 entries s, rfl, fun m hm => ?_, fun key => ?_, ?_⟩
        · rw [← columnEntry_one l entries hm.2.2.1, loadLevels_loc inside hm entries 1 s le_rfl (by omega)]
          cases he : columnEntry l 1 entries m with
          | none => rfl
          | some e => exact LocRec.corrected_eq (fit e (columnEntry_mem he)).1 _ _ _
        · rw [loadLevels_pairs, quiet]
          simp only [List.not_mem_nil, or_false, Nat.lt_one_add_iff]
        · rw [loadLevels_eq, quiet]

end Sys2Proof.Machine
end

section
/-! SUPPORT. The writing of attributes (R10 to R13), and SET_ATTR (R17). -/

namespace Sys2Proof.Machine

variable {s : State}

/-! ## Locations by their keys -/

/-- A location's record is its key's. -/
theorem State.loc_key (s : State) {l m : Loc} (h : locKey l = locKey m) : s.loc l = s.loc m := by
  unfold State.loc
  rw [h]

/-- A read behind a write, for any two addresses. -/
theorem State.loc_setLoc_key (s : State) (l m : Loc) (r : LocRec) :
    (s.setLoc l r).loc m = if locKey m = locKey l then r else s.loc m := by
  split
  · rw [State.loc_key _ ‹_›, State.loc_setLoc]
  · exact State.loc_setLoc_other s ‹_› r

theorem State.loc_occupy_key (s : State) (l m : Loc) (o : Occupancy) (p : Option Nat) :
    (s.occupy l o p).loc m = if locKey m = locKey l then { s.loc l with occ := o, pallet := p } else s.loc m :=
  s.loc_setLoc_key l m _

theorem locKey_eq_iff {l m : Loc} (hl : l.inRanges) (hm : m.inRanges) : locKey m = locKey l ↔ m = l :=
  ⟨locKey_inj hm hl, congrArg _⟩

/-! ## The job that NO_RETRIEVE pulls back (R11) -/

/-- A READY retrieve stands for location `l`. -/
def Job.readyAt (j : Job) (l : Loc) : Prop := j.kind = .retrieve ∧ j.state = .ready ∧ j.source = some l

/-- A job as it is pulled back (R11). -/
def Job.pulledBack (j : Job) : Job := { j with state := .waiting .blockedOut, srcRes := none }

theorem State.pullBack_none {l : Loc} (h : ∀ j ∈ s.pool, ¬ j.readyAt l) : s.pullBack l = s := by
  unfold State.pullBack
  rw [List.find?_eq_none.mpr fun j hj => by simpa [Job.readyAt, and_assoc] using h j hj]

/-- Of a list with one element that passes a test, the search for it finds that element. -/
theorem find?_of_unique {α : Type} {p : α → Bool} {l : List α} {a : α} (mem : a ∈ l) (pass : p a = true)
    (only : ∀ b ∈ l, p b = true → b = a) : l.find? p = some a := by
  obtain ⟨b, hb⟩ := Option.isSome_iff_exists.mp (List.find?_isSome.mpr ⟨a, mem, pass⟩)
  rw [hb, only b (List.mem_of_find?_eq_some hb) (List.find?_some hb)]

theorem State.freeSource_eq {j : Job} {l : Loc} (found : s.job j.num = some j) (source : j.source = some l)
    (reserved : j.srcRes ≠ none) : s.freeSource j.num =
      (s.occupy l .full (s.loc l).pallet).updJob j.num (fun j => { j with srcRes := none }) := by
  obtain ⟨o, ho⟩ := Option.ne_none_iff_exists'.mp reserved
  unfold State.freeSource
  rw [found]
  dsimp only
  rw [ho, source]

/-- The READY retrieve at `l`, the one job with its number and its source, returns to WAITING and its source to FULL. -/
theorem State.pullBack_eq {j : Job} {l : Loc} (mem : j ∈ s.pool) (ready : j.readyAt l) (reserved : j.srcRes ≠ none)
    (only : ∀ i ∈ s.pool, i.num = j.num ∨ i.source = some l → i = j) :
    s.pullBack l = { s.occupy l .full (s.loc l).pallet with
      pool := s.pool.map (fun i => if i.num = j.num then j.pulledBack else i) } := by
  have pulled : s.pool.find? (fun j => j.kind == .retrieve && j.state == .ready && j.source == some l) = some j :=
    find?_of_unique mem (by simpa [Job.readyAt, and_assoc] using ready) fun i hi pass => only i hi (.inr (beq_iff_eq.mp (Bool.and_eq_true_iff.mp pass).2))
  have found : s.job j.num = some j :=
    find?_of_unique mem (by simp) fun i hi pass => only i hi (.inl (by simpa using pass))
  unfold State.pullBack
  rw [pulled]
  dsimp only
  rw [State.freeSource_eq found ready.2.2 reserved]
  simp only [State.updJob, State.occupy_pool, List.map_map]
  congr 1
  refine List.map_congr_left fun i hi => ?_
  by_cases num : i.num = j.num
  · rw [only i hi (.inl num)]
    simp [Job.pulledBack]
  · simp [num]

/-- A pull-back writes occupancies, pairs to be re-examined and jobs, and nothing else. -/
theorem State.pullBack_frame (s : State) (l : Loc) :
    s.pullBack l = { s with locs := (s.pullBack l).locs, pool := (s.pullBack l).pool, work := (s.pullBack l).work } := by
  unfold State.pullBack State.freeSource
  repeat' split
  all_goals rfl

/-! ## The attributes of one location -/

/-- A record but for its occupancy: pallet id, height class and attributes. -/
def LocRec.besides (r : LocRec) : LocRec := { r with occ := .unknown }

theorem State.besides_pullBack (s : State) (l m : Loc) : ((s.pullBack l).loc m).besides = (s.loc m).besides := by
  have occupied : ∀ x, ((s.occupy x .full (s.loc x).pallet).loc m).besides = (s.loc m).besides := fun x => by
    rw [State.loc_occupy_key]
    split
    · rename_i same
      rw [State.loc_key s same]
      rfl
    · rfl
  unfold State.pullBack State.freeSource
  repeat' split
  any_goals rfl
  exact occupied _

/-- The location with its new attributes, before NO_RETRIEVE acts. -/
def State.withAttrs (s : State) (l : Loc) (a : Attrs) : State := s.setLoc l { s.loc l with attrs := a }

/-- The request sets NO_RETRIEVE, which the location did not carry (entry 15). -/
def Attrs.setsNoRetrieve (old new : Attrs) : Bool := new.noRetrieve && !old.noRetrieve

theorem Attrs.setsNoRetrieve_iff {old new : Attrs} :
    old.setsNoRetrieve new = true ↔ new.noRetrieve = true ∧ old.noRetrieve = false := by
  simp [Attrs.setsNoRetrieve]

/-- The location with its new attributes, NO_RETRIEVE having acted. -/
def State.actedOn (s : State) (l : Loc) (a : Attrs) : State :=
  if (s.loc l).attrs.setsNoRetrieve a = true then (s.withAttrs l a).pullBack l else s.withAttrs l a

theorem State.actedOn_frame (s : State) (l : Loc) (a : Attrs) : s.actedOn l a =
    { s with locs := (s.actedOn l a).locs, pool := (s.actedOn l a).pool, work := (s.actedOn l a).work } := by
  unfold State.actedOn
  split
  · exact State.pullBack_frame (s.withAttrs l a) l
  · rfl

/-- A cleared attribute re-examines the pair and is a trigger (R13). -/
theorem State.writeAttrs_eq (s : State) (l : Loc) (a : Attrs) : s.writeAttrs l a =
    { s.actedOn l a with
      work := if (s.loc l).attrs.clearedBy a = true then ((s.actedOn l a).touchPair l).work else (s.actedOn l a).work
      passDue := s.passDue || decide ((s.loc l).attrs.clearedBy a = true ∧ s.mode.run = .run) } := by
  have due : (s.actedOn l a).passDue = s.passDue := by rw [State.actedOn_frame]
  have mode : (s.actedOn l a).mode = s.mode := by rw [State.actedOn_frame]
  have written : s.writeAttrs l a =
      if (s.loc l).attrs.clearedBy a = true then ((s.actedOn l a).touchPair l).trigger else s.actedOn l a := rfl
  rw [written, ← due, ← mode]
  by_cases cleared : (s.loc l).attrs.clearedBy a = true
  · rw [if_pos cleared, State.trigger_eq, if_pos cleared]
    simp only [cleared, true_and]
    rfl
  · rw [if_neg cleared, if_neg cleared]
    simp [cleared]

@[simp] theorem State.writeAttrs_originators (s : State) (l : Loc) (a : Attrs) :
    (s.writeAttrs l a).originators = s.originators := by
  rw [State.writeAttrs_eq, State.actedOn_frame]

@[simp] theorem State.writeAttrs_mode (s : State) (l : Loc) (a : Attrs) : (s.writeAttrs l a).mode = s.mode := by
  rw [State.writeAttrs_eq, State.actedOn_frame]

@[simp] theorem State.writeAttrs_passDue (s : State) (l : Loc) (a : Attrs) : (s.writeAttrs l a).passDue =
    (s.passDue || decide ((s.loc l).attrs.clearedBy a = true ∧ s.mode.run = .run)) := by
  rw [State.writeAttrs_eq]

/-- Only the attributes of the location change, besides its occupancy. -/
theorem State.besides_writeAttrs (s : State) (l m : Loc) (a : Attrs) : ((s.writeAttrs l a).loc m).besides =
    if locKey m = locKey l then { (s.loc m).besides with attrs := a } else (s.loc m).besides := by
  have written : ((s.withAttrs l a).loc m).besides =
      if locKey m = locKey l then { (s.loc m).besides with attrs := a } else (s.loc m).besides := by
    rw [State.withAttrs, State.loc_setLoc_key]
    split
    · rename_i same
      rw [State.loc_key s same]
      rfl
    · rfl
  rw [← written, State.writeAttrs_eq]
  unfold State.actedOn
  split
  · exact State.besides_pullBack _ l m
  · rfl

theorem State.attrs_writeAttrs_other (s : State) {l m : Loc} (h : locKey m ≠ locKey l) (a : Attrs) :
    ((s.writeAttrs l a).loc m).attrs = (s.loc m).attrs := by
  have := s.besides_writeAttrs l m a
  rw [if_neg h] at this
  exact (congrArg LocRec.attrs this :)

theorem State.attrs_writeAttrs (s : State) (l : Loc) (a : Attrs) : ((s.writeAttrs l a).loc l).attrs = a := by
  have := s.besides_writeAttrs l l a
  rw [if_pos rfl] at this
  exact (congrArg LocRec.attrs this :)

/-- The writing of attributes that pulls back no job. -/
theorem State.writeAttrs_free {l : Loc} {a : Attrs}
    (free : (s.loc l).attrs.setsNoRetrieve a = true → ∀ j ∈ s.pool, ¬ j.readyAt l) : s.writeAttrs l a =
      { s with
        locs := (s.withAttrs l a).locs
        work := if (s.loc l).attrs.clearedBy a = true then (s.touchPair l).work else s.work
        passDue := s.passDue || decide ((s.loc l).attrs.clearedBy a = true ∧ s.mode.run = .run) } := by
  have acted : s.actedOn l a = s.withAttrs l a := by
    unfold State.actedOn
    split
    · exact State.pullBack_none (s := s.withAttrs l a) (free ‹_›)
    · rfl
  rw [State.writeAttrs_eq, acted]
  rfl

theorem State.touchPair_of_mem {l : Loc} (h : pairKey l ∈ s.work.pairs) : s.touchPair l = s := by
  unfold State.touchPair
  rw [if_pos (List.contains_iff_mem.mpr h)]

theorem State.touchPair_twice (s : State) (l : Loc) : (s.touchPair l).touchPair l = s.touchPair l :=
  State.touchPair_of_mem ((s.mem_touchPair l _).mpr (.inl rfl))

/-- The writing of attributes that pulls back job `j`. -/
theorem State.writeAttrs_pulls {l : Loc} {a : Attrs} {j : Job} (sets : (s.loc l).attrs.setsNoRetrieve a = true)
    (mem : j ∈ s.pool) (ready : j.readyAt l) (reserved : j.srcRes ≠ none)
    (only : ∀ i ∈ s.pool, i.num = j.num ∨ i.source = some l → i = j) : s.writeAttrs l a =
      { s with
        locs := ((s.withAttrs l a).occupy l .full (s.loc l).pallet).locs
        pool := s.pool.map (fun i => if i.num = j.num then j.pulledBack else i)
        work := (s.touchPair l).work
        passDue := s.passDue || decide ((s.loc l).attrs.clearedBy a = true ∧ s.mode.run = .run) } := by
  have pallet : ((s.withAttrs l a).loc l).pallet = (s.loc l).pallet := by
    rw [State.withAttrs, State.loc_setLoc]
  have acted : s.actedOn l a =
      { (s.withAttrs l a).occupy l .full (s.loc l).pallet with
        pool := s.pool.map (fun i => if i.num = j.num then j.pulledBack else i) } := by
    rw [State.actedOn, if_pos sets, State.pullBack_eq (s := s.withAttrs l a) mem ready reserved only, pallet]
    rfl
  have touched : (((s.actedOn l a).touchPair l).work) = (s.touchPair l).work := by
    have twice := congrArg State.work (s.touchPair_twice l)
    rw [acted]
    exact twice
  rw [State.writeAttrs_eq, touched, acted]
  simp only [State.occupy_work]
  congr 1
  split <;> rfl

theorem State.loc_withAttrs_occupy (s : State) (l x : Loc) (a : Attrs) :
    ((s.withAttrs l a).occupy l .full (s.loc l).pallet).loc x =
      if locKey x = locKey l then { s.loc l with attrs := a, occ := .full } else s.loc x := by
  rw [State.loc_occupy_key, State.withAttrs, State.loc_setLoc, State.loc_setLoc_key]
  split <;> rfl

theorem State.occ_withAttrs (s : State) (l x : Loc) (a : Attrs) : ((s.withAttrs l a).loc x).occ = (s.loc x).occ := by
  rw [State.withAttrs, State.loc_setLoc_key]
  split
  · rename_i same
    rw [State.loc_key s same]
  · rfl

theorem State.occ_withAttrs_occupy (s : State) (l x : Loc) (a : Attrs) :
    (((s.withAttrs l a).occupy l .full (s.loc l).pallet).loc x).occ =
      if locKey x = locKey l then .full else (s.loc x).occ := by
  rw [State.loc_withAttrs_occupy]
  split <;> rfl

/-! ## SET_ATTR (R17) -/

theorem originatorOk_iff {n : Nat} : originatorOk n = true ↔ 1 ≤ n ∧ n ≤ 7 := by
  simp [originatorOk]

theorem originatorOk_outside {n : Nat} (h : n < 1 ∨ 7 < n) : originatorOk n = false := by
  rw [← Bool.not_eq_true, originatorOk_iff]
  omega

/-- The written set is the one in which every open attribute is as wanted and every closed one as before. -/
theorem Attrs.write_unique {new old mask want : Attrs}
    (h : ∀ f : Attrs → Bool, f = Attrs.noStore ∨ f = Attrs.noRetrieve ∨ f = Attrs.inspect ∨ f = Attrs.noRelocate →
      f new = if f mask then f want else f old) : new = old.write mask want := by
  obtain ⟨_, _, _, _⟩ := new
  rw [Attrs.write, Attrs.mk.injEq]
  exact ⟨h _ (.inl rfl), h _ (.inr (.inl rfl)), h _ (.inr (.inr (.inl rfl))), h _ (.inr (.inr (.inr rfl)))⟩

theorem attrsOf_none {n : Nat} (h : 15 < n) : attrsOf n = none := if_neg (by omega)

theorem checkAttr_eq {originator : Nat} (h : originatorOk originator = true) (attrs : Nat) :
    checkAttr originator attrs = if (attrsOf attrs).isNone = true then .badField else .ok := by
  simp [checkAttr, firstFail, h]

/-- Settles O22. -/
theorem setAttrWritesOpenAttributes : Obligations.SetAttrWritesOpenAttributes := by
  intro tag originator attrs q s takes quiet
  rw [exec_taken rfl takes]
  simp only [runRequest, runSetAttr]
  refine ⟨fun bad => ?_, fun r h1 h7 bad => ?_, fun l h1 h7 found long => ?_,
    fun l want h1 h7 found inside wanted new open_ => ?_⟩
  · rw [originatorOk_outside bad]
    exact congrArg _ (State.conclude_replied quiet _ _ _ _)
  all_goals rw [originatorOk_iff.mpr ⟨h1, h7⟩]
  · rw [bad]
    exact congrArg _ (State.conclude_replied quiet _ _ _ _)
  · rw [found]
    simp only [State.judgedData, checkAttr_eq (originatorOk_iff.mpr ⟨h1, h7⟩), attrsOf_none long]
    exact congrArg _ (State.conclude_replied quiet _ _ _ _)
  · have after : s.attrsAfter originator l attrs = new := by
      rw [State.attrsAfter, wanted]
      exact (Attrs.write_unique open_).symm
    rw [found]
    simp only [State.judgedData, checkAttr_eq (originatorOk_iff.mpr ⟨h1, h7⟩), wanted, after]
    refine ⟨s.writeAttrs l new, ?_, fun noPull => ?_, fun j mem sets notSet kind ready source reserved only => ?_⟩
    · rw [State.attrs_writeAttrs]
      rfl
    · rw [State.writeAttrs_free fun sets j hj ⟨kind, ready, source⟩ => by
        obtain ⟨on, off⟩ := Attrs.setsNoRetrieve_iff.mp sets
        obtain h | h | h := noPull
        · exact absurd on (by simp [h])
        · exact absurd off (by simp [h])
        · exact h j hj kind ready source]
      refine ⟨fun m hm => ?_, ?_⟩
      · simp only [← locKey_eq_iff inside hm]
        exact s.loc_setLoc_key l m _
      · rw [State.touchPair_quiet quiet, quiet]
        split <;> rfl
    · rw [State.writeAttrs_pulls (Attrs.setsNoRetrieve_iff.mpr ⟨sets, notSet⟩) mem ⟨kind, ready, source⟩ reserved only]
      refine ⟨fun m hm => ?_, ?_⟩
      · simp only [← locKey_eq_iff inside hm]
        exact s.loc_withAttrs_occupy l m new
      · rw [State.touchPair_quiet quiet]
        rfl

end Sys2Proof.Machine
end

section
/-! SUPPORT. MARK (R18): the preset is written on the selected levels, one by one. -/

namespace Sys2Proof.Machine

variable {s : State} {g old : Loc → Attrs}

/-! ## Attributes written on a list of locations -/

/-- The locations of a list take the attributes that `g` gives them, one by one. -/
def State.writeAll (g : Loc → Attrs) (ms : List Loc) (s : State) : State := ms.foldl (fun s m => s.writeAttrs m (g m)) s

@[simp] theorem State.writeAll_cons (m : Loc) (ms : List Loc) (s : State) :
    s.writeAll g (m :: ms) = (s.writeAttrs m (g m)).writeAll g ms := rfl

/-- The locations of a list are distinct, exist, and carry the attributes that `old` says. -/
def State.carries (s : State) (old : Loc → Attrs) (ms : List Loc) : Prop :=
  ms.Nodup ∧ (∀ m ∈ ms, m.inRanges) ∧ ∀ m ∈ ms, (s.loc m).attrs = old m

/-- The write of the first location leaves the others as they were. -/
theorem State.carries_tail {m : Loc} {ms : List Loc} (h : s.carries old (m :: ms)) (a : Attrs) :
    (s.writeAttrs m a).carries old ms := by
  obtain ⟨distinct, inside, was⟩ := h
  obtain ⟨notIn, distinct⟩ := List.nodup_cons.mp distinct
  refine ⟨distinct, fun x hx => inside x (.tail _ hx), fun x hx => ?_⟩
  have other : locKey x ≠ locKey m := fun same =>
    notIn (locKey_inj (inside x (.tail _ hx)) (inside m (.head _)) same ▸ hx)
  rw [s.attrs_writeAttrs_other other, was x (.tail _ hx)]

theorem State.carries_append {pre post : List Loc} (h : s.carries old (pre ++ post)) :
    (s.writeAll g pre).carries old post := by
  induction pre generalizing s with
  | nil => exact h
  | cons m pre ih => exact ih (State.carries_tail h _)

theorem State.carries_left {pre post : List Loc} (h : s.carries old (pre ++ post)) : s.carries old pre := by
  obtain ⟨distinct, inside, was⟩ := h
  exact ⟨(List.nodup_append.mp distinct).1, fun m hm => inside m (List.mem_append_left _ hm),
    fun m hm => was m (List.mem_append_left _ hm)⟩

/-- Pallet ids and height classes stay, and the attributes are those given. -/
theorem State.besides_writeAll {ms : List Loc} (inside : ∀ m ∈ ms, m.inRanges) {x : Loc} (hx : x.inRanges) (s : State) :
    ((s.writeAll g ms).loc x).besides =
      if x ∈ ms then { (s.loc x).besides with attrs := g x } else (s.loc x).besides := by
  induction ms generalizing s with
  | nil => rfl
  | cons m ms ih =>
    have head := s.besides_writeAttrs m x (g m)
    simp only [locKey_eq_iff (inside m (.head _)) hx] at head
    rw [State.writeAll_cons, ih (fun m hm => inside m (.tail _ hm)), head]
    by_cases same : x = m
    · subst same
      simp
    · simp [same]

theorem State.writeAll_fields {ms : List Loc} (inside : ∀ m ∈ ms, m.inRanges) {x : Loc} (hx : x.inRanges) (s : State) :
    ((s.writeAll g ms).loc x).attrs = (if x ∈ ms then g x else (s.loc x).attrs) ∧
      ((s.writeAll g ms).loc x).pallet = (s.loc x).pallet ∧ ((s.writeAll g ms).loc x).height = (s.loc x).height := by
  have written := s.besides_writeAll (g := g) inside hx
  split at written
  · rw [if_pos ‹_›]
    exact ⟨(congrArg LocRec.attrs written :), (congrArg LocRec.pallet written :), (congrArg LocRec.height written :)⟩
  · rw [if_neg ‹_›]
    exact ⟨(congrArg LocRec.attrs written :), (congrArg LocRec.pallet written :), (congrArg LocRec.height written :)⟩

/-- A cleared attribute on any of the locations makes a pass due in RUN. -/
theorem State.writeAll_passDue {ms : List Loc} (h : s.carries old ms) : (s.writeAll g ms).passDue = true ↔
    s.passDue = true ∨ (s.mode.run = .run ∧ ∃ m ∈ ms, (old m).clearedBy (g m) = true) := by
  induction ms generalizing s with
  | nil => simp [State.writeAll]
  | cons m ms ih =>
    rw [State.writeAll_cons, ih (State.carries_tail h _), State.writeAttrs_passDue, State.writeAttrs_mode,
      h.2.2 m (.head _)]
    simp only [Bool.or_eq_true, decide_eq_true_eq, List.exists_mem_cons_iff]
    tauto

/-! ## Where no job is pulled back -/

/-- No READY retrieve stands for a location on which NO_RETRIEVE is set. -/
def pullsNone (old g : Loc → Attrs) (ms : List Loc) (pool : List Job) : Prop :=
  ∀ m ∈ ms, (old m).setsNoRetrieve (g m) = true → ∀ j ∈ pool, ¬ j.readyAt m

theorem State.writeAttrs_free_head {m : Loc} {ms : List Loc} (h : s.carries old (m :: ms))
    (free : pullsNone old g (m :: ms) s.pool) : s.writeAttrs m (g m) =
      { s with
        locs := (s.withAttrs m (g m)).locs
        work := if (old m).clearedBy (g m) = true then (s.touchPair m).work else s.work
        passDue := s.passDue || decide ((old m).clearedBy (g m) = true ∧ s.mode.run = .run) } := by
  rw [← h.2.2 m (.head _)]
  exact State.writeAttrs_free fun sets => free m (.head _) (h.2.2 m (.head _) ▸ sets)

theorem State.pullsNone_tail {m : Loc} {ms : List Loc} (h : s.carries old (m :: ms))
    (free : pullsNone old g (m :: ms) s.pool) : pullsNone old g ms (s.writeAttrs m (g m)).pool := by
  rw [State.writeAttrs_free_head h free]
  exact fun x hx => free x (.tail _ hx)

theorem State.writeAll_occ {ms : List Loc} (h : s.carries old ms) (free : pullsNone old g ms s.pool) (x : Loc) :
    ((s.writeAll g ms).loc x).occ = (s.loc x).occ := by
  induction ms generalizing s with
  | nil => rfl
  | cons m ms ih =>
    rw [State.writeAll_cons, ih (State.carries_tail h _) (State.pullsNone_tail h free), State.writeAttrs_free_head h free]
    exact s.occ_withAttrs m x (g m)

theorem State.writeAll_pairs {ms : List Loc} (h : s.carries old ms) (free : pullsNone old g ms s.pool) (key : Nat) :
    key ∈ (s.writeAll g ms).work.pairs ↔
      (∃ m ∈ ms, (old m).clearedBy (g m) = true ∧ key = pairKey m) ∨ key ∈ s.work.pairs := by
  induction ms generalizing s with
  | nil => simp [State.writeAll]
  | cons m ms ih =>
    rw [State.writeAll_cons, ih (State.carries_tail h _) (State.pullsNone_tail h free), State.writeAttrs_free_head h free]
    by_cases cleared : (old m).clearedBy (g m) = true
    · simp only [cleared, if_true, State.mem_touchPair, List.exists_mem_cons_iff, true_and]
      rw [or_left_comm, or_assoc]
    · simp [cleared]

theorem State.writeAll_frame {ms : List Loc} (h : s.carries old ms) (free : pullsNone old g ms s.pool) :
    s.writeAll g ms = { s with
      locs := (s.writeAll g ms).locs
      work := { pairs := (s.writeAll g ms).work.pairs, allBusy := s.work.allBusy }
      passDue := (s.writeAll g ms).passDue } := by
  induction ms generalizing s with
  | nil => rfl
  | cons m ms ih =>
    rw [State.writeAll_cons, ih (State.carries_tail h _) (State.pullsNone_tail h free),
      State.writeAttrs_free_head h free]
    split <;> rfl

/-! ## Where one job is pulled back -/

/-- Job `j`, READY at location `m` of the list, is the one job that the writing pulls back. -/
structure PullsBack (s : State) (old g : Loc → Attrs) (ms : List Loc) (j : Job) (m : Loc) : Prop where
  mem : j ∈ s.pool
  ready : j.readyAt m
  reserved : j.srcRes ≠ none
  listed : m ∈ ms
  sets : (old m).setsNoRetrieve (g m) = true
  alone : ∀ i ∈ s.pool, i.num = j.num ∨ i.source = some m → i = j
  only : ∀ i ∈ s.pool, ∀ x ∈ ms, (old x).setsNoRetrieve (g x) = true → i.readyAt x → i = j

variable {pre post : List Loc} {m : Loc} {j : Job}

/-- The one job that is pulled back is READY at one location only. -/
theorem PullsBack.at_source (p : PullsBack s old g (pre ++ m :: post) j m) {i : Job} (hi : i ∈ s.pool) {x : Loc}
    (hx : x ∈ pre ++ m :: post) (sets : (old x).setsNoRetrieve (g x) = true) (ready : i.readyAt x) : x = m := by
  have same := p.only i hi x hx sets ready
  subst same
  exact Option.some.inj (ready.2.2.symm.trans p.ready.2.2)

theorem PullsBack.none_before (p : PullsBack s old g (pre ++ m :: post) j m) (h : s.carries old (pre ++ m :: post)) :
    pullsNone old g pre s.pool := by
  intro x hx sets i hi ready
  have here := p.at_source hi (List.mem_append_left _ hx) sets ready
  exact (List.nodup_append.mp h.1).2.2 x hx m (.head _) here

/-- Behind the pull-back the job is READY no more. -/
theorem PullsBack.none_after (p : PullsBack s old g (pre ++ m :: post) j m) (h : s.carries old (pre ++ m :: post)) :
    pullsNone old g post (s.pool.map (fun i => if i.num = j.num then j.pulledBack else i)) := by
  intro x hx sets i' hi' ready
  obtain ⟨i, hi, rfl⟩ := List.mem_map.mp hi'
  by_cases num : i.num = j.num
  · rw [if_pos num] at ready
    cases ready.2.1
  · rw [if_neg num] at ready
    have listed : x ∈ pre ++ m :: post := List.mem_append_right _ (.tail _ hx)
    have here := p.at_source hi listed sets ready
    have distinct := (List.nodup_append.mp h.1).2.1
    exact (List.nodup_cons.mp distinct).1 (here ▸ hx)

/-- The write that pulls back the job, behind those before it. -/
theorem PullsBack.write (p : PullsBack s old g (pre ++ m :: post) j m) (h : s.carries old (pre ++ m :: post)) :
    (s.writeAll g pre).writeAttrs m (g m) =
      { s.writeAll g pre with
        locs := (((s.writeAll g pre).withAttrs m (g m)).occupy m .full ((s.writeAll g pre).loc m).pallet).locs
        pool := s.pool.map (fun i => if i.num = j.num then j.pulledBack else i)
        work := ((s.writeAll g pre).touchPair m).work
        passDue := ((s.writeAll g pre).writeAttrs m (g m)).passDue } := by
  have pool : (s.writeAll g pre).pool = s.pool := by
    rw [State.writeAll_frame (State.carries_left h) (p.none_before h)]
  have was : ((s.writeAll g pre).loc m).attrs = old m := (State.carries_append h).2.2 m (.head _)
  rw [State.writeAttrs_pulls (was ▸ p.sets) (pool ▸ p.mem) p.ready p.reserved (pool ▸ p.alone), pool]

/-- What a writing leaves that pulls back one job: its source is FULL and its pair is to be re-examined. -/
theorem PullsBack.writeAll {ms : List Loc} (p : PullsBack s old g ms j m) (h : s.carries old ms) :
    (∀ x : Loc, x.inRanges → ((s.writeAll g ms).loc x).occ = if x = m then .full else (s.loc x).occ) ∧
    (∀ key, key ∈ (s.writeAll g ms).work.pairs ↔ key = pairKey m ∨
      (∃ x ∈ ms, (old x).clearedBy (g x) = true ∧ key = pairKey x) ∨ key ∈ s.work.pairs) ∧
    s.writeAll g ms = { s with
      locs := (s.writeAll g ms).locs
      pool := s.pool.map (fun i => if i.num = j.num then j.pulledBack else i)
      work := { pairs := (s.writeAll g ms).work.pairs, allBusy := s.work.allBusy }
      passDue := (s.writeAll g ms).passDue } := by
  obtain ⟨pre, post, rfl⟩ := List.append_of_mem p.listed
  have left := State.carries_left h
  have before := p.none_before h
  have right : ((s.writeAll g pre).writeAttrs m (g m)).carries old post := State.carries_tail (State.carries_append h) _
  have after : pullsNone old g post ((s.writeAll g pre).writeAttrs m (g m)).pool := by
    rw [p.write h]
    exact p.none_after h
  have cut : s.writeAll g (pre ++ m :: post) = ((s.writeAll g pre).writeAttrs m (g m)).writeAll g post :=
    List.foldl_append
  rw [cut]
  refine ⟨fun x hx => ?_, fun key => ?_, ?_⟩
  · rw [State.writeAll_occ right after, p.write h, ← State.writeAll_occ left before]
    simp only [← locKey_eq_iff (h.2.1 m p.listed) hx]
    exact State.occ_withAttrs_occupy _ m x (g m)
  · rw [State.writeAll_pairs right after, p.write h]
    simp only [State.mem_touchPair, State.writeAll_pairs left before, List.mem_append, List.mem_cons]
    constructor
    · rintro (⟨x, hx, cleared⟩ | here | ⟨x, hx, cleared⟩ | owed)
      · exact .inr (.inl ⟨x, .inr (.inr hx), cleared⟩)
      · exact .inl here
      · exact .inr (.inl ⟨x, .inl hx, cleared⟩)
      · exact .inr (.inr owed)
    · rintro (here | ⟨x, (hx | rfl | hx), cleared⟩ | owed)
      · exact .inr (.inl here)
      · exact .inr (.inr (.inl ⟨x, hx, cleared⟩))
      · exact .inr (.inl cleared.2)
      · exact .inl ⟨x, hx, cleared⟩
      · exact .inr (.inr (.inr owed))
  · rw [State.writeAll_frame right after, p.write h, State.writeAll_frame left before]
    rfl

/-! ## MARK (R18) -/

/-- The levels of a column of `n` levels that a level word selects (R18). -/
def selectedLevels (n word : Nat) : List Nat := ((List.range n).map (· + 1)).filter (levelSelected word)

/-- The attributes that an originator's preset gives a location of aisle `n` (R18). -/
def State.presetOn (s : State) (originator n : Nat) (m : Loc) : Attrs :=
  (s.loc m).attrs.write (s.origin originator n).mask (s.origin originator n).preset

theorem mem_selectedLevels_range {n word v : Nat} (h : v ∈ selectedLevels n word) : 1 ≤ v ∧ v ≤ n :=
  mem_levels.mp (List.mem_of_mem_filter h)

theorem selectedLevels_nodup (n word : Nat) : (selectedLevels n word).Nodup :=
  (List.nodup_range.map fun _ _ h => Nat.succ.inj h).filter _

theorem mem_column {l x : Loc} {levels : List Nat} :
    x ∈ levels.map l.atLevel ↔ x.level ∈ levels ∧ x = { l with level := x.level } := by
  rw [List.mem_map]
  constructor
  · rintro ⟨v, hv, rfl⟩
    exact ⟨hv, rfl⟩
  · rintro ⟨hv, hx⟩
    exact ⟨x.level, hv, hx.symm⟩

/-- The selected locations on which the writing sets NO_RETRIEVE (R11). -/
theorem mem_column_sets {l x : Loc} {levels : List Nat} {was new : Attrs} :
    x ∈ levels.map l.atLevel ∧ was.setsNoRetrieve new = true ↔
      x.level ∈ levels ∧ x = { l with level := x.level } ∧ new.noRetrieve = true ∧ was.noRetrieve = false := by
  rw [mem_column, Attrs.setsNoRetrieve_iff, and_assoc]

theorem exists_mem_column {l : Loc} {levels : List Nat} {P : Loc → Prop} :
    (∃ m ∈ levels.map l.atLevel, P m) ↔ ∃ v ∈ levels, P { l with level := v } :=
  by simp only [List.mem_map, exists_exists_and_eq_and, Loc.atLevel]

theorem State.carries_column {l : Loc} (hl : l.inRanges) {n : Nat} (hn : n ≤ 32) (word : Nat) (s : State) :
    s.carries (fun m => (s.loc m).attrs) ((selectedLevels n word).map l.atLevel) := by
  refine ⟨(selectedLevels_nodup n word).map fun _ _ h => congrArg Loc.level h, fun m hm => ?_, fun _ _ => rfl⟩
  obtain ⟨v, hv, rfl⟩ := List.mem_map.mp hm
  obtain ⟨h1, h2⟩ := mem_selectedLevels_range hv
  exact Loc.atLevel_inRanges hl h1 (by omega)

/-- Each location is marked with the attributes that it would be given first of all. -/
theorem State.foldl_marked {originator : Nat} {ms : List Loc} (h : s.carries old ms)
    (marked : ∀ m ∈ ms, s.markedAttrs originator m = g m) :
    ms.foldl (fun s m => s.writeAttrs m (s.markedAttrs originator m)) s = s.writeAll g ms := by
  induction ms generalizing s with
  | nil => rfl
  | cons m ms ih =>
    have tail := State.carries_tail h (g m)
    rw [List.foldl_cons, State.writeAll_cons, marked m (.head _)]
    refine ih tail fun x hx => ?_
    rw [← marked x (.tail _ hx)]
    unfold State.markedAttrs State.origin
    rw [State.writeAttrs_originators, tail.2.2 x hx, h.2.2 x (.tail _ hx)]

theorem State.selected_eq {l : Loc} {a : Aisle} (h : s.aisle l.aisle = some a) (word : Nat) :
    s.selected l word = (selectedLevels a.levels word).map l.atLevel := by
  rw [State.selected, State.levelsOf_some h]
  rfl

theorem State.markAll_eq {l : Loc} {a : Aisle} (h : s.aisle l.aisle = some a) (inside : l.inRanges) (short : a.levels ≤ 32)
    (originator word : Nat) : s.markAll originator l word =
      s.writeAll (s.presetOn originator l.aisle) ((selectedLevels a.levels word).map l.atLevel) := by
  rw [State.markAll, State.selected_eq h]
  refine State.foldl_marked (s.carries_column inside short word) fun m hm => ?_
  obtain ⟨v, -, rfl⟩ := List.mem_map.mp hm
  rfl

theorem State.markChanged_length {l : Loc} {a : Aisle} (h : s.aisle l.aisle = some a) (originator word : Nat) :
    (s.markChanged originator l word).length =
      ((selectedLevels a.levels word).filter (fun v => decide (s.presetOn originator l.aisle { l with level := v } ≠
        (s.loc { l with level := v }).attrs))).length := by
  rw [State.markChanged, State.selected_eq h, List.filter_map, List.length_map]
  congr 1
  refine List.filter_congr fun v _ => ?_
  rw [Bool.eq_iff_iff, decide_eq_true_iff]
  exact bne_iff_ne

/-- Settles O23. -/
theorem markWritesThePreset : Obligations.MarkWritesThePreset := by
  intro tag originator word q s takes quiet
  rw [exec_taken rfl takes]
  simp only [runRequest, runMark]
  refine ⟨fun bad => ?_, fun r h1 h7 bad => ?_, fun l a h1 h7 found aisle inside short => ?_⟩
  · rw [originatorOk_outside bad]
    exact congrArg _ (State.conclude_replied quiet _ _ _ _)
  all_goals rw [originatorOk_iff.mpr ⟨h1, h7⟩]
  · rw [bad]
    exact congrArg _ (State.conclude_replied quiet _ _ _ _)
  · obtain ⟨atAisle, -⟩ := State.checkCol_ok found
    rw [← atAisle] at aisle
    have carried := s.carries_column inside short word
    rw [found]
    refine ⟨s.writeAll (s.presetOn originator l.aisle) ((selectedLevels a.levels word).map l.atLevel), ?_,
      fun m hm => ?_, fun none => ?_, ?_, fun free => ?_, fun j mem m kind ready source sets reserved alone only => ?_⟩
    · rw [← State.markAll_eq aisle inside short]
      exact congrArg (fun n => Host.Outcome.next ((s.markAll originator l word).conclude 0x32 tag .ok (beBytes 1 n)))
        (State.markChanged_length aisle originator word)
    · obtain ⟨attrs, kept⟩ := s.writeAll_fields (g := s.presetOn originator l.aisle) carried.2.1 hm
      exact ⟨attrs.trans (if_congr mem_column rfl rfl), kept⟩
    · have empty : selectedLevels a.levels word = [] := none
      rw [empty]
      rfl
    · rw [State.writeAll_passDue carried, exists_mem_column]
      rfl
    · have noPull : pullsNone (fun m => (s.loc m).attrs) (s.presetOn originator l.aisle)
          ((selectedLevels a.levels word).map l.atLevel) s.pool :=
        fun m hm sets j hj ⟨kind, ready, source⟩ => free j hj kind ready m (mem_column_sets.mp ⟨hm, sets⟩) source
      refine ⟨State.writeAll_occ carried noPull, fun key => ?_, ?_⟩
      · rw [State.writeAll_pairs carried noPull, exists_mem_column, quiet]
        exact or_iff_left (List.not_mem_nil)
      · rw [State.writeAll_frame carried noPull, quiet]
    · obtain ⟨listed, set⟩ := mem_column_sets.mpr sets
      have pulls : PullsBack s (fun m => (s.loc m).attrs) (s.presetOn originator l.aisle)
          ((selectedLevels a.levels word).map l.atLevel) j m :=
        ⟨mem, ⟨kind, ready, source⟩, reserved, listed, set, alone, fun i hi x hx sets ⟨kind, ready, source⟩ =>
          only i hi kind ready x (mem_column_sets.mp ⟨hx, sets⟩) source⟩
      obtain ⟨occ, pairs, frame⟩ := pulls.writeAll carried
      refine ⟨occ, fun key => ?_, ?_⟩
      · rw [pairs, exists_mem_column, quiet]
        exact or_congr_right (or_iff_left List.not_mem_nil)
      · rw [frame, quiet]
        rfl

end Sys2Proof.Machine
end

section
/-! SUPPORT. A request that is refused, and one that is taken, as the reply says (R176, R177). -/

namespace Sys2Proof.Machine

variable {s : State}

/-! ## Chains of checks -/

/-- A statement by cases on what a chain of checks decides, read off the chain itself. -/
theorem ite_of_iff {α : Type} {c d : Prop} {dec : Decidable c} {dec' : Decidable d} {x a b : α} {P Q : Prop}
    (same : d ↔ c) (h : x = @ite α c dec a b) (pos : d → x = a → P) (neg : ¬ d → x = b → Q) : @ite Prop d dec' P Q := by
  split
  · exact pos ‹_› (h.trans (if_pos (same.mp ‹_›)))
  · exact neg ‹_› (h.trans (if_neg (mt same.mpr ‹_›)))

theorem ite_of_eq {α : Type} {c : Prop} {dec dec' : Decidable c} {x a b : α} {P Q : Prop}
    (h : x = @ite α c dec a b) (pos : c → x = a → P) (neg : ¬ c → x = b → Q) : @ite Prop c dec' P Q :=
  ite_of_iff Iff.rfl h pos neg

/-- A check at the head of an ordered list, before the checks that follow the list. -/
theorem firstFail_orElse {c : Bool} {p : Prop} {dec : Decidable p} {r last x : Result} {t : List (Bool × Result)}
    (cond : c = true ↔ p) (fails : p → r ≠ .ok) (rest : (firstFail t).orElse last = x) :
    (firstFail ((c, r) :: t)).orElse last = if p then r else x := by
  by_cases h : p
  · rw [if_pos h, firstFail, if_pos (cond.mpr h), Result.orElse, if_neg (fails h)]
  · rw [if_neg h, firstFail, if_neg (mt cond.mp h), rest]

/-! ## Requests that are refused or taken -/

theorem exec_refused {i : Instr} (hi : i.isRequest = true) (takes : s.takes) (quiet : s.quiet) {c tag : Nat} {r : Result}
    (h : runRequest i s = s.conclude c tag r []) : exec i s = .next (s.replied (c + 0x80) tag r []) := by
  rw [exec_taken hi takes, h, State.conclude_replied quiet]

theorem State.judgedData_refused {r : Result} (h : r ≠ .ok) (c tag : Nat) (effect : State → State)
    (data : State → List Byte) : s.judgedData c tag r effect data = s.conclude c tag r [] := if_neg h

theorem State.judgedData_ok {r : Result} (h : r = .ok) (c tag : Nat) (effect : State → State)
    (data : State → List Byte) : s.judgedData c tag r effect data = (effect s).conclude c tag .ok (data (effect s)) :=
  if_pos h

theorem State.notConfig_iff (s : State) : s.notConfig = true ↔ s.mode.run ≠ .config := by
  simp [State.notConfig]

theorem State.notConfig_false_iff (s : State) : (!s.notConfig) = true ↔ s.mode.run = .config := by
  simp [State.notConfig]

/-! ## Host jobs (R25 to R27) -/

theorem hostNumber_iff {n : Nat} : hostNumber n = true ↔ 1 ≤ n ∧ n ≤ 2147483647 := by
  simp [hostNumber]

theorem State.job_isSome_iff (s : State) (n : Nat) : (s.job n).isSome = true ↔ ∃ j ∈ s.pool, j.num = n := by
  simp [State.job]

theorem State.hostJobs_eq (s : State) : s.hostJobs =
    (s.pool.filter (fun (j : Job) => j.kind == JobKind.store || j.kind == JobKind.retrieve)).length := by
  unfold State.hostJobs
  congr 2
  funext j
  cases j.kind <;> rfl

/-- No host place or no admission number is left (R26, R27). -/
theorem State.hostFull_iff (s : State) : (!s.hostRoom) = true ↔
    496 ≤ (s.pool.filter (fun (j : Job) => j.kind == JobKind.store || j.kind == JobKind.retrieve)).length ∨
      4294967295 < s.admNext := by
  rw [← State.hostJobs_eq, Bool.not_eq_true', ← Bool.not_eq_true, State.hostRoom_iff]
  omega

/-- The job that has just joined the pool under a fresh number. -/
theorem State.job_joined {t : State} {j : Job} (fresh : ∀ i ∈ s.pool, i.num ≠ j.num) (joined : t.pool = s.pool ++ [j]) :
    t.job j.num = some j := by
  have others : s.pool.find? (fun i => i.num == j.num) = none :=
    List.find?_eq_none.mpr fun i hi => by simpa using fresh i hi
  rw [State.job, joined, List.find?_append, others]
  simp

end Sys2Proof.Machine
end


section
/-! SUPPORT. Reading a job behind a change of the pool, the giving back of its reservations (R44), and the leaving of a job
without a group (R33, R47). -/

namespace Sys2Proof.Machine

variable {s : State} {n : Nat} {j : Job} {l : Loc}

/-! ## Job records -/

theorem State.num_of_job (h : s.job n = some j) : j.num = n := by
  simpa using List.find?_some h

theorem State.mem_of_job (h : s.job n = some j) : j ∈ s.pool := List.mem_of_find?_eq_some h

/-- A job behind a change of its own record. -/
theorem State.job_updJob (s : State) (n : Nat) {f : Job → Job} (keeps : ∀ i, (f i).num = i.num) :
    (s.updJob n f).job n = (s.job n).map f := by
  have same : (fun i : Job => i.num == n) ∘ (fun i => if i.num = n then f i else i) = fun i => i.num == n := by
    funext i
    simp only [Function.comp]
    split
    · rw [keeps]
    · rfl
  rw [State.job, State.updJob_pool, List.find?_map, same]
  cases found : s.pool.find? (fun i => i.num == n) with
  | none => simp [State.job, found]
  | some i => simp [State.job, found, State.num_of_job found]

/-- A record that is freed may have been changed before. -/
theorem State.freeJob_updJob (s : State) (n : Nat) {f : Job → Job} (keeps : ∀ i, (f i).num = i.num) :
    (s.updJob n f).freeJob n = s.freeJob n := by
  have same : (fun i : Job => i.num != n) ∘ (fun i => if i.num = n then f i else i) = fun i => i.num != n := by
    funext i
    simp only [Function.comp]
    split
    · rw [keeps]
    · rfl
  have others : ((s.updJob n f).pool.filter fun i => i.num != n) = s.pool.filter fun i => i.num != n := by
    rw [State.updJob_pool, List.filter_map, same]
    refine (List.map_congr_left fun i hi => if_neg ?_).trans (List.map_id _)
    simpa using (List.mem_filter.mp hi).2
  unfold State.freeJob
  rw [others]
  rfl

theorem State.freeJob_trigger (s : State) (n : Nat) : s.trigger.freeJob n = (s.freeJob n).trigger := by
  simp only [State.trigger_eq]
  rfl

theorem State.freeJob_occupy (s : State) (n : Nat) (l : Loc) (o : Occupancy) (p : Option Nat) :
    (s.freeJob n).occupy l o p = (s.occupy l o p).freeJob n := rfl

/-! ## Locations of reservations -/

theorem State.loc_occupy_in (s : State) {l m : Loc} (hl : l.inRanges) (hm : m.inRanges) (o : Occupancy) (p : Option Nat) :
    (s.occupy l o p).loc m = if m = l then { (s.loc m) with occ := o, pallet := p } else s.loc m := by
  simp only [State.loc_occupy_key, locKey_eq_iff hl hm]
  refine ite_congr rfl (fun same => ?_) fun _ => rfl
  rw [same]

/-- A change of occupancy that keeps the pallet id (R37, R40, R44). -/
theorem State.loc_occupy_keep (s : State) {l m : Loc} (hl : l.inRanges) (hm : m.inRanges) (o : Occupancy) :
    (s.occupy l o (s.loc l).pallet).loc m = if m = l then { (s.loc m) with occ := o } else s.loc m := by
  rw [s.loc_occupy_in hl hm]
  refine ite_congr rfl (fun same => ?_) fun _ => rfl
  rw [same]

/-- A change of occupancy in a state that owes no re-examination. -/
theorem State.occupy_quiet (h : s.quiet) (l : Loc) (o : Occupancy) (p : Option Nat) : s.occupy l o p =
    { s with
      locs := (s.occupy l o p).locs, work := { pairs := [locKey { l with depth := .front }], allBusy := false } } := by
  rw [State.occupy, State.touchPair_quiet (s := s.setLoc l _) h]
  rfl

/-! ## A station's record -/

/-- The stations behind a change of one. -/
theorem State.station_changed {t : Station} {st : Nat} (here : s.station st = some t) (f : Station → Station) (k : Nat) :
    tableGet k (tableMod st f s.stations) = if k = st then some (f t) else s.station k := by
  rw [tableGet_tableMod]
  refine ite_congr rfl (fun same => ?_) fun _ => rfl
  subst k
  exact congrArg (Option.map f) here

/-! ## Reservations given back (R44) -/

/-- A job record without its source reservation. -/
def Job.sourceFreed (j : Job) : Job := { j with srcRes := none }

/-- A job record without its destination reservation. -/
def Job.destFreed (j : Job) : Job := { j with dstRes := none }

theorem Job.sourceFreed_num (j : Job) : j.sourceFreed.num = j.num := rfl
theorem Job.destFreed_num (j : Job) : j.destFreed.num = j.num := rfl

theorem State.freeSource_reserved (found : s.job n = some j) (source : j.source = some l) (reserved : j.srcRes ≠ none) :
    s.freeSource n = (s.occupy l .full (s.loc l).pallet).updJob n Job.sourceFreed := by
  obtain rfl := State.num_of_job found
  exact State.freeSource_eq found source reserved

theorem State.freeSource_none (found : s.job n = some j) (free : j.srcRes = none) : s.freeSource n = s := by
  unfold State.freeSource
  rw [found]
  dsimp only
  rw [free]

theorem State.freeDest_none (found : s.job n = some j) (free : j.dstRes = none) : s.freeDest n = s := by
  unfold State.freeDest
  rw [found]
  dsimp only
  rw [free]

theorem State.freeDest_location {o : Origin} (found : s.job n = some j) (dest : j.dest = some l)
    (reserved : j.dstRes = some { kind := .location, origin := o }) : s.freeDest n =
      ((s.updJob n Job.destFreed).occupy l .empty none).trigger := by
  unfold State.freeDest
  rw [found]
  dsimp only
  rw [reserved, dest]
  rfl

/-! ## Leaving the pool (R33, R47) -/

/-- The next head of a queue becomes READY, and a pass is due in RUN. -/
theorem State.readyHead_eq (s : State) (queue : List Nat) : s.readyHead queue =
    { s with
      pool := s.pool.map (fun i => if queue.head? = some i.num then { i with state := .ready } else i)
      passDue := s.passDue || decide (queue ≠ [] ∧ s.mode.run = .run) } := by
  cases queue with
  | nil => simp [State.readyHead]
  | cons m rest =>
    rw [State.readyHead, State.trigger_eq]
    simp [State.updJob, eq_comm]

/-- A station whose queue closes up behind job `n` (R33). -/
def Station.closedUp (n : Nat) (t : Station) : Station := { t with queue := t.queue.filter (fun m => m != n) }

/-- A job as job `n` leaves the queue of station `t`: the next behind a leaving head is READY (R33). -/
def Station.movedUp (t : Station) (n : Nat) (i : Job) : Job :=
  if t.queue.head? = some n ∧ (t.closedUp n).queue.head? = some i.num then { i with state := .ready } else i

/-- A job that leaves its infeed queue, as one part of a leaving that is a trigger. -/
theorem State.trigger_leaveQueue {t : Station} {st : Nat} (here : s.station st = some t) (mem : n ∈ t.queue) :
    (s.leaveQueue st n).trigger = State.trigger { s with
      stations := tableMod st (Station.closedUp n) s.stations, pool := s.pool.map (t.movedUp n) } := by
  unfold State.leaveQueue
  rw [here]
  dsimp only
  rw [if_pos (List.contains_iff_mem.mpr mem)]
  split
  · rename_i head
    have moved : t.movedUp n = fun i =>
        if (t.closedUp n).queue.head? = some i.num then { i with state := .ready } else i :=
      funext fun i => by simp [Station.movedUp, head]
    change ((s.updStation st (Station.closedUp n)).readyHead (t.closedUp n).queue).trigger = _
    rw [moved, State.readyHead_eq, State.trigger_eq, State.trigger_eq]
    by_cases run : s.mode.run = .run <;> simp [run]
  · rename_i later
    have moved : t.movedUp n = id := funext fun i => if_neg fun h => later h.1
    rw [moved, List.map_id]
    rfl

/-- A job without a group leaves with its reservations, its record and its queue place (R47). -/
theorem State.leaveCore_single (found : s.job n = some j) (single : j.grouped = false) (o : JobEnd) :
    s.leaveCore n o =
      ((if j.kind = .store then ((((s.freeSource n).freeDest n).freeJob n).unlink n).leaveQueue j.station n
        else (((s.freeSource n).freeDest n).freeJob n).unlink n).reportMaybe (j.endReport o false)).trigger := by
  unfold State.leaveCore
  rw [found]
  simp [single, State.outOfSequence]

theorem Job.single_retrieve (group : j.group = 0) : j.grouped = false := by
  simp [Job.grouped, group]

theorem Job.single_other (kind : j.kind ≠ .retrieve) : j.grouped = false := by
  simp [Job.grouped, kind]

/-- A retrieve without a group and without a reservation leaves. -/
theorem State.leaveCore_free (found : s.job n = some j) (kind : j.kind = .retrieve) (group : j.group = 0)
    (src : j.srcRes = none) (dst : j.dstRes = none) (o : JobEnd) :
    s.leaveCore n o = (((s.freeJob n).unlink n).reportMaybe (j.endReport o false)).trigger := by
  rw [State.leaveCore_single found (Job.single_retrieve group), State.freeSource_none found src,
    State.freeDest_none found dst, if_neg (by simp [kind])]

/-- A retrieve without a group leaves, and its source returns to FULL. -/
theorem State.leaveCore_reserved (found : s.job n = some j) (kind : j.kind = .retrieve) (group : j.group = 0)
    (src : j.srcRes ≠ none) (source : j.source = some l) (dst : j.dstRes = none) (o : JobEnd) :
    s.leaveCore n o =
      ((((s.occupy l .full (s.loc l).pallet).freeJob n).unlink n).reportMaybe (j.endReport o false)).trigger := by
  have freed := State.freeSource_reserved found source src
  have after : (s.freeSource n).job n = some j.sourceFreed := by
    rw [freed, State.job_updJob _ n Job.sourceFreed_num, State.job_congr (State.occupy_pool ..), found]
    rfl
  rw [State.leaveCore_single found (Job.single_retrieve group), State.freeDest_none after dst, freed,
    State.freeJob_updJob _ n Job.sourceFreed_num, if_neg (by simp [kind])]

/-- A store with an explicit target leaves: its target is EMPTY and its queue closes up. -/
theorem State.leaveCore_store {t : Station} {o : Origin} (found : s.job n = some j) (kind : j.kind = .store)
    (src : j.srcRes = none) (dest : j.dest = some l) (dst : j.dstRes = some { kind := .location, origin := o })
    (here : s.station j.station = some t) (mem : n ∈ t.queue) :
    s.leaveCore n .cancelled = { s.occupy l .empty none with
      stations := tableMod j.station (Station.closedUp n) s.stations
      pool := ((s.freeJob n).unlink n).pool.map (t.movedUp n)
      passDue := s.passDue || decide (s.mode.run = .run) } := by
  have freed : (s.freeDest n).freeJob n = ((s.occupy l .empty none).freeJob n).trigger := by
    rw [State.freeDest_location found dest dst, State.freeJob_trigger, ← State.freeJob_occupy,
      State.freeJob_updJob _ n Job.destFreed_num, State.freeJob_occupy]
  have single : j.grouped = false := Job.single_other (by simp [kind])
  rw [State.leaveCore_single found single, State.freeSource_none found src, freed, if_pos kind]
  simp only [Job.endReport, State.reportMaybe]
  rw [State.trigger_leaveQueue (t := t) (by rw [State.trigger_eq]; exact here) mem]
  by_cases run : s.mode.run = .run <;> simp [State.trigger_eq, State.unlink, run]

end Sys2Proof.Machine
end

section
/-! SUPPORT. The readiness of a retrieve (R36, R37, R40). -/

namespace Sys2Proof.Machine

variable {s : State} {n : Nat} {j : Job} {l : Loc}

/-! ## Busy pairs and internal places -/

/-- A pair is busy where one of its depths is reserved (R19). -/
theorem State.pairBusy_iff (s : State) (l : Loc) : s.pairBusy l = true ↔ ∃ d ∈ [Depth.front, Depth.rear],
    (s.loc { l with depth := d }).occ = .inbound ∨ (s.loc { l with depth := d }).occ = .outbound := by
  simp [State.pairBusy, Occupancy.reserved_iff]

theorem State.internalJobs_eq (s : State) : s.internalJobs =
    (s.pool.filter (fun (i : Job) => i.kind == JobKind.relocate || i.kind == JobKind.recover)).length := by
  unfold State.internalJobs
  congr 2
  funext i
  cases i.kind <;> rfl

/-- No internal place or no admission number is left (R26, R27). -/
theorem State.internalFull_iff (s : State) : s.internalRoom = false ↔
    16 ≤ (s.pool.filter (fun (i : Job) => i.kind == JobKind.relocate || i.kind == JobKind.recover)).length ∨
      4294967295 < s.admNext := by
  rw [← State.internalJobs_eq, ← Bool.not_eq_true, State.internalRoom_iff]
  omega

/-! ## The outcomes of R37 -/

/-- A retrieve as it becomes READY (R37). -/
def Job.madeReady (j : Job) : Job := { j with srcRes := some .admission, state := .ready, linked := 0, delay := none }

/-- The source is OUTBOUND, its pair is to be re-examined, and a pass is due in RUN (R37). -/
theorem State.makeReady_eq (s : State) (n : Nat) (l : Loc) : s.makeReady n l =
    { s.occupy l .outbound (s.loc l).pallet with
      pool := s.pool.map (fun i => if i.num = n then i.madeReady else i)
      passDue := s.passDue || decide (s.mode.run = .run) } := by
  have pool : (s.makeReady n l).pool = s.pool.map (fun i => if i.num = n then i.madeReady else i) := by
    simp only [State.makeReady, State.trigger_pool, State.updJob_pool, State.reserveSource_pool, List.map_map]
    refine List.map_congr_left fun i _ => ?_
    by_cases num : i.num = n <;> simp [num, Job.madeReady]
  rw [← pool, State.makeReady, State.trigger_eq]
  rfl

/-- A retrieve as it waits for relocation `m` (R40). -/
def Job.relocating (m : Nat) (j : Job) : Job := { j with state := .waiting .relocating, linked := m, delay := none }

/-- The RELOCATE job stands behind all others, its FRONT is OUTBOUND, and it is reported (R40). -/
theorem State.createRelocation_eq {front : Loc} {m : Nat} (mem : j ∈ s.pool) (number : s.internalNumber = m)
    (fresh : ∀ i ∈ s.pool, i.num ≠ m) : s.createRelocation j front =
      { s.occupy front .outbound (s.loc front).pallet with
        pool := s.pool.map (fun i => if i.num = j.num then i.relocating m else i) ++
          [{ relocationJob m j.num j.cls ((s.loc front).pallet.getD 0) front with
             adm := s.admNext, srcRes := some .admission }]
        admNext := s.admNext + 1
        intNext := nextInternal m
        link := s.link.report
          (.jobCreated m .relocate ((s.loc front).pallet.getD 0) j.num 0 (some front) none 0)
        passDue := s.passDue || decide (s.mode.run = .run) } := by
  subst number
  have other : s.internalNumber ≠ j.num := (fresh j mem).symm
  have pool : (s.createRelocation j front).pool =
      s.pool.map (fun i => if i.num = j.num then i.relocating s.internalNumber else i) ++
        [{ relocationJob s.internalNumber j.num j.cls ((s.loc front).pallet.getD 0) front with
           adm := s.admNext, srcRes := some .admission }] := by
    simp only [State.createRelocation, State.setWaiting, State.updJob_pool, State.report_pool, State.trigger_pool,
      State.reserveSource_pool, State.enroll_pool, List.map_append, List.map_map]
    refine append_congr (List.map_congr_left fun i hi => ?_) ?_
    · simp [fresh i hi, Job.relocating]
    · simp [relocationJob, other]
  rw [← pool, State.createRelocation, State.trigger_eq]
  rfl

/-- A FRONT that is not reserved before a REAR source (R37 step 4). -/
theorem State.evaluateFront_eq (busy : s.pairBusy l ≠ true) : s.evaluateFront j l =
    let front : Loc := { l with depth := .front }
    if (s.loc front).occ = .unknown ∨ ((s.loc front).occ = .full ∧ (s.loc front).attrs.noRelocate = true) then
      s.setWaiting j.num .frontFixed 0
    else if (s.loc front).occ = .full ∧ s.internalRoom = false then s.setWaiting j.num .pairBusy 0
    else if (s.loc front).occ = .full then s.createRelocation j front
    else s.makeReady j.num l := by
  have reserved := mt (s.pairBusy_iff l).mpr busy
  unfold State.evaluateFront
  cases occ : (s.loc { l with depth := .front }).occ with
  | inbound | outbound => simp [occ] at reserved
  | empty | unknown => simp [occ]
  | full => cases (s.loc { l with depth := .front }).attrs.noRelocate <;> cases s.internalRoom <;> simp [occ]

theorem State.evaluate_at (found : s.job n = some j) (source : j.source = some l) : s.evaluate n = s.evaluateAt j l := by
  unfold State.evaluate
  rw [found]
  dsimp only
  rw [source]

/-- The order of R37 behind a relocation of the pallet. -/
theorem State.evaluate_eq (found : s.job n = some j) (source : j.source = some l)
    (none : s.relocationOf j.pallet = none) : s.evaluate n =
    let front : Loc := { l with depth := .front }
    if (s.loc l).occ ≠ .full ∨ (s.loc l).pallet ≠ some j.pallet then s.leaveCore j.num (.failed .conflict)
    else if (s.loc l).attrs.noRetrieve = true then s.setWaiting j.num .blockedOut 0
    else if s.pairBusy l = true then s.setWaiting j.num .pairBusy 0
    else if l.depth = .rear ∧ ((s.loc front).occ = .unknown ∨
        ((s.loc front).occ = .full ∧ (s.loc front).attrs.noRelocate = true)) then s.setWaiting j.num .frontFixed 0
    else if l.depth = .rear ∧ (s.loc front).occ = .full ∧ s.internalRoom = false then s.setWaiting j.num .pairBusy 0
    else if l.depth = .rear ∧ (s.loc front).occ = .full then s.createRelocation j front
    else s.makeReady j.num l := by
  rw [State.evaluate_at found source, State.evaluateAt, none]
  dsimp only
  refine ite_congr rfl (fun _ => rfl) fun _ => ite_congr rfl (fun _ => rfl) fun _ =>
    ite_congr rfl (fun _ => rfl) fun busy => ?_
  by_cases rear : l.depth = .rear
  · rw [if_pos rear, State.evaluateFront_eq busy]
    simp only [rear, true_and]
  · simp only [rear, false_and, if_false]

/-- Settles O26: each outcome of R37 by the lemma about it. -/
theorem readinessIsEvaluatedInOrder : Obligations.ReadinessIsEvaluatedInOrder := by
  intro s n j l found source inside front waits
  have expiry : s.waitsNotYet n = (j.state == .waiting .notYet) := by
    unfold State.waitsNotYet
    rw [found]
  obtain rfl := State.num_of_job found
  refine ⟨?_, fun r moving => ?_, fun none => ?_⟩
  · simp only [exec, execEarliestStartExpiry, expiry, beq_iff_eq]
  · simp only [waits, State.evaluate_at found source, State.evaluateAt, moving]
    rfl
  have evaluated := State.evaluate_eq found source none
  dsimp only at evaluated
  simp only [← s.internalFull_iff, ← s.pairBusy_iff]
  have waiting : ∀ {c : Prop} {r : WaitReason} {m : Nat}, c → s.evaluate j.num = s.setWaiting j.num r m → waits r m :=
    fun _ => id
  refine ite_of_eq evaluated (fun _ leaves => ⟨leaves, fun kind group src dst => ?_⟩) fun _ evaluated =>
    ite_of_eq evaluated waiting fun _ evaluated => ite_of_eq evaluated waiting fun _ evaluated =>
    ite_of_eq evaluated waiting fun _ evaluated => ite_of_eq evaluated waiting fun _ evaluated =>
    ite_of_eq evaluated (fun _ relocates m number fresh => ?_) fun _ ready => ?_
  · rw [leaves, State.leaveCore_free found kind group src dst, State.trigger_eq]
    simp only [Job.endReport, kind]
    rfl
  · rw [relocates, State.createRelocation_eq (State.mem_of_job found) number fresh]
    exact ⟨fun k hk => s.loc_occupy_keep (l := front) inside hk .outbound, rfl⟩
  · rw [ready, State.makeReady_eq]
    exact ⟨fun k hk => s.loc_occupy_keep inside hk .outbound, rfl⟩

end Sys2Proof.Machine
end

section
/-! SUPPORT. Re-examination (R38): rounds that take the retrieves concerned in pool order, until none is concerned. -/

namespace Sys2Proof.Machine

variable {s : State}

/-! ## A round of re-examination -/

/-- The retrieves that what an event has touched concerns, in pool order. -/
def State.concerned (s : State) : List Nat := (s.pool.filter s.work.concerns).map Job.num

/-- One round of re-examination: the retrieves concerned are evaluated, what was owed before them is done. -/
def State.round (s : State) : State := s.concerned.foldl State.reevaluate s.clearWork

theorem Work.isEmpty_iff (w : Work) : w.isEmpty = true ↔ w = { pairs := [], allBusy := false } := by
  obtain ⟨pairs, allBusy⟩ := w
  simp [Work.isEmpty]

theorem State.clearWork_quiet (h : s.quiet) : s.clearWork = s := by
  unfold State.clearWork
  rw [← h]

/-- Where nothing has been touched, no job is concerned. -/
theorem State.concerned_quiet (h : s.quiet) : s.concerned = [] := by
  have none_concerned : ∀ j ∈ s.pool, ¬ s.work.concerns j = true := fun j _ => by
    rw [h]
    cases hj : j.source <;> simp [Work.concerns, hj]
  rw [State.concerned, List.filter_eq_nil_iff.mpr none_concerned, List.map_nil]

theorem State.round_of_none (h : s.concerned = []) : s.round = s.clearWork := by
  rw [State.round, h, List.foldl_nil]

theorem State.reexamineRun_quiet (h : s.quiet) (n : Nat) : State.reexamineRun n s = s := by
  cases n with
  | zero => exact State.clearWork_quiet h
  | succ n => exact if_pos ((Work.isEmpty_iff _).mpr h)

/-- Each unit of the bound is a round; where nothing is owed, the round changes nothing. -/
theorem State.reexamineRun_succ (n : Nat) (s : State) : State.reexamineRun (n + 1) s = State.reexamineRun n s.round := by
  by_cases h : s.quiet
  · rw [State.round_of_none (State.concerned_quiet h), State.clearWork_quiet h, State.reexamineRun_quiet h,
      State.reexamineRun_quiet h]
  · exact if_neg (mt (Work.isEmpty_iff _).mp h)

/-- Rounds that concern no job end the event. -/
theorem State.reexamineRun_of_none (h : s.concerned = []) (n : Nat) : State.reexamineRun n s = s.clearWork := by
  cases n with
  | zero => rfl
  | succ n => rw [State.reexamineRun_succ, State.round_of_none h, State.reexamineRun_quiet rfl]

theorem State.reexamineRun_repeat (n rounds : Nat) (s : State) :
    State.reexamineRun (n + rounds) s = State.reexamineRun n (Nat.repeat State.round rounds s) := by
  induction rounds generalizing n with
  | zero => rfl
  | succ rounds ih =>
    rw [← Nat.add_assoc, Nat.add_right_comm, ih, State.reexamineRun_succ]
    rfl

/-! ## The rounds as R38 states them -/

theorem JobState.reexamined_eq (st : JobState) :
    st.reexamined = (st == .waiting .pairBusy || st == .waiting .frontFixed || st == .waiting .blockedOut) := by
  cases st with
  | waiting r => cases r <;> rfl
  | _ => rfl

theorem Work.concerns_eq (w : Work) (j : Job) : w.concerns j = (j.kind == .retrieve && j.state.reexamined &&
    ((w.allBusy && j.state == .waiting .pairBusy) ||
      j.source.any (fun l => w.pairs.contains (locKey { l with depth := .front })))) := by
  unfold Work.concerns
  cases j.source <;> rfl

theorem State.reevaluate_waits {n : Nat} (h : ∃ j, s.job n = some j ∧ j.state.reexamined = true) :
    s.reevaluate n = s.evaluate n := by
  obtain ⟨j, found, waits⟩ := h
  rw [State.reevaluate, found]
  exact if_pos waits

theorem State.reevaluate_other {n : Nat} (h : ¬ ∃ j, s.job n = some j ∧ j.state.reexamined = true) :
    s.reevaluate n = s := by
  unfold State.reevaluate
  cases found : s.job n with
  | none => rfl
  | some j => exact if_neg fun waits => h ⟨j, found, waits⟩

/-- Settles O27, by the rounds up to the first that concerns no job. -/
theorem reexaminationTakesTheWaitersOldestFirst : Obligations.ReexaminationTakesTheWaitersOldestFirst := by
  unfold Obligations.ReexaminationTakesTheWaitersOldestFirst
  intro waits concerned round s rounds bound ended
  have waitsEq : waits = JobState.reexamined := funext fun st => st.reexamined_eq.symm
  have concernedEq : concerned = State.concerned := funext fun s => by
    simp only [concerned, waitsEq, ← Work.concerns_eq]
    rfl
  have roundEq : round = State.round := funext fun s => by
    simp only [round, waitsEq, concernedEq]
    refine congrArg (fun f => s.concerned.foldl f s.clearWork) (funext₂ fun u n => ?_)
    split
    · exact (State.reevaluate_waits ‹_›).symm
    · exact (State.reevaluate_other ‹_›).symm
  rw [concernedEq, roundEq] at ended
  rw [roundEq]
  obtain ⟨rest, fuel⟩ := Nat.exists_eq_add_of_le' bound
  rw [State.finish, State.reexamine, fuel, State.reexamineRun_repeat, State.reexamineRun_of_none ended]
  rfl

end Sys2Proof.Machine
end

section
/-! SUPPORT. CANCEL (R43 to R45). -/

namespace Sys2Proof.Machine

variable {s : State} {tag n : Nat} {j : Job} {l : Loc}

/-! ## The checks of CANCEL (R43) -/

theorem JobKind.isHost_false_iff (k : JobKind) : k.isHost = false ↔ k = .relocate ∨ k = .recover := by
  cases k <;> simp [JobKind.isHost]

theorem JobState.waitCode_eq (st : JobState) : st.waitCode = match st with
    | .waiting r => r.code
    | _ => 0 := by
  cases st <;> rfl

/-- What a job's kind and state give a CANCEL (R43). -/
theorem Job.cancelResult_eq (j : Job) : j.cancelResult =
    if j.kind = .relocate ∨ j.kind = .recover then .notOwner
    else if j.state = .active ∨ j.state = .carried then .inProgress
    else if ∃ k ∈ [LegKind.fetch, LegKind.put, LegKind.move], j.state = .uncertain k then .jobUncertain
    else .ok := by
  unfold Job.cancelResult
  simp only [← JobKind.isHost_false_iff, Bool.not_eq_true']
  congr 1
  cases j.state with
  | uncertain k => cases k <;> simp
  | _ => simp

theorem runCancel_judged (run : s.mode.run ≠ .config) (number : n ≠ 0) (found : s.job n = some j) :
    runCancel tag n s = s.judgedData 0x22 tag j.cancelResult (fun s => s.cancelJob j)
      (fun _ => beBytes 1 j.state.code ++ beBytes 1 j.state.waitCode) := by
  unfold runCancel
  rw [s.notConfig_iff.mpr run, found]
  exact if_neg number

/-! ## The leaving of a cancelled job (R44, R47) -/

/-- A host job leaves with the effects of R47 alone. -/
theorem State.leave_host (found : s.job n = some j) (host : j.kind.isHost = true) (o : JobEnd) :
    s.leave n o = s.leaveCore n o := by
  unfold State.leave
  rw [found]
  exact if_pos host

theorem State.leave_cancelled_free (found : s.job n = some j) (kind : j.kind = .retrieve) (group : j.group = 0)
    (src : j.srcRes = none) (dst : j.dstRes = none) : s.leave n .cancelled =
      { s with pool := ((s.freeJob n).unlink n).pool, passDue := s.passDue || decide (s.mode.run = .run) } := by
  rw [State.leave_host found (by rw [kind]; rfl), State.leaveCore_free found kind group src dst, State.trigger_eq]
  rfl

theorem State.leave_cancelled_reserved (found : s.job n = some j) (kind : j.kind = .retrieve) (group : j.group = 0)
    (src : j.srcRes ≠ none) (source : j.source = some l) (dst : j.dstRes = none) : s.leave n .cancelled =
      { s.occupy l .full (s.loc l).pallet with
        pool := ((s.freeJob n).unlink n).pool, passDue := s.passDue || decide (s.mode.run = .run) } := by
  rw [State.leave_host found (by rw [kind]; rfl), State.leaveCore_reserved found kind group src source dst,
    State.trigger_eq]
  rfl

/-- Settles O28: the checks are read off `runCancel`, and each kind of leaving off the lemma about it. -/
theorem cancelWithdrawsTheJob : Obligations.CancelWithdrawsTheJob := by
  intro tag n s takes quiet refused unlinked
  have refusal : ∀ r, runCancel tag n s = s.conclude 0x22 tag r [] → refused r :=
    fun _ h => exec_refused rfl takes quiet h
  split
  · rename_i config
    exact refusal _ (by simp [runCancel, State.notConfig, config])
  rename_i run
  have notConfig := s.notConfig_iff.mpr run
  split
  · rename_i zero
    exact refusal _ (by simp [runCancel, notConfig, zero])
  rename_i number
  split
  · rename_i missing
    exact refusal _ (by simp [runCancel, notConfig, number, missing])
  rename_i j found
  intro taken
  have judged := runCancel_judged (tag := tag) run number found
  have refuses : ∀ {c : Prop} {r}, r ≠ .ok → c → j.cancelResult = r → refused r := fun no _ h =>
    refusal _ (judged.trans (by rw [h, State.judgedData_refused no]))
  refine ite_of_eq j.cancelResult_eq (refuses nofun) fun _ h => ite_of_eq h (refuses nofun) fun _ h =>
    ite_of_eq h (refuses nofun) fun _ ok => ?_
  rw [State.judgedData_ok ok, JobState.waitCode_eq] at judged
  have cancelled : taken (s.cancelJob j) := (exec_taken rfl takes).trans (congrArg _ judged)
  obtain rfl := State.num_of_job found
  split
  · rwa [State.cancelJob, if_pos ‹_›] at cancelled
  rw [State.cancelJob, if_neg ‹_›] at cancelled
  refine ⟨cancelled, State.leave_cancelled_free found, fun l kind group src source inside dst => ?_,
    fun l t kind dest inside dst src here mem => ?_⟩
  · rw [State.leave_cancelled_reserved found kind group src source dst]
    refine ⟨fun m hm => s.loc_occupy_keep inside hm .full, ?_⟩
    rw [State.occupy_quiet quiet]
    rfl
  · intro rest
    rw [State.leave_host found (by rw [kind]; rfl), State.leaveCore_store found kind src dest dst here mem]
    refine ⟨fun m hm => s.loc_occupy_in inside hm .empty none, State.station_changed here _, ?_⟩
    rw [State.occupy_quiet quiet]
    rfl

end Sys2Proof.Machine
end

section
/-! SUPPORT. The checks of STORE (R30). -/

namespace Sys2Proof.Machine

variable {s : State} {q : StoreFields} {t : Station} {l : Loc}

theorem filterOf_isSome_iff (f : FilterFields) : (filterOf f).isSome = true ↔ f.code ≤ 16383 ∧ f.mask ≤ 16383 := by
  unfold filterOf
  split <;> simp_all

theorem filterOf_some {f : FilterFields} (h : f.code ≤ 16383 ∧ f.mask ≤ 16383) :
    filterOf f = some { code := f.code, mask := f.mask } := if_pos h

theorem storeFieldsOk_iff (q : StoreFields) : storeFieldsOk q = true ↔
    1 ≤ q.job ∧ q.job ≤ 2147483647 ∧ 1 ≤ q.originator ∧ q.originator ≤ 7 ∧ q.pallet ≠ 0 ∧ q.height ≤ 3 ∧
      1 ≤ q.station ∧ q.station ≤ 16 ∧ q.form ≤ 1 := by
  simp [storeFieldsOk, hostNumber_iff, originatorOk_iff, and_assoc]

theorem State.storeTarget_eq (s : State) (q : StoreFields) : s.storeTarget q =
    if q.form = 0 then exceptResult (s.checkLoc q.target)
    else if q.zone.code ≤ 16383 ∧ q.zone.mask ≤ 16383 then .ok else .badField := by
  unfold State.storeTarget
  simp only [filterOf_isSome_iff]

theorem State.zone_fits (form : q.form ≠ 0) (ok : s.storeTarget q = .ok) : q.zone.code ≤ 16383 ∧ q.zone.mask ≤ 16383 := by
  by_contra misfit
  rw [State.storeTarget_eq, if_neg form, if_neg misfit] at ok
  cases ok

theorem LocRec.stands_iff (r : LocRec) (id : Nat) :
    r.stands id = true ↔ (r.occ = .full ∨ r.occ = .outbound) ∧ r.pallet = some id := by
  simp [LocRec.stands]

theorem State.craneHolds_load (s : State) (id : Nat) :
    s.craneHolds id = true ↔ ∃ k ∈ craneNumbers, (s.crane k).load.map Load.id = some id := by
  unfold State.craneHolds
  rw [List.any_eq_true]
  refine exists_congr fun k => and_congr_right fun _ => ?_
  cases (s.crane k).load <;> simp

/-- A pallet stands in the rack, on a crane, or in a STORE job (R30 check 5). -/
theorem State.storePalletHeld_iff (s : State) (id : Nat) : s.storePalletHeld id = true ↔
    (∃ e ∈ s.locs, (e.2.occ = .full ∨ e.2.occ = .outbound) ∧ e.2.pallet = some id) ∨
      (∃ k ∈ craneNumbers, (s.crane k).load.map Load.id = some id) ∨ (∃ j ∈ s.pool, j.kind = .store ∧ j.pallet = id) := by
  simp only [State.storePalletHeld, Bool.or_eq_true, State.craneHolds_load, List.any_eq_true, LocRec.stands_iff,
    Bool.and_eq_true, beq_iff_eq, or_assoc]

/-- The checks of STORE before those of its station (R30). -/
theorem State.checkStore_eq (s : State) (q : StoreFields) : s.checkStore q =
    if s.mode.run = .config then .wrongMode
    else if ¬ (1 ≤ q.job ∧ q.job ≤ 2147483647 ∧ 1 ≤ q.originator ∧ q.originator ≤ 7 ∧ q.pallet ≠ 0 ∧ q.height ≤ 3 ∧
        1 ≤ q.station ∧ q.station ≤ 16 ∧ q.form ≤ 1) then .badField
    else if s.storeTarget q ≠ .ok then s.storeTarget q
    else if ∃ j ∈ s.pool, j.num = q.job then .duplicateJob
    else if 496 ≤ (s.pool.filter (fun (j : Job) => j.kind == JobKind.store || j.kind == JobKind.retrieve)).length ∨
        4294967295 < s.admNext then .poolFull
    else if (∃ e ∈ s.locs, (e.2.occ = .full ∨ e.2.occ = .outbound) ∧ e.2.pallet = some q.pallet) ∨
        (∃ k ∈ craneNumbers, (s.crane k).load.map Load.id = some q.pallet) ∨
        (∃ j ∈ s.pool, j.kind = .store ∧ j.pallet = q.pallet) then .duplicatePallet
    else s.checkStoreStation q := by
  have fields := not_congr (storeFieldsOk_iff q)
  rw [Bool.not_eq_true, ← Bool.not_eq_true'] at fields
  exact firstFail_orElse s.notConfig_false_iff (fun _ => nofun) <| firstFail_orElse fields (fun _ => nofun) <|
    firstFail_orElse bne_iff_ne id <| firstFail_orElse (s.job_isSome_iff q.job) (fun _ => nofun) <|
    firstFail_orElse s.hostFull_iff (fun _ => nofun) <|
    firstFail_orElse (s.storePalletHeld_iff q.pallet) (fun _ => nofun) rfl

/-- The checks of a STORE's infeed (R30). -/
theorem State.checkStoreStation_at (here : s.station q.station = some t) : s.checkStoreStation q =
    if t.kind = .outfeed then .badField else if t.capacity ≤ t.queue.length then .infeedFull else s.checkTarget q t := by
  unfold State.checkStoreStation
  rw [here]

/-- The explicit target of a STORE is usable (R30 check 8). -/
theorem State.targetFree_iff (s : State) (t : Station) (l : Loc) (height : Nat) : s.targetFree t l height = true ↔
    l.aisle = t.aisle ∧ (s.loc l).occ = .empty ∧ (s.loc l).attrs.noStore = false ∧ height ≤ (s.loc l).height ∧
      (∀ d ∈ [Depth.front, Depth.rear],
        (s.loc { l with depth := d }).occ ≠ .inbound ∧ (s.loc { l with depth := d }).occ ≠ .outbound) ∧
      (l.depth = .rear → (s.loc { l with depth := .front }).occ = .empty) := by
  have front : l.depth = .front ↔ l.depth ≠ .rear := by cases l.depth <;> simp
  have free : s.pairBusy l = false ↔ ∀ d ∈ [Depth.front, Depth.rear],
      (s.loc { l with depth := d }).occ ≠ .inbound ∧ (s.loc { l with depth := d }).occ ≠ .outbound := by
    rw [← Bool.not_eq_true, State.pairBusy_iff]
    simp only [not_exists, not_and, not_or]
  simp only [State.targetFree, Bool.and_eq_true, Bool.or_eq_true, Bool.not_eq_true', beq_iff_eq, decide_eq_true_eq, free,
    front, ← imp_iff_not_or, and_assoc]

theorem State.inReach_iff (s : State) (k : Nat) (l : Loc) :
    s.inReach k l = true ↔ ∃ r, (s.crane k).reach = some r ∧ r.hits (locCode l) = true := by
  unfold State.inReach
  cases (s.crane k).reach <;> simp

/-- The serving crane of a station reaches a location (R30 check 8). -/
theorem State.servedReach_iff (s : State) (t : Station) (l : Loc) : s.servedReach t l = true ↔
    ∃ k r, s.servingCrane t = some k ∧ (s.crane k).reach = some r ∧ r.hits (locCode l) = true := by
  unfold State.servedReach
  cases s.servingCrane t <;> simp [State.inReach_iff]

theorem State.checkTarget_named (form : q.form = 0) (found : s.checkLoc q.target = .ok l) : s.checkTarget q t =
    if ¬ s.targetFree t l q.height = true then .locationUnavailable
    else if s.servedReach t l = true then .ok else .noReach := by
  unfold State.checkTarget
  rw [if_pos form, found]
  simp

/-- Some location of the aisle and of a filter is in the reach of the station's crane (R30 check 9). -/
def State.zoneReached (s : State) (t : Station) (f : Filter) : Bool :=
  (s.aisleLocs t.aisle).any (fun l => f.hits (locCode l) && s.servedReach t l)

theorem State.zoneReached_iff (s : State) (t : Station) (f : Filter) : s.zoneReached t f = true ↔
    ∃ a l, s.aisle t.aisle = some a ∧ l ∈ a.allLocs t.aisle ∧ f.hits (locCode l) = true ∧ s.servedReach t l = true := by
  unfold State.zoneReached State.aisleLocs
  cases s.aisle t.aisle <;> simp

theorem State.checkTarget_zone (form : q.form ≠ 0) (ok : q.zone.code ≤ 16383 ∧ q.zone.mask ≤ 16383) :
    s.checkTarget q t =
      if s.zoneReached t { code := q.zone.code, mask := q.zone.mask } = true then .ok else .noReach := by
  unfold State.checkTarget
  rw [if_neg form, filterOf_some ok]
  rfl


end Sys2Proof.Machine
end

section
/-! SUPPORT. STORE (R31). -/

namespace Sys2Proof.Machine

variable {s : State} {q : StoreFields} {t : Station} {l : Loc}

/-! ## The effects of STORE -/

theorem State.queueEmpty_eq {n : Nat} (here : s.station n = some t) : s.queueEmpty n = decide (t.queue = []) := by
  unfold State.queueEmpty
  rw [here]
  cases queue : t.queue <;> simp [queue]

/-- A pass is due in RUN where the condition holds. -/
theorem State.triggerIf_eq (s : State) (c : Prop) [Decidable c] : (if decide c = true then s.trigger else s) =
    { s with passDue := s.passDue || decide (c ∧ s.mode.run = .run) } := by
  rw [State.trigger_eq]
  by_cases h : c <;> simp [h]

/-- The record of a STORE as it joins the pool at station `t` (R31). -/
def State.storeRecord (s : State) (q : StoreFields) (t : Station) (target : Option Loc) : Job :=
  { storeJob q (decide (t.queue = [])) with
    adm := s.admNext, dest := target, dstRes := target.map (fun _ => { kind := .location, origin := .admission }) }

/-- A station with job `n` at the tail of its queue (R31). -/
def Station.joined (n : Nat) (t : Station) : Station := { t with queue := t.queue ++ [n] }

theorem State.applyStore_named (here : s.station q.station = some t) (fresh : ∀ i ∈ s.pool, i.num ≠ q.job)
    (form : q.form = 0) (found : s.checkLoc q.target = .ok l) : s.applyStore q =
      { s.occupy l .inbound (some q.pallet) with
        pool := s.pool ++ [s.storeRecord q t (some l)]
        admNext := s.admNext + 1
        stations := tableMod q.station (Station.joined q.job) s.stations
        passDue := s.passDue || decide (t.queue = [] ∧ s.mode.run = .run) } := by
  have target : (s.enroll (storeJob q (decide (t.queue = [])))).reserveTarget q =
      (s.enroll (storeJob q (decide (t.queue = [])))).reserveDest q.job l q.pallet .admission := by
    have found' : (s.enroll (storeJob q (decide (t.queue = [])))).checkLoc q.target = .ok l := found
    rw [State.reserveTarget, if_pos form, found']
  have pool : ((s.enroll (storeJob q (decide (t.queue = [])))).reserveDest q.job l q.pallet .admission).pool =
      s.pool ++ [s.storeRecord q t (some l)] := by
    simp only [State.reserveDest_pool, State.updJob_pool, State.enroll_pool, List.map_append]
    exact append_congr ((List.map_congr_left fun i hi => if_neg (fresh i hi)).trans (List.map_id _))
      (by simp [State.storeRecord, storeJob])
  unfold State.applyStore
  dsimp only
  rw [State.queueEmpty_eq here, State.triggerIf_eq, target, ← pool]
  rfl

theorem State.applyStore_zone (here : s.station q.station = some t) (form : q.form ≠ 0) : s.applyStore q =
      { s with
        pool := s.pool ++ [s.storeRecord q t none]
        admNext := s.admNext + 1
        stations := tableMod q.station (Station.joined q.job) s.stations
        passDue := s.passDue || decide (t.queue = [] ∧ s.mode.run = .run) } := by
  unfold State.applyStore
  dsimp only
  rw [State.queueEmpty_eq here, State.triggerIf_eq, State.reserveTarget, if_neg form]
  rfl

/-- The reply of a STORE that has joined the pool at a fresh number (R31, R186). -/
theorem State.admissionData_store {u : State} {target : Option Loc} (fresh : ∀ i ∈ s.pool, i.num ≠ q.job)
    (joined : u.pool = s.pool ++ [s.storeRecord q t target]) : u.admissionData q.job =
      beBytes 4 s.admNext ++ beBytes 1 (if t.queue = [] then 2 else 1) ++ beBytes 1 (if t.queue = [] then 0 else 2) := by
  have found : u.job q.job = some (s.storeRecord q t target) := State.job_joined fresh joined
  unfold State.admissionData
  rw [found]
  by_cases empty : t.queue = [] <;>
    simp [State.storeRecord, storeJob, empty, JobState.code, JobState.waitCode, WaitReason.code]

/-- Settles O24: the checks one by one, then a STORE with an explicit target and one with a zone. -/
theorem storeIsCheckedThenQueued : Obligations.StoreIsCheckedThenQueued := by
  intro tag q s takes quiet refused address
  have target : address = s.storeTarget q := (s.storeTarget_eq q).symm
  clear_value address
  subst target
  have refuses : ∀ {c : Prop} {r}, r ≠ .ok → c → s.checkStore q = r → refused r := fun no _ h =>
    exec_refused rfl takes quiet (by rw [runRequest, runStore, h, State.judgedData_refused no])
  refine ite_of_eq (s.checkStore_eq q) (refuses nofun) fun _ h => ite_of_eq h (refuses nofun) fun _ h =>
    ite_of_eq h (fun bad => refuses bad bad) fun addressed h => ite_of_eq h (refuses nofun) fun fresh h =>
    ite_of_eq h (refuses nofun) fun _ h => ite_of_eq h (refuses nofun) fun _ h => ?_
  have alone : ∀ i ∈ s.pool, i.num ≠ q.job := fun i hi same => fresh ⟨i, hi, same⟩
  split
  · rename_i missing
    exact refuses nofun missing (h.trans (by rw [State.checkStoreStation, missing]))
  rename_i t here
  rw [State.checkStoreStation_at here] at h
  refine ite_of_eq h (refuses nofun) fun _ h => ite_of_eq h (refuses nofun) fun _ h => ?_
  intro reached taken
  have reachable : ∀ l, reached l ↔ s.servedReach t l = true := fun l => (s.servedReach_iff t l).symm
  have accepted : ∀ {target}, s.checkStore q = .ok → (s.applyStore q).pool = s.pool ++ [s.storeRecord q t target] →
      exec (.store tag q) s = .next ((s.applyStore q).conclude 0x20 tag .ok (beBytes 4 s.admNext ++
        beBytes 1 (if t.queue = [] then 2 else 1) ++ beBytes 1 (if t.queue = [] then 0 else 2))) := fun ok joined => by
    rw [exec_taken rfl takes, runRequest, runStore, State.judgedData_ok ok, State.admissionData_store alone joined]
  refine ⟨fun l form found inside => ?_, fun form => ?_⟩
  · rw [State.checkTarget_named form found] at h
    refine ite_of_iff (not_congr (s.targetFree_iff t l q.height).symm) h (refuses nofun) fun _ h =>
      ⟨fun no => ?_, fun yes => ?_⟩
    · exact refuses nofun no (h.trans (if_neg (mt (reachable l).mpr no)))
    · have ok := h.trans (if_pos ((reachable l).mp yes))
      have stored := State.applyStore_named here alone form found
      refine ⟨s.applyStore q, accepted ok (by rw [stored]), ?_⟩
      rw [stored]
      refine ⟨State.station_changed here (Station.joined q.job), fun m hm => ?_, ?_⟩
      · exact (s.loc_occupy_in inside hm .inbound (some q.pallet)).trans (if_congr (by simp [eq_comm]) rfl rfl)
      · rw [State.occupy_quiet quiet]
        simp only [State.storeRecord, storeJob, decide_eq_true_eq, form]
        rfl
  · have fits := State.zone_fits form (not_not.mp addressed)
    rw [State.checkTarget_zone form fits] at h
    intro common
    have commonly : common ↔ s.zoneReached t { code := q.zone.code, mask := q.zone.mask } = true := by
      simp only [common, reachable, State.zoneReached_iff]
    refine ⟨fun no => ?_, fun yes => ?_⟩
    · exact refuses nofun no (h.trans (if_neg (mt commonly.mpr no)))
    · have ok := h.trans (if_pos (commonly.mp yes))
      have stored := State.applyStore_zone here form
      refine ⟨s.applyStore q, accepted ok (by rw [stored]), ?_⟩
      rw [stored]
      refine ⟨State.station_changed here (Station.joined q.job), fun m hm => rfl, ?_⟩
      simp only [State.storeRecord, storeJob, decide_eq_true_eq, form, filterOf_some fits, quiet]
      rfl

end Sys2Proof.Machine
end

section
/-! SUPPORT. The checks of RETRIEVE (R34). -/

namespace Sys2Proof.Machine

variable {s : State} {q : RetrieveFields} {l : Loc}

/-! ## Where a pallet stands (R8) -/

theorem State.findPallet_none (s : State) (id : Nat) : s.findPallet id = none ↔
    ∀ e ∈ s.locs, ¬ ((e.2.occ = .full ∨ e.2.occ = .outbound) ∧ e.2.pallet = some id) := by
  simp only [State.findPallet, Option.map_eq_none_iff, List.find?_eq_none, LocRec.stands_iff]

theorem State.findPallet_some {id : Nat} (h : s.findPallet id = some l) :
    ∃ e ∈ s.locs, keyLoc e.1 = l ∧ (e.2.occ = .full ∨ e.2.occ = .outbound) ∧ e.2.pallet = some id := by
  obtain ⟨e, found, place⟩ := Option.map_eq_some_iff.mp h
  have stands := List.find?_some (p := fun e : Nat × LocRec => e.2.stands id) found
  exact ⟨e, List.mem_of_find?_eq_some found, place, (LocRec.stands_iff _ _).mp stands⟩

/-! ## The checks before the source -/

theorem retrieveFieldsOk_iff (q : RetrieveFields) : retrieveFieldsOk q = true ↔
    1 ≤ q.job ∧ q.job ≤ 2147483647 ∧ 1 ≤ q.originator ∧ q.originator ≤ 7 ∧ q.form ≤ 1 ∧
      (q.form = 0 → q.pallet ≠ 0) ∧ q.station ≤ 16 ∧ q.delay ≤ 65535 ∧ q.group ≤ 65535 ∧
      (q.group ≠ 0 → 1 ≤ q.position ∧ q.position ≤ 255) := by
  have pallet : (!(q.form == 0 && q.pallet == 0)) = true ↔ (q.form = 0 → q.pallet ≠ 0) := by
    simp [imp_iff_not_or]
  have position : (!(q.group != 0 && (q.position == 0 || decide (255 < q.position)))) = true ↔
      (q.group ≠ 0 → 1 ≤ q.position ∧ q.position ≤ 255) := by
    simp [imp_iff_not_or, Nat.one_le_iff_ne_zero]
  simp only [retrieveFieldsOk, Bool.and_eq_true, hostNumber_iff, originatorOk_iff, decide_eq_true_eq, pallet, position,
    and_assoc]

/-- The checks of RETRIEVE before those of its source (R34). -/
theorem State.checkRetrieve_eq (s : State) (q : RetrieveFields) : s.checkRetrieve q =
    if s.mode.run = .config then .wrongMode
    else if ¬ (1 ≤ q.job ∧ q.job ≤ 2147483647 ∧ 1 ≤ q.originator ∧ q.originator ≤ 7 ∧ q.form ≤ 1 ∧
        (q.form = 0 → q.pallet ≠ 0) ∧ q.station ≤ 16 ∧ q.delay ≤ 65535 ∧ q.group ≤ 65535 ∧
        (q.group ≠ 0 → 1 ≤ q.position ∧ q.position ≤ 255)) then .badField
    else if s.retrieveAddress q ≠ .ok then s.retrieveAddress q
    else if ∃ j ∈ s.pool, j.num = q.job then .duplicateJob
    else if 496 ≤ (s.pool.filter (fun (j : Job) => j.kind == JobKind.store || j.kind == JobKind.retrieve)).length ∨
        4294967295 < s.admNext then .poolFull
    else s.checkRetrieveSource q := by
  have fields := not_congr (retrieveFieldsOk_iff q)
  rw [Bool.not_eq_true, ← Bool.not_eq_true'] at fields
  exact firstFail_orElse s.notConfig_false_iff (fun _ => nofun) <| firstFail_orElse fields (fun _ => nofun) <|
    firstFail_orElse bne_iff_ne id <| firstFail_orElse (s.job_isSome_iff q.job) (fun _ => nofun) <|
    firstFail_orElse s.hostFull_iff (fun _ => nofun) rfl

/-! ## The source and the checks on it -/

/-- The location that a RETRIEVE names, by itself or by its pallet. -/
def State.names (s : State) (q : RetrieveFields) (l : Loc) : Prop :=
  (q.form = 1 ∧ s.checkLoc q.location = .ok l) ∨ (q.form = 0 ∧ s.findPallet q.pallet = some l)

theorem State.retrieveSource_missing (form : q.form = 0) (missing : s.findPallet q.pallet = none) :
    s.retrieveSource q = .error .unknownPallet := by
  unfold State.retrieveSource
  rw [if_neg (by omega), missing]

theorem State.retrieveSource_eq (named : s.names q l) : s.retrieveSource q =
    if (s.loc l).occ = .outbound then .error .duplicatePallet
    else if q.form = 1 ∧ (s.loc l).occ ≠ .full then .error .locationUnavailable else .ok l := by
  unfold State.retrieveSource
  obtain ⟨form, found⟩ | ⟨form, found⟩ := named
  · rw [if_pos form, found]
    cases occ : (s.loc l).occ <;> simp [occ, form]
  · rw [if_neg (by omega), found]
    simp [form]

theorem State.retrieveNames_iff (s : State) (id : Nat) :
    s.retrieveNames id = true ↔ ∃ j ∈ s.pool, j.kind = .retrieve ∧ j.pallet = id := by
  simp [State.retrieveNames]

/-- The job may go to any outfeed, or names one of its source's aisle (R34 check 6). -/
theorem State.outfeedFits_iff (s : State) (station aisle : Nat) : s.outfeedFits station aisle = true ↔
    station = 0 ∨ ∃ t, s.station station = some t ∧ t.kind = .outfeed ∧ t.aisle = aisle := by
  unfold State.outfeedFits
  cases s.station station <;> simp

theorem State.checkGroup_at {gid p : Nat} {g : Group} (grouped : gid ≠ 0) (here : s.group gid = some g) :
    s.checkGroup gid p =
      if g.status = .closing then .groupClosing
      else if p < g.d then .stalePosition
      else if tableGet p g.held ≠ none ∨ p ∈ g.settled then .duplicatePosition else .ok := by
  unfold State.checkGroup
  rw [if_neg grouped, here]
  simp [firstFail, Option.isSome_iff_ne_none]

/-- A crane of the aisle reaches the source and serves an outfeed that the job may use (R34 check 8). -/
theorem State.retrieveReach_iff (s : State) (l : Loc) (station : Nat) : s.retrieveReach l station = true ↔
    ∃ k r, (s.crane k).inAisle l.aisle = true ∧ (s.crane k).reach = some r ∧ r.hits (locCode l) = true ∧
      ∃ e ∈ s.stations, (station = 0 ∨ e.1 = station) ∧ e.2.kind = .outfeed ∧ e.2.aisle = l.aisle ∧ s.serves k e.2 = true := by
  have numbered : ∀ k, (s.crane k).inAisle l.aisle = true → k ∈ craneNumbers := fun k inAisle => by
    have configured : (s.crane k).configured = true := by
      unfold Crane.inAisle at inAisle
      cases cfg : (s.crane k).cfg <;> simp_all [Crane.configured]
    have range := State.crane_number configured
    simp [craneNumbers]
    omega
  simp only [State.retrieveReach, List.any_eq_true, Bool.and_eq_true, Bool.or_eq_true, beq_iff_eq, State.inReach_iff,
    and_assoc]
  constructor
  · rintro ⟨k, -, inAisle, ⟨r, reach⟩, e, he, serves⟩
    exact ⟨k, r, inAisle, reach.1, reach.2, e, he, serves⟩
  · rintro ⟨k, r, inAisle, reach, hits, e, he, serves⟩
    exact ⟨k, numbered k inAisle, inAisle, ⟨r, reach, hits⟩, e, he, serves⟩

theorem Result.orElse_ok_right (r : Result) : r.orElse .ok = r := by
  unfold Result.orElse
  split
  · exact Eq.symm ‹_›
  · rfl

/-- The checks of RETRIEVE on its source (R34 checks 5 to 8). -/
theorem State.checkRetrieveSource_eq (named : s.names q l) : s.checkRetrieveSource q =
    if (s.loc l).occ = .outbound then .duplicatePallet
    else if q.form = 1 ∧ (s.loc l).occ ≠ .full then .locationUnavailable
    else if ∃ j ∈ s.pool, j.kind = .retrieve ∧ j.pallet = (s.loc l).pallet.getD 0 then .duplicatePallet
    else if ¬ s.outfeedFits q.station l.aisle = true then .badField
    else if s.checkGroup q.group q.position ≠ .ok then s.checkGroup q.group q.position
    else if ¬ s.retrieveReach l q.station = true then .noReach else .ok := by
  have negated : ∀ {b : Bool}, (!b) = true ↔ ¬ b = true := fun {b} => by simp
  unfold State.checkRetrieveSource
  rw [State.retrieveSource_eq named]
  by_cases outbound : (s.loc l).occ = .outbound
  · rw [if_pos outbound, if_pos outbound]
  rw [if_neg outbound, if_neg outbound]
  by_cases unfit : q.form = 1 ∧ (s.loc l).occ ≠ .full
  · rw [if_pos unfit, if_pos unfit]
  rw [if_neg unfit, if_neg unfit]
  dsimp only
  refine (Result.orElse_ok_right _).symm.trans ?_
  exact firstFail_orElse (s.retrieveNames_iff _) (fun _ => nofun) <| firstFail_orElse negated (fun _ => nofun) <|
    firstFail_orElse bne_iff_ne id <| firstFail_orElse negated (fun _ => nofun) rfl

end Sys2Proof.Machine
end

section
/-! SUPPORT. RETRIEVE (R35). -/

namespace Sys2Proof.Machine

variable {s : State} {q : RetrieveFields} {l : Loc}

/-! ## The effects of RETRIEVE -/

/-- The record of a RETRIEVE as it joins the pool (R35). -/
def State.retrieveRecord (s : State) (q : RetrieveFields) (l : Loc) : Job :=
  { retrieveJob q l ((s.loc l).pallet.getD 0) with adm := s.admNext }

/-- The state in which a RETRIEVE has joined the pool and its group, before its readiness is evaluated (R35). -/
def State.admitRetrieve (s : State) (q : RetrieveFields) (l : Loc) : State :=
  if q.group = 0 then s.enroll (retrieveJob q l ((s.loc l).pallet.getD 0))
  else (s.enroll (retrieveJob q l ((s.loc l).pallet.getD 0))).enterGroup q.group q.position q.job

theorem State.applyRetrieve_eq (source : s.retrieveSource q = .ok l) : s.applyRetrieve q =
    if q.delay = 0 then (s.admitRetrieve q l).evaluate q.job else s.admitRetrieve q l := by
  unfold State.applyRetrieve
  rw [source]
  rfl

theorem State.enterGroup_eq (s : State) (gid p n : Nat) :
    s.enterGroup gid p n = { s with groups := (s.enterGroup gid p n).groups } := by
  unfold State.enterGroup
  split <;> rfl

/-- The position of a group is held by the job (R142). -/
theorem State.group_enterGroup (s : State) (gid p n k : Nat) : (s.enterGroup gid p n).group k =
    if k = gid then (s.group k).map (fun g => { g with held := tablePut p n g.held }) else s.group k := by
  cases here : s.group gid with
  | none =>
    simp only [State.enterGroup, here]
    split
    · rename_i same
      rw [same, here]
      rfl
    · rfl
  | some g =>
    simp only [State.enterGroup, here]
    split
    · rename_i same
      rw [same, here]
      exact tableGet_tablePut _ _ _
    · exact tableGet_tablePut_other ‹_› _ _

theorem State.admitRetrieve_eq (s : State) (q : RetrieveFields) (l : Loc) : s.admitRetrieve q l =
    { s with
      pool := s.pool ++ [s.retrieveRecord q l], admNext := s.admNext + 1, groups := (s.admitRetrieve q l).groups } := by
  unfold State.admitRetrieve
  split
  · rfl
  · rw [State.enterGroup_eq]
    rfl

theorem State.group_admitRetrieve (s : State) (q : RetrieveFields) (l : Loc) (n : Nat) :
    (s.admitRetrieve q l).group n = if n = q.group ∧ n ≠ 0 then
      (s.group n).map (fun g => { g with held := tablePut q.position q.job g.held }) else s.group n := by
  unfold State.admitRetrieve
  split
  · rename_i single
    rw [if_neg (by omega)]
    rfl
  · rename_i grouped
    refine (State.group_enterGroup _ _ _ _ n).trans (if_congr ?_ rfl rfl)
    omega

/-- The reply of a RETRIEVE that waits for its earliest start (R35, R186). -/
theorem State.admissionData_retrieve (fresh : ∀ i ∈ s.pool, i.num ≠ q.job) (delayed : q.delay ≠ 0) :
    (s.admitRetrieve q l).admissionData q.job = beBytes 4 s.admNext ++ beBytes 1 1 ++ beBytes 1 1 := by
  have found : (s.admitRetrieve q l).job q.job = some (s.retrieveRecord q l) :=
    State.job_joined (s := s) fresh (congrArg State.pool (s.admitRetrieve_eq q l))
  unfold State.admissionData
  rw [found]
  simp [State.retrieveRecord, retrieveJob, delayed, JobState.code, JobState.waitCode, WaitReason.code]

/-- Settles O25: the checks one by one, those on the source as they follow from the location it names. -/
theorem retrieveIsCheckedThenAdmitted : Obligations.RetrieveIsCheckedThenAdmitted := by
  intro tag q s takes quiet refused address
  refine ⟨s.findPallet_none, fun id l => State.findPallet_some, ?_⟩
  have refuses : ∀ {c : Prop} {r}, r ≠ .ok → c → s.checkRetrieve q = r → refused r := fun no _ h =>
    exec_refused rfl takes quiet (by rw [runRequest, runRetrieve, h, State.judgedData_refused no])
  refine ite_of_eq (s.checkRetrieve_eq q) (refuses nofun) fun _ h => ite_of_eq h (refuses nofun) fun _ h =>
    ite_of_eq h (fun bad => refuses bad bad) fun _ h => ite_of_eq h (refuses nofun) fun fresh h =>
    ite_of_eq h (refuses nofun) fun _ h => ⟨fun form missing => ?_, fun l named => ?_⟩
  · exact refuses nofun missing (h.trans (by rw [State.checkRetrieveSource, State.retrieveSource_missing form missing]))
  have alone : ∀ i ∈ s.pool, i.num ≠ q.job := fun i hi same => fresh ⟨i, hi, same⟩
  have source := State.retrieveSource_eq named
  rw [State.checkRetrieveSource_eq named] at h
  intro p
  refine ite_of_eq h (refuses nofun) fun inside h => ite_of_eq h (refuses nofun) fun fit h =>
    ite_of_eq h (refuses nofun) fun _ h => ?_
  rw [if_neg inside, if_neg fit] at source
  intro outfeed group reach
  have outfeeds : outfeed ↔ s.outfeedFits q.station l.aisle = true := (s.outfeedFits_iff _ _).symm
  have reaches : reach ↔ s.retrieveReach l q.station = true := (s.retrieveReach_iff _ _).symm
  have groups : group = s.checkGroup q.group q.position := by
    by_cases single : q.group = 0
    · simp [group, State.checkGroup, single]
    cases here : s.group q.group with
    | none => simp [group, State.checkGroup, single, here]
    | some g => simp [group, State.checkGroup_at single here, single, here]
  rw [← groups] at h
  refine ⟨fun unfit => ?_, fun fits bad => ?_, fun fits ok far => ?_, fun fits ok near =>
    ⟨s.admitRetrieve q l, ?_, s.group_admitRetrieve q l, ?_⟩⟩
  · exact refuses nofun unfit (h.trans (if_pos (mt outfeeds.mpr unfit)))
  all_goals rw [if_neg (not_not.mpr (outfeeds.mp fits))] at h
  · exact refuses bad bad (h.trans (if_pos bad))
  all_goals rw [if_neg (not_not.mpr ok)] at h
  · exact refuses nofun far (h.trans (if_pos (mt reaches.mpr far)))
  · rw [if_neg (not_not.mpr (reaches.mp near))] at h
    rw [exec_taken rfl takes, runRequest, runRetrieve, State.judgedData_ok h, State.applyRetrieve_eq source]
    split
    · rfl
    · rw [State.admissionData_retrieve alone ‹_›]
  · have stationNamed : (q.station != 0) = decide (q.station ≠ 0) := by
      rw [Bool.eq_iff_iff]
      simp
    refine (s.admitRetrieve_eq q l).trans ?_
    simp only [State.retrieveRecord, retrieveJob, stationNamed]
    rfl

end Sys2Proof.Machine
end

section
/-! SUPPORT. Axis times and move times (R52, R54). -/

namespace Sys2Proof.Machine

/-- A quotient rounded up is the least number that meets the division (R53). -/
theorem divUp_le_iff {n d : Nat} (pos : 0 < d) (t : Nat) : divUp n d ≤ t ↔ n ≤ t * d := by
  rw [divUp, ← Nat.lt_succ_iff, Nat.div_lt_iff_lt_mul pos, Nat.succ_mul]
  omega

/-- The search bit by bit keeps its number below the bound, and the number with all the remaining bits at or above it. -/
theorem rootBelow_bounds (bits a n t : Nat) (below : t * t * a < n) (above : n ≤ (t + 2 ^ bits) * (t + 2 ^ bits) * a) :
    rootBelow bits a n t * rootBelow bits a n t * a < n ∧
      n ≤ (rootBelow bits a n t + 1) * (rootBelow bits a n t + 1) * a := by
  induction bits generalizing t with
  | zero => exact ⟨below, above⟩
  | succ bits ih =>
    rw [rootBelow]
    split
    · rename_i fits
      refine ih _ fits ?_
      rwa [Nat.add_assoc, ← Nat.two_mul, ← Nat.pow_succ']
    · rename_i tooLarge
      exact ih t below (Nat.le_of_not_lt tooLarge)

/-- The number behind the search is the least whose square reaches the bound. -/
theorem succ_rootBelow_le_iff {bits a n : Nat} (pos : 0 < n) (above : n ≤ 2 ^ bits * 2 ^ bits * a) (t : Nat) :
    rootBelow bits a n 0 + 1 ≤ t ↔ n ≤ t * t * a := by
  obtain ⟨low, high⟩ := rootBelow_bounds bits a n 0 (by simpa using pos) (by simpa using above)
  constructor
  · intro le
    exact high.trans (Nat.mul_le_mul_right a (Nat.mul_le_mul le le))
  · intro reaches
    by_contra less
    have le : t ≤ rootBelow bits a n 0 := by omega
    have := Nat.mul_le_mul_right a (Nat.mul_le_mul le le)
    omega

/-! ## The three cases of R52 -/

@[simp] theorem axisTime_zero (v a : Nat) : axisTime v a 0 = 0 := if_pos rfl

/-- The distance is long enough to reach the top speed. -/
theorem axisTime_le_iff_of_long {v a d : Nat} (hv : 0 < v) (ha : 0 < a) (hd : 0 < d) (long : v * v ≤ d * a) (t : Nat) :
    axisTime v a d ≤ t ↔ 1000 * (d * a + v * v) ≤ t * (v * a) := by
  rw [axisTime, if_neg hd.ne', if_pos long, divUp_le_iff (Nat.mul_pos hv ha)]

/-- The top speed is not reached. The figures of R50 and the spans of R52 keep the time within the 18 bits. -/
theorem axisTime_le_iff_of_short {v a d : Nat} (ha : 100 ≤ a) (span : d ≤ 200000) (hd : 0 < d) (short : d * a < v * v)
    (t : Nat) :
    axisTime v a d ≤ t ↔ 4000000 * d ≤ t * t * a := by
  rw [axisTime, if_neg hd.ne', if_neg (Nat.not_le.mpr short), succ_rootBelow_le_iff (by omega) (by omega)]

/-- A time in which the top speed is reached is enough for every distance that does not reach it. -/
theorem short_of_long {v a d t : Nat} (ha : 0 < a) (short : d * a < v * v) (enough : 2000 * v ≤ t * a) :
    4000000 * d ≤ t * t * a := by
  refine Nat.le_of_mul_le_mul_right ?_ ha
  calc 4000000 * d * a = 4000000 * (d * a) := Nat.mul_assoc ..
    _ ≤ 4000000 * (v * v) := Nat.mul_le_mul_left _ short.le
    _ = 2000 * v * (2000 * v) := by ring
    _ ≤ t * a * (t * a) := Nat.mul_le_mul enough enough
    _ = t * t * a * a := by ring

/-- At the distance that just reaches the top speed or beyond, the time takes at least the two ramps. -/
theorem ramps_le_of_long {v a d t : Nat} (hv : 0 < v) (long : v * v ≤ d * a)
    (enough : 1000 * (d * a + v * v) ≤ t * (v * a)) : 2000 * v ≤ t * a := by
  refine Nat.le_of_mul_le_mul_right ?_ hv
  calc 2000 * v * v = 1000 * (v * v + v * v) := by ring
    _ ≤ 1000 * (d * a + v * v) := Nat.mul_le_mul_left _ (Nat.add_le_add_right long _)
    _ ≤ t * (v * a) := enough
    _ = t * a * v := by ring

/-- A longer distance never takes a shorter time (R65). -/
theorem axisTime_mono {v a d e : Nat} (hv : 0 < v) (ha : 100 ≤ a) (le : d ≤ e) (span : e ≤ 200000) :
    axisTime v a d ≤ axisTime v a e := by
  have hpos : 0 < a := by omega
  rcases Nat.eq_zero_or_pos d with rfl | hd
  · simp
  have he : 0 < e := by omega
  have grows : d * a ≤ e * a := Nat.mul_le_mul_right a le
  rcases Nat.lt_or_ge (d * a) (v * v) with short | long
  · rw [axisTime_le_iff_of_short ha (by omega) hd short]
    rcases Nat.lt_or_ge (e * a) (v * v) with short' | long'
    · have least := (axisTime_le_iff_of_short ha span he short' _).mp (Nat.le_refl _)
      omega
    · have least := (axisTime_le_iff_of_long hv hpos he long' _).mp (Nat.le_refl _)
      exact short_of_long hpos short (ramps_le_of_long hv long' least)
  · have least := (axisTime_le_iff_of_long hv hpos he (long.trans grows) _).mp (Nat.le_refl _)
    rw [axisTime_le_iff_of_long hv hpos hd long]
    omega

/-! ## Moves (R54) -/

theorem distance_eq (span p q : Nat) : distance span p q = min span ((p : Int) - q).natAbs := by
  unfold distance
  congr 1
  split <;> omega

theorem distance_comm (span p q : Nat) : distance span p q = distance span q p := by
  rw [distance_eq, distance_eq, ← Int.natAbs_neg, neg_sub]

theorem moveTime_comm (f : Profile) (p q : Point) : moveTime f p q = moveTime f q p := by
  rw [moveTime, distance_comm, distance_comm 50000, ← moveTime]

/-- Settles O56: the least times of the two cases of R52, which meet on the boundary. -/
theorem axisTimeIsTheLeastWholeNumber : Obligations.AxisTimeIsTheLeastWholeNumber := by
  refine ⟨fun v a d hv _ ha _ span => ?_, fun f p q => ⟨?_, moveTime_comm f p q⟩⟩
  · have vpos : 0 < v := by omega
    have apos : 0 < a := by omega
    refine ⟨fun zero => by rw [zero, axisTime_zero], axisTime_le_iff_of_long vpos apos,
      axisTime_le_iff_of_short ha span, fun boundary t => ?_, fun e => axisTime_mono vpos ha⟩
    have dpos : 0 < d := Nat.pos_of_mul_pos_right (boundary ▸ Nat.mul_pos vpos vpos)
    rw [axisTime_le_iff_of_long vpos apos dpos boundary.ge]
    refine ⟨ramps_le_of_long vpos boundary.ge, fun ramps => ?_⟩
    calc 1000 * (d * a + v * v) = 2000 * v * v := by rw [boundary]; ring
      _ ≤ t * a * v := Nat.mul_le_mul_right v ramps
      _ = t * (v * a) := by ring
  · rw [moveTime, distance_eq, distance_eq]

end Sys2Proof.Machine
end

section
/-! SUPPORT. The choice among candidates and of a partner (R62, R65, R84, R85). -/

namespace Sys2Proof.Machine

variable {s : State} {k : Nat}

/-! ## Choices by a key -/

/-- Where "better" means a smaller key, the choice has the least key. -/
theorem bestOf_least {α β : Type} [LinearOrder β] {better : α → α → Bool} {key : α → β} {l : List α} {m : α}
    (order : ∀ a b, better a b = true ↔ key a < key b) (h : bestOf better l = some m) : ∀ x ∈ l, key m ≤ key x := by
  have notBetter : ∀ a b, better a b = false ↔ key b ≤ key a := fun a b => by
    rw [← Bool.not_eq_true, order, not_lt]
  intro x hx
  rw [← notBetter]
  refine bestOf_best (fun a b ab => ?_) (fun a b c ab bc => ?_) h x hx
  · exact (notBetter b a).mpr ((order a b).mp ab).le
  · exact (notBetter a c).mpr (((notBetter b c).mp bc).trans ((notBetter a b).mp ab))

/-! ## Candidates stand for jobs of the pool -/

theorem State.storeCandidate_job {j : Job} {c : Candidate} (h : s.storeCandidate k j = some c) : c.job = j := by
  unfold State.storeCandidate at h
  split at h
  · cases h
  · split at h
    · obtain ⟨l, -, rfl⟩ := Option.map_eq_some_iff.mp h
      rfl
    · cases h

theorem State.retrieveCandidate_job {j : Job} {c : Candidate} (h : s.retrieveCandidate k j = some c) : c.job = j := by
  unfold State.retrieveCandidate at h
  repeat' split at h
  all_goals cases h
  rfl

theorem State.relocateCandidate_job {j : Job} {c : Candidate} (h : s.relocateCandidate k j = some c) : c.job = j := by
  unfold State.relocateCandidate at h
  split at h
  · cases h
  · split at h
    · obtain ⟨m, -, rfl⟩ := Option.map_eq_some_iff.mp h
      rfl
    · cases h

/-- The record of a candidate is its job's. -/
theorem State.candidate_job {j : Job} {c : Candidate} (h : s.candidate k j = some c) : c.job = j := by
  unfold State.candidate at h
  split at h
  · cases h
  · split at h <;> split at h
    · cases h
      rfl
    · cases h
    · exact State.storeCandidate_job h
    · cases h
    · exact State.retrieveCandidate_job h
    · cases h
    · exact State.relocateCandidate_job h
    · cases h

theorem State.mem_candidates_iff {c : Candidate} :
    c ∈ s.candidates k ↔ c.job ∈ s.pool ∧ s.candidate k c.job = some c := by
  rw [State.candidates, List.mem_filterMap]
  constructor
  · rintro ⟨j, hj, found⟩
    obtain rfl := State.candidate_job found
    exact ⟨hj, found⟩
  · rintro ⟨hj, found⟩
    exact ⟨_, hj, found⟩

/-- A figure that tells the jobs of the pool apart tells the candidates apart. -/
theorem State.candidate_unique {f : Job → Nat} (distinct : (s.pool.map f).Nodup) {c o : Candidate}
    (hc : c ∈ s.candidates k) (ho : o ∈ s.candidates k) (same : f o.job = f c.job) : o = c := by
  obtain ⟨poolC, foundC⟩ := State.mem_candidates_iff.mp hc
  obtain ⟨poolO, foundO⟩ := State.mem_candidates_iff.mp ho
  rw [List.inj_on_of_nodup_map distinct poolO poolC same, foundC] at foundO
  exact (Option.some.inj foundO).symm

/-! ## The order of candidates (R62) and of partners (R84) -/

theorem Candidate.before_iff (a b : Candidate) :
    a.before b = true ↔ toLex (a.score, a.job.adm) < toLex (b.score, b.job.adm) := by
  simp [Candidate.before, Prod.Lex.toLex_lt_toLex]

/-- The key of a partner: the larger saving first, then the older job (R84). -/
def State.partnerKey (s : State) (k : Nat) (chosen o : Candidate) : Natᵒᵈ ×ₗ Nat :=
  toLex (OrderDual.toDual (s.savingWith k chosen o), o.job.adm)

theorem State.partnerKey_le_iff (chosen p o : Candidate) : s.partnerKey k chosen p ≤ s.partnerKey k chosen o ↔
    s.savingWith k chosen o < s.savingWith k chosen p ∨
      (s.savingWith k chosen o = s.savingWith k chosen p ∧ p.job.adm ≤ o.job.adm) := by
  simp [State.partnerKey, Prod.Lex.toLex_le_toLex, eq_comm]

theorem State.partnerKey_lt_iff (chosen p o : Candidate) : s.partnerKey k chosen p < s.partnerKey k chosen o ↔
    s.savingWith k chosen o < s.savingWith k chosen p ∨
      (s.savingWith k chosen o = s.savingWith k chosen p ∧ p.job.adm < o.job.adm) := by
  simp [State.partnerKey, Prod.Lex.toLex_lt_toLex, eq_comm]

/-- The order of the partner's choice is that of the keys. -/
theorem State.partnerBefore_iff (chosen a b : Candidate) :
    (decide (s.savingWith k chosen b < s.savingWith k chosen a) ||
      (s.savingWith k chosen a == s.savingWith k chosen b && decide (a.job.adm < b.job.adm))) = true ↔
      s.partnerKey k chosen a < s.partnerKey k chosen b := by
  rw [State.partnerKey_lt_iff, eq_comm (a := s.savingWith k chosen b)]
  simp

/-- A partner has the kind offered, reaches the minimum saving, and no other of that kind comes before it. -/
theorem State.partner_some {chosen p : Candidate} {cands : List Candidate} (h : s.partner k chosen cands = some p) :
    p ∈ cands ∧ partnerKind s.policy.pairing chosen.job.kind = some p.job.kind ∧
      s.policy.minSaving ≤ s.savingWith k chosen p ∧
      ∀ o ∈ cands, partnerKind s.policy.pairing chosen.job.kind = some o.job.kind →
        s.partnerKey k chosen p ≤ s.partnerKey k chosen o := by
  unfold State.partner at h
  split at h
  · cases h
  rename_i kind offered
  obtain ⟨best, reached⟩ := Option.filter_eq_some_iff.mp h
  obtain ⟨mem, kindP⟩ := List.mem_filter.mp (bestOf_mem best)
  refine ⟨mem, by rw [offered, beq_iff_eq.mp kindP], of_decide_eq_true reached, fun o ho kindO => ?_⟩
  have kindO : o.job.kind = kind := Option.some.inj (kindO.symm.trans offered)
  exact bestOf_least (State.partnerBefore_iff chosen) best o (List.mem_filter.mpr ⟨ho, beq_iff_eq.mpr kindO⟩)

/-- There is no partner only where no candidate of the kind offered reaches the minimum saving. -/
theorem State.partner_none {chosen : Candidate} {cands : List Candidate} (h : s.partner k chosen cands = none) :
    ∀ o ∈ cands, partnerKind s.policy.pairing chosen.job.kind = some o.job.kind →
      s.savingWith k chosen o < s.policy.minSaving := by
  intro o ho kindO
  unfold State.partner at h
  rw [kindO] at h
  dsimp only at h
  have offered : o ∈ cands.filter (fun c => c.job.kind == o.job.kind) := List.mem_filter.mpr ⟨ho, beq_self_eq_true _⟩
  generalize best : bestOf _ _ = chosenPartner at h
  cases chosenPartner with
  | none => simp [bestOf_none best] at offered
  | some p =>
    have short : s.savingWith k chosen p < s.policy.minSaving := by
      simpa using Option.filter_eq_none_iff.mp h p rfl
    have first := bestOf_least (State.partnerBefore_iff chosen) best o offered
    rw [State.partnerKey_le_iff] at first
    omega

/-! ## Savings (R65) and the pairing policy (R83 to R85) -/

theorem partnerKind_eq (pairing : Pairing) (kind : JobKind) : partnerKind pairing kind =
    if kind = .store ∧ pairing ≠ .off then some .retrieve
    else if kind = .retrieve ∧ pairing = .both then some .store
    else none := by
  cases pairing <;> cases kind <;> rfl

/-- A partner is never of the chosen job's own kind. -/
theorem partnerKind_ne (pairing : Pairing) (kind : JobKind) : partnerKind pairing kind ≠ some kind := by
  cases pairing <;> cases kind <;> nofun

/-- The saving of a store and a retrieve, whichever of the two was chosen. -/
theorem State.savingWith_eq {st rt : Candidate} {ls lr : Loc} (store : st.job.kind = .store)
    (retrieve : rt.job.kind = .retrieve) (dest : st.dest = some ls) (source : rt.job.source = some lr) :
    s.savingWith k st rt = (s.crane k).saving (s.locPoint ls) (s.locPoint lr) (s.stationPoint rt.outfeed) ∧
      s.savingWith k rt st = (s.crane k).saving (s.locPoint ls) (s.locPoint lr) (s.stationPoint rt.outfeed) := by
  simp [State.savingWith, State.pairSaving, store, retrieve, dest, source]

/-! ## Selection (R82) -/

theorem State.select_of_none (h : s.candidates k = []) : s.select k = (s, false) := by
  unfold State.select
  rw [h]
  rfl

/-- Where there are candidates, the best of them is assigned with the partner found among the others. -/
theorem State.select_of_some (h : s.candidates k ≠ []) : ∃ c, bestOf Candidate.before (s.candidates k) = some c ∧
    s.select k = (s.assign k c
      (s.partner k c ((s.candidates k).filter (fun o => o.job.num != c.job.num))) (s.candidates k), true) := by
  cases best : bestOf Candidate.before (s.candidates k) with
  | none => exact absurd (bestOf_none best) h
  | some c =>
    refine ⟨c, rfl, ?_⟩
    unfold State.select
    dsimp only
    rw [best]

/-- Settles O59: the chosen candidate and its partner have the least keys, and admission numbers tell keys apart. -/
theorem selectionTakesTheBestCandidate : Obligations.SelectionTakesTheBestCandidate := by
  intro k s older numbers cands offered time
  have ages : (s.pool.map Job.adm).Nodup := (List.pairwise_map.mpr older).imp Nat.ne_of_lt
  have offer : ∀ kind, partnerKind s.policy.pairing kind = offered kind := partnerKind_eq _
  refine ⟨fun st rt ls lr store retrieve dest source => State.savingWith_eq store retrieve dest source,
    State.select_of_none, fun nonempty => ?_⟩
  obtain ⟨c, best, selected⟩ := State.select_of_some nonempty
  have hc : c ∈ cands := bestOf_mem best
  have other : ∀ o ∈ cands, offered c.job.kind = some o.job.kind → o ∈ cands.filter (fun o => o.job.num != c.job.num) := by
    intro o ho kind
    refine List.mem_filter.mpr ⟨ho, bne_iff_ne.mpr fun same => ?_⟩
    obtain rfl := State.candidate_unique numbers hc ho same
    exact partnerKind_ne _ _ ((offer _).trans kind)
  refine ⟨c, _, hc, fun o ho ne => ?_, fun alone o ho kind => ?_, fun p partner => ?_, selected⟩
  · have first := Prod.Lex.toLex_le_toLex.mp (bestOf_least Candidate.before_iff best o ho)
    have apart : o.job.adm ≠ c.job.adm := fun same => ne (State.candidate_unique ages hc ho same)
    omega
  · exact State.partner_none alone o (other o ho kind) ((offer _).trans kind)
  · obtain ⟨mem, kindP, reached, first⟩ := State.partner_some partner
    have hp : p ∈ cands := (List.mem_filter.mp mem).1
    refine ⟨hp, (offer _).symm.trans kindP, reached, fun o ho kind ne => ?_⟩
    have before := (State.partnerKey_le_iff c p o).mp (first o (other o ho kind) ((offer _).trans kind))
    have apart : o.job.adm ≠ p.job.adm := fun same => ne (State.candidate_unique ages hp ho same)
    omega

end Sys2Proof.Machine
end

section
/-! SUPPORT. The reservations of a plan (R87, R89): each job's own, then those of the plan in turn. -/

namespace Sys2Proof.Machine

variable {s : State} {o : Candidate} {cs : List Candidate}

/-- A plan is one job alone, or a store and a retrieve with numbers of their own, the store first (R87). -/
def planForm (cs : List Candidate) : Prop :=
  (∃ c, cs = [c]) ∨
    ∃ st rt, cs = [st, rt] ∧ st.job.kind = .store ∧ rt.job.kind = .retrieve ∧ st.job.num ≠ rt.job.num

theorem planOrder_form {c : Candidate} {partner : Option Candidate}
    (pair : ∀ p, partner = some p → p.job.num ≠ c.job.num ∧
      ((c.job.kind = .store ∧ p.job.kind = .retrieve) ∨ (c.job.kind = .retrieve ∧ p.job.kind = .store))) :
    planForm (planOrder c partner) := by
  cases partner with
  | none => exact .inl ⟨c, rfl⟩
  | some p =>
    obtain ⟨apart, ⟨store, retrieve⟩ | ⟨retrieve, store⟩⟩ := pair p rfl
    · exact .inr ⟨c, p, if_pos store, store, retrieve, apart.symm⟩
    · exact .inr ⟨p, c, if_neg (by simp [retrieve]), store, retrieve, apart⟩

/-! ## One job's reservation (R89) -/

/-- The candidate's destination is chosen at assignment. -/
def Candidate.takes (o : Candidate) : Bool :=
  o.dest.isSome && (o.job.kind == .relocate || (o.job.kind == .store && o.job.zone.isSome))

/-- The candidate's outfeed expects its pallet. -/
def Candidate.delivers (o : Candidate) : Bool := o.job.kind == .retrieve

theorem Candidate.takes_of_retrieve (h : o.job.kind = .retrieve) : o.takes = false := by
  simp [Candidate.takes, h]

theorem Candidate.delivers_of_store (h : o.job.kind = .store) : o.delivers = false := by
  simp [Candidate.delivers, h]

/-- A job record with the reservation that its assignment takes. -/
def Candidate.reserve (o : Candidate) (i : Job) : Job :=
  { i with
    dest := if o.takes = true then o.dest else i.dest
    dstRes := if o.takes = true then some { kind := .location, origin := .assignment }
      else if o.delivers = true then some { kind := .delivery, origin := .assignment } else i.dstRes
    station := if o.delivers = true then o.outfeed else i.station }

@[simp] theorem Candidate.reserve_num (o : Candidate) (i : Job) : (o.reserve i).num = i.num := rfl

/-- What an assignment reserves for one job: a location, a delivery, or nothing. -/
theorem State.fixJob_cases (s : State) (o : Candidate) :
    (∃ l, o.takes = true ∧ o.delivers = false ∧ o.dest = some l ∧
      s.fixJob o = (s.occupy l .inbound (some o.job.pallet)).updJob o.job.num o.reserve) ∨
    (o.takes = false ∧ o.delivers = true ∧
      s.fixJob o = (s.updStation o.outfeed (fun t => { t with pend := t.pend + 1 })).updJob o.job.num o.reserve) ∨
    (o.takes = false ∧ o.delivers = false ∧ s.fixJob o = s) := by
  have located : ∀ l, o.takes = true → o.delivers = false → o.dest = some l →
      (fun j : Job => { j with dest := some l, dstRes := some { kind := .location, origin := .assignment } }) =
        o.reserve :=
    fun l takes delivers dest => funext fun j => by simp [Candidate.reserve, takes, delivers, dest]
  cases kind : o.job.kind with
  | store =>
    have delivers := Candidate.delivers_of_store kind
    cases zone : o.job.zone with
    | none => exact .inr (.inr ⟨by simp [Candidate.takes, kind, zone], delivers, by simp [State.fixJob, kind, zone]⟩)
    | some z =>
      cases dest : o.dest with
      | none => exact .inr (.inr ⟨by simp [Candidate.takes, dest], delivers, by simp [State.fixJob, kind, dest]⟩)
      | some l =>
        have takes : o.takes = true := by simp [Candidate.takes, kind, zone, dest]
        refine .inl ⟨l, takes, delivers, rfl, ?_⟩
        rw [← located l takes delivers dest]
        simp [State.fixJob, kind, zone, dest, State.reserveDest]
  | relocate =>
    have delivers : o.delivers = false := by simp [Candidate.delivers, kind]
    cases dest : o.dest with
    | none => exact .inr (.inr ⟨by simp [Candidate.takes, dest], delivers, by simp [State.fixJob, kind, dest]⟩)
    | some l =>
      have takes : o.takes = true := by simp [Candidate.takes, kind, dest]
      refine .inl ⟨l, takes, delivers, rfl, ?_⟩
      rw [← located l takes delivers dest]
      simp [State.fixJob, kind, dest, State.reserveDest]
  | retrieve =>
    have takes := Candidate.takes_of_retrieve kind
    have delivers : o.delivers = true := by simp [Candidate.delivers, kind]
    have outfed : (fun j : Job =>
        { j with station := o.outfeed, dstRes := some { kind := .delivery, origin := .assignment } }) = o.reserve :=
      funext fun j => by simp [Candidate.reserve, takes, delivers]
    refine .inr (.inl ⟨takes, delivers, ?_⟩)
    rw [← outfed]
    simp [State.fixJob, kind]
  | recover =>
    exact .inr (.inr ⟨by simp [Candidate.takes, kind], by simp [Candidate.delivers, kind], by simp [State.fixJob, kind]⟩)

theorem Candidate.reserve_nothing (takes : o.takes = false) (delivers : o.delivers = false) (i : Job) :
    o.reserve i = i := by
  simp [Candidate.reserve, takes, delivers]

/-- A reservation writes locations, stations, its job's record and the pair to be re-examined, nothing else. -/
theorem State.fixJob_writes (s : State) (o : Candidate) : ∃ locs stations work, s.fixJob o =
    { s with
      locs := locs, stations := stations, work := work
      pool := s.pool.map (fun i => if i.num = o.job.num then o.reserve i else i) } := by
  obtain ⟨l, -, -, -, h⟩ | ⟨-, -, h⟩ | ⟨takes, delivers, h⟩ := s.fixJob_cases o
  · exact ⟨_, _, _, h⟩
  · exact ⟨_, _, _, h⟩
  · exact ⟨s.locs, s.stations, s.work, by simp [h, Candidate.reserve_nothing takes delivers]⟩

theorem State.loc_fixJob (inside : ∀ l, o.dest = some l → l.inRanges) {m : Loc} (hm : m.inRanges) :
    (s.fixJob o).loc m = if (o.takes && o.dest == some m) = true
      then { (s.loc m) with occ := .inbound, pallet := some o.job.pallet } else s.loc m := by
  obtain ⟨l, takes, -, dest, h⟩ | ⟨takes, -, h⟩ | ⟨takes, -, h⟩ := s.fixJob_cases o
  · rw [h, State.loc_congr (State.updJob_locs ..), s.loc_occupy_in (inside l dest) hm]
    exact if_congr (by simpa [takes, dest] using eq_comm) rfl rfl
  · rw [h, takes, Bool.false_and, if_neg Bool.false_ne_true]
    rfl
  · simp [h, takes]

theorem State.station_fixJob (s : State) (o : Candidate) (m : Nat) :
    (s.fixJob o).station m = (s.station m).map (fun t =>
      if (o.delivers && o.outfeed == m) = true then { t with pend := t.pend + 1 } else t) := by
  obtain ⟨l, -, delivers, -, h⟩ | ⟨-, delivers, h⟩ | ⟨-, delivers, h⟩ := s.fixJob_cases o
  · have kept : (s.fixJob o).station m = s.station m := by rw [h]; rfl
    simp [kept, delivers]
  · rw [h]
    simp only [State.station, State.updJob_stations, State.updStation_stations, tableGet_tableMod]
    by_cases same : m = o.outfeed
    · simp [delivers, same]
    · simp [same, Ne.symm same]
  · simp [h, delivers]

/-- The pair that a reservation owes a re-examination. -/
def Candidate.pair (o : Candidate) : Option Nat :=
  if o.takes = true then o.dest.map (fun l => locKey { l with depth := .front }) else none

theorem State.work_fixJob_quiet (quiet : s.quiet) (o : Candidate) :
    (s.fixJob o).work = { pairs := o.pair.toList, allBusy := false } := by
  obtain ⟨l, takes, -, dest, h⟩ | ⟨takes, -, h⟩ | ⟨takes, -, h⟩ := s.fixJob_cases o
  · rw [h, State.occupy_quiet quiet]
    simp [Candidate.pair, takes, dest]
  · rw [h]
    simpa [Candidate.pair, takes] using quiet
  · rw [h]
    simpa [Candidate.pair, takes] using quiet

theorem State.work_fixJob_retrieve (s : State) (kind : o.job.kind = .retrieve) : (s.fixJob o).work = s.work := by
  simp [State.fixJob, kind]

/-! ## The reservations of a plan -/

/-- The reservations of a plan, job by job (R89). -/
def State.fixPlan (s : State) (cs : List Candidate) : State := cs.foldl State.fixJob s

/-- A job record with the reservation of its candidate in the plan. -/
def reserveIn (cs : List Candidate) (i : Job) : Job :=
  match cs.find? (fun o => o.job.num == i.num) with
  | some o => o.reserve i
  | none => i

theorem reserveIn_single (c : Candidate) : reserveIn [c] = fun i => if i.num = c.job.num then c.reserve i else i := by
  funext i
  by_cases mine : c.job.num = i.num
  · simp [reserveIn, mine]
  · simp [reserveIn, mine, Ne.symm mine]

theorem reserveIn_pair {a b : Candidate} (apart : a.job.num ≠ b.job.num) : reserveIn [a, b] =
    (fun i => if i.num = b.job.num then b.reserve i else i) ∘ fun i => if i.num = a.job.num then a.reserve i else i := by
  funext i
  by_cases first : a.job.num = i.num
  · have other : i.num ≠ b.job.num := first ▸ apart
    simp [reserveIn, first, other]
  · by_cases second : b.job.num = i.num
    · simp [reserveIn, first, Ne.symm first, second]
    · simp [reserveIn, first, Ne.symm first, second, Ne.symm second]

theorem State.fixPlan_writes (s : State) (form : planForm cs) : ∃ locs stations work, s.fixPlan cs =
    { s with locs := locs, stations := stations, work := work, pool := s.pool.map (reserveIn cs) } := by
  obtain ⟨c, rfl⟩ | ⟨st, rt, rfl, -, -, apart⟩ := form
  · rw [reserveIn_single]
    exact s.fixJob_writes c
  · obtain ⟨_, _, _, first⟩ := s.fixJob_writes st
    obtain ⟨locs, stations, work, second⟩ := (s.fixJob st).fixJob_writes rt
    refine ⟨locs, stations, work, second.trans ?_⟩
    rw [first, reserveIn_pair apart, ← List.map_map]

theorem State.crane_fixPlan (form : planForm cs) (j : Nat) : (s.fixPlan cs).crane j = s.crane j := by
  obtain ⟨_, _, _, fixed⟩ := s.fixPlan_writes form
  exact State.crane_congr (by rw [fixed]) j

theorem State.work_fixPlan (quiet : s.quiet) (form : planForm cs) :
    (s.fixPlan cs).work = { pairs := cs.filterMap Candidate.pair, allBusy := false } := by
  obtain ⟨c, rfl⟩ | ⟨st, rt, rfl, -, retrieve, -⟩ := form
  · change (s.fixJob c).work = _
    rw [State.work_fixJob_quiet quiet]
    cases pair : c.pair <;> simp [pair]
  · have none : rt.pair = none := by simp [Candidate.pair, Candidate.takes_of_retrieve retrieve]
    change ((s.fixJob st).fixJob rt).work = _
    rw [State.work_fixJob_retrieve _ retrieve, State.work_fixJob_quiet quiet]
    cases pair : st.pair <;> simp [pair, none]

theorem State.loc_fixPlan (form : planForm cs) (inside : ∀ o ∈ cs, ∀ l, o.dest = some l → l.inRanges) {m : Loc}
    (hm : m.inRanges) : (s.fixPlan cs).loc m = match cs.find? (fun o => o.takes && o.dest == some m) with
      | some o => { (s.loc m) with occ := .inbound, pallet := some o.job.pallet }
      | none => s.loc m := by
  obtain ⟨c, rfl⟩ | ⟨st, rt, rfl, -, retrieve, -⟩ := form
  · have only : (s.fixPlan [c]).loc m = (s.fixJob c).loc m := rfl
    rw [only, State.loc_fixJob (inside c (by simp)) hm]
    cases here : c.takes && c.dest == some m <;> simp [here]
  · have both : (s.fixPlan [st, rt]).loc m = ((s.fixJob st).fixJob rt).loc m := rfl
    have none := Candidate.takes_of_retrieve retrieve
    rw [both, State.loc_fixJob (inside rt (by simp)) hm, State.loc_fixJob (inside st (by simp)) hm]
    cases here : st.takes && st.dest == some m <;> simp [here, none]

theorem State.station_fixPlan (form : planForm cs) (m : Nat) :
    (s.fixPlan cs).station m = (s.station m).map (fun t =>
      if cs.any (fun o => o.delivers && o.outfeed == m) = true then { t with pend := t.pend + 1 } else t) := by
  obtain ⟨c, rfl⟩ | ⟨st, rt, rfl, store, -, -⟩ := form
  · have only : (s.fixPlan [c]).station m = (s.fixJob c).station m := rfl
    rw [only, State.station_fixJob]
    simp
  · have both : (s.fixPlan [st, rt]).station m = ((s.fixJob st).fixJob rt).station m := rfl
    rw [both, State.station_fixJob, State.station_fixJob]
    simp [Candidate.delivers_of_store store]

end Sys2Proof.Machine
end

section
/-! SUPPORT. An assignment (R63, R87 to R90): what it writes besides the reservations of its plan. -/

namespace Sys2Proof.Machine

variable {s : State} {k : Nat} {cs : List Candidate}

/-! ## The parts of an assignment -/

/-- The channel of an assigned crane becomes BUSY: no trigger, and the pass no longer visits it (R67, R68, R90). -/
theorem State.chanTo_assigned (s : State) (k : Nat) : s.chanTo k .busy .assigned =
    { s with
      cranes := (s.updCrane k (fun c => { c with chan := .busy })).cranes
      readyOrder := s.readyOrder.filter (fun j => j != k), passRun := s.passWithout k
      link := s.link.report (.craneState k .busy .assigned (s.crane k).pos) } := by
  have pos : ((s.updCrane k (fun c => c.entering .busy .assigned)).crane k).pos = (s.crane k).pos :=
    State.crane_updCrane_part Crane.pos s k k fun _ => rfl
  have still : ∀ u : State, u.chanTriggers k .busy .assigned = false := fun u => by simp [State.chanTriggers]
  unfold State.chanTo
  dsimp only
  rw [still, if_neg Bool.false_ne_true, State.report, ← pos, State.updCrane_eq]
  rfl

/-- A job record behind the assignment of a plan's jobs to crane `k` (R90). -/
def takeUpIn (k : Nat) (cs : List Candidate) (j : Job) : Job :=
  if cs.any (fun o => o.job.num == j.num) = true then { j with state := .assigned, crane := k } else j

/-- A job record behind the ageing of the candidates passed over (R63). -/
def ageIn (threshold : Nat) (passed : List Candidate) (j : Job) : Job :=
  if passed.any (fun o => o.job.num == j.num) = true then j.bypassed threshold else j

theorem State.foldl_assignJob_eq (s : State) (k : Nat) (cs : List Candidate) :
    cs.foldl (fun s c => s.assignJob k c) s = { s with pool := s.pool.map (takeUpIn k cs) } := by
  induction cs generalizing s with
  | nil =>
    have same : takeUpIn k [] = id := funext fun j => by simp [takeUpIn]
    simp [same]
  | cons o cs ih =>
    rw [List.foldl_cons, ih]
    simp only [State.assignJob, State.updJob, List.map_map]
    congr 1
    refine List.map_congr_left fun i _ => ?_
    by_cases mine : i.num = o.job.num
    · simp [takeUpIn, mine]
    · simp [takeUpIn, mine, Ne.symm mine]

theorem State.foldl_report_eq (s : State) (report : Candidate → Report) (cs : List Candidate) :
    cs.foldl (fun s c => s.report (report c)) s =
      { s with link := cs.foldl (fun w c => w.report (report c)) s.link } := by
  induction cs generalizing s with
  | nil => rfl
  | cons o cs ih => rw [List.foldl_cons, ih]; rfl

/-- A crane record with its plan (R87, R90). -/
def Crane.planned (legs : List Leg) (kind : CycleKind) (c : Crane) : Crane :=
  { c with plan := legs, cycle := some kind, estimate := planEstimate legs }

/-- What an assignment does between its reservations and the change of its crane's channel. -/
def State.enlist (s : State) (k : Nat) (cs : List Candidate) (legs : List Leg) (kind : CycleKind)
    (passed : List Candidate) (report : Candidate → Report) : State :=
  cs.foldl (fun s c => s.report (report c))
    (((cs.foldl (fun s c => s.assignJob k c) s).updCrane k (Crane.planned legs kind)).age passed)

/-- What an assignment does between its reservations and its re-examinations. -/
def State.carryOut (s : State) (k : Nat) (cs : List Candidate) (legs : List Leg) (kind : CycleKind)
    (passed : List Candidate) (report : Candidate → Report) : State :=
  (s.enlist k cs legs kind passed report).chanTo k .busy .assigned

section Parts

variable (s k cs) (legs : List Leg) (kind : CycleKind) (passed : List Candidate) (report : Candidate → Report)

theorem State.enlist_eq : s.enlist k cs legs kind passed report =
    { s with
      cranes := (s.enlist k cs legs kind passed report).cranes
      pool := (s.pool.map (takeUpIn k cs)).map (ageIn s.policy.aging passed)
      link := cs.foldl (fun w c => w.report (report c)) s.link } := by
  unfold State.enlist
  rw [State.foldl_report_eq, State.updCrane_eq, State.foldl_assignJob_eq]
  rfl

theorem State.crane_enlist (j : Nat) : (s.enlist k cs legs kind passed report).crane j =
    if j = k ∧ 1 ≤ k ∧ k ≤ 12 then (s.crane k).planned legs kind else s.crane j := by
  unfold State.enlist
  rw [State.foldl_report_eq, State.foldl_assignJob_eq]
  exact State.crane_updCrane _ k j _

theorem State.carryOut_eq : s.carryOut k cs legs kind passed report =
    { s.enlist k cs legs kind passed report with
      cranes := (s.carryOut k cs legs kind passed report).cranes
      readyOrder := s.readyOrder.filter (fun j => j != k), passRun := s.passWithout k
      link := (cs.foldl (fun w c => w.report (report c)) s.link).report
        (.craneState k .busy .assigned (s.crane k).pos) } := by
  have pos : ((s.enlist k cs legs kind passed report).crane k).pos = (s.crane k).pos := by
    rw [State.crane_enlist]
    split <;> rfl
  unfold State.carryOut
  rw [State.chanTo_assigned, pos, State.enlist_eq]
  rfl

/-- The crane of an assignment has its plan and is BUSY; every other crane is as it was (R90). -/
theorem State.crane_carryOut (number : 1 ≤ k ∧ k ≤ 12) (j : Nat) :
    (s.carryOut k cs legs kind passed report).crane j =
      if j = k then { (s.crane k).planned legs kind with chan := .busy } else s.crane j := by
  have changed := State.crane_updCrane (s.enlist k cs legs kind passed report) k j (fun c => { c with chan := .busy })
  unfold State.carryOut
  rw [State.chanTo_assigned]
  refine changed.trans ?_
  by_cases mine : j = k <;> simp [State.crane_enlist, mine, number]

end Parts

/-- The saving of a plan: a lone job has none (R65). -/
def State.planSaving (s : State) (k : Nat) (chosen : Candidate) : Option Candidate → Nat
  | none => 0
  | some p => s.savingWith k chosen p

/-- The legs of a plan from the recorded position (R88). -/
def State.planLegs (s : State) (k : Nat) (cs : List Candidate) : List Leg :=
  s.mkPlan k (s.startPoint k) (cs.flatMap Candidate.legs)

/-- JOB_ASSIGNED of one job of a plan (R90). -/
def State.planReport (s : State) (k : Nat) (c : Candidate) (partner : Option Candidate) (o : Candidate) : Report :=
  assignedReport k (s.planSaving k c partner) (planEstimate (s.planLegs k (planOrder c partner)))
    (partnerNumber (planOrder c partner) o) o

/-- The candidates that a plan passes over (R63). -/
def passedOver (cs cands : List Candidate) : List Candidate :=
  cands.filter (fun c => cs.all (fun d => d.job.num != c.job.num))

/-- An assignment is its reservations, what is carried out of the plan, and the re-examinations. -/
theorem State.assign_eq (s : State) (k : Nat) (c : Candidate) (partner : Option Candidate) (cands : List Candidate) :
    s.assign k c partner cands =
      ((s.fixPlan (planOrder c partner)).carryOut k (planOrder c partner) (s.planLegs k (planOrder c partner))
        (planKind c partner) (passedOver (planOrder c partner) cands) (s.planReport k c partner)).reexamine := by
  cases partner <;> rfl

/-! ## The state before the re-examinations -/

/-- A job record as an assignment leaves it. -/
def assignIn (threshold k : Nat) (cs passed : List Candidate) (i : Job) : Job :=
  match cs.find? (fun o => o.job.num == i.num) with
  | some o => { o.reserve i with state := .assigned, crane := k }
  | none => if passed.any (fun o => o.job.num == i.num) = true then i.bypassed threshold else i

/-- A job is passed over where it is a candidate and not of the plan. -/
theorem passedOver_any (cs cands : List Candidate) (n : Nat) : (passedOver cs cands).any (fun o => o.job.num == n) =
    (!cs.any (fun o => o.job.num == n) && cands.any (fun o => o.job.num == n)) := by
  have mine : ∀ c : Candidate, (cs.all (fun d => d.job.num != c.job.num) && c.job.num == n) =
      (!cs.any (fun o => o.job.num == n) && c.job.num == n) := fun c => by
    by_cases same : c.job.num = n
    · simp [same, List.not_any_eq_all_not, bne]
    · simp [beq_false_of_ne same]
  rw [passedOver, List.any_filter, funext mine]
  cases cs.any (fun o => o.job.num == n) <;> simp

/-- The reservations, the assignment and the ageing of one record together. -/
theorem assignIn_eq (threshold k : Nat) (cs cands : List Candidate) (i : Job) :
    assignIn threshold k cs cands i = ageIn threshold (passedOver cs cands) (takeUpIn k cs (reserveIn cs i)) := by
  cases found : cs.find? (fun o => o.job.num == i.num) with
  | some o =>
    have any : cs.any (fun o => o.job.num == i.num) = true := by
      rw [List.any_eq_true]
      exact ⟨o, List.mem_of_find?_eq_some found, List.find?_some (p := fun o : Candidate => o.job.num == i.num) found⟩
    simp [reserveIn, takeUpIn, ageIn, assignIn, found, passedOver_any, any]
  | none =>
    have any : cs.any (fun o => o.job.num == i.num) = false := by
      rw [← Bool.not_eq_true, List.any_eq_true]
      rintro ⟨o, ho, same⟩
      exact List.find?_eq_none.mp found o ho same
    simp [reserveIn, takeUpIn, ageIn, assignIn, found, passedOver_any, any]

/-- An assignment before its re-examinations. -/
theorem State.carryOut_fixPlan (quiet : s.quiet) (form : planForm cs) (legs : List Leg) (kind : CycleKind)
    (cands : List Candidate) (report : Candidate → Report) {u : State}
    (h : (s.fixPlan cs).carryOut k cs legs kind (passedOver cs cands) report = u) : u =
      { s with
        locs := (s.fixPlan cs).locs, stations := (s.fixPlan cs).stations, cranes := u.cranes
        pool := s.pool.map (assignIn s.policy.aging k cs cands)
        readyOrder := s.readyOrder.filter (fun j => j != k), passRun := s.passWithout k
        work := { pairs := cs.filterMap Candidate.pair, allBusy := false }
        link := (cs.foldl (fun w c => w.report (report c)) s.link).report
          (.craneState k .busy .assigned (s.crane k).pos) } := by
  obtain ⟨locs, stations, work, fixed⟩ := s.fixPlan_writes form
  have pairs := State.work_fixPlan quiet form
  have pool : assignIn s.policy.aging k cs cands = ageIn s.policy.aging (passedOver cs cands) ∘ takeUpIn k cs ∘ reserveIn cs :=
    funext (assignIn_eq s.policy.aging k cs cands)
  have written := State.carryOut_eq (s.fixPlan cs) k cs legs kind (passedOver cs cands) report
  rw [State.enlist_eq, h, fixed, List.map_map, List.map_map] at written
  rw [fixed] at pairs
  rw [← pairs, pool, fixed]
  exact written

/-! ## The figures of the reports -/

theorem mem_planOrder {c o : Candidate} {partner : Option Candidate} (h : o ∈ planOrder c partner) :
    o = c ∨ partner = some o := by
  cases partner with
  | none => exact .inl (List.mem_singleton.mp h)
  | some p =>
    change o ∈ (if c.job.kind = .store then [c, p] else [p, c]) at h
    rw [Option.some.injEq, eq_comm (a := p)]
    split at h
    · simpa using h
    · simpa [or_comm] using h

/-- The job a report names as partner is the other one of the plan. -/
theorem partnerNumber_planOrder {c o : Candidate} {partner : Option Candidate}
    (apart : ∀ p, partner = some p → p.job.num ≠ c.job.num) (mem : o ∈ planOrder c partner) :
    partnerNumber (planOrder c partner) o =
      (partner.map fun p => if o.job.num = c.job.num then p.job.num else c.job.num).getD 0 := by
  cases partner with
  | none =>
    obtain rfl := List.mem_singleton.mp mem
    simp [partnerNumber, planOrder]
  | some p =>
    have ne := apart p rfl
    rcases mem_planOrder mem with rfl | same
    · by_cases store : o.job.kind = .store <;> simp [partnerNumber, planOrder, store, ne]
    · cases same
      by_cases store : c.job.kind = .store <;> simp [partnerNumber, planOrder, store, ne, ne.symm]

theorem planKind_eq (c : Candidate) (partner : Option Candidate) : planKind c partner =
    match c.job.kind, partner with
    | .relocate, _ => .relocation
    | .recover, _ => .recovery
    | _, none => .single
    | _, some _ => .dual := by
  unfold planKind
  cases c.job.kind <;> cases partner <;> rfl

theorem State.planReport_eq (s : State) (k : Nat) {c o : Candidate} {partner : Option Candidate}
    (apart : ∀ p, partner = some p → p.job.num ≠ c.job.num) (mem : o ∈ planOrder c partner) :
    s.planReport k c partner o = .jobAssigned o.job.num k
      ((partner.map fun p => if o.job.num = c.job.num then p.job.num else c.job.num).getD 0) o.dest
      (if o.dest = none then o.outfeed else 0) o.score (s.planSaving k c partner)
      (planEstimate (s.planLegs k (planOrder c partner))) := by
  rw [State.planReport, assignedReport, partnerNumber_planOrder apart mem]
  cases o.dest <;> rfl

/-- Settles O60: the state before the re-examinations, its locations, stations and cranes by the lemmas about them. -/
theorem assignmentFixesThePlan : Obligations.AssignmentFixesThePlan := by
  intro k c partner cands s quiet low high pair inside plan other takes delivers legs estimate saving
  have order : plan = planOrder c partner := by cases partner <;> rfl
  have form : planForm plan := order ▸ planOrder_form pair
  have dests : ∀ o ∈ plan, ∀ l, o.dest = some l → l.inRanges := fun o ho l =>
    inside o l (mem_planOrder (order ▸ ho))
  have reports : plan.foldl (fun (w : Link) o => w.report (s.planReport k c partner o)) s.link =
      plan.foldl (fun (w : Link) o => w.report (.jobAssigned o.job.num k (other o) o.dest
        (if o.dest = none then o.outfeed else 0) o.score saving estimate)) s.link := by
    refine List.foldl_ext _ _ _ fun w o ho => ?_
    rw [State.planReport_eq s k (fun p hp => (pair p hp).1) (order ▸ ho), ← order]
    cases partner <;> rfl
  obtain ⟨u, carried⟩ : ∃ u, (s.fixPlan plan).carryOut k plan legs (planKind c partner) (passedOver plan cands)
    (s.planReport k c partner) = u := ⟨_, rfl⟩
  have written := State.carryOut_fixPlan quiet form legs (planKind c partner) cands (s.planReport k c partner) carried
  have locs : u.locs = (s.fixPlan plan).locs := (congrArg State.locs written :)
  have stations : u.stations = (s.fixPlan plan).stations := (congrArg State.stations written :)
  have cranes : ∀ j, u.crane j = if j = k then { (s.crane k).planned legs (planKind c partner) with chan := .busy }
      else s.crane j := fun j => by
    rw [← carried, State.crane_carryOut _ _ _ _ _ _ _ ⟨low, high⟩]
    simp only [State.crane_fixPlan form]
  refine ⟨fun _ _ _ => rfl, u, ?_, ?_, fun j others => ?_, fun m hm => ?_, fun m => ?_, ?_⟩
  · rw [State.assign_eq, ← order, ← carried]
    rfl
  · rw [cranes, if_pos rfl, planKind_eq]
    rfl
  · rw [cranes, if_neg others]
  · rw [State.loc_congr locs]
    exact State.loc_fixPlan form dests hm
  · rw [State.station_congr stations]
    exact State.station_fixPlan form m
  · rw [locs, stations, ← reports]
    exact written

end Sys2Proof.Machine
end

section
/-! SUPPORT. A step and the dispatch pass: its start, its visits and its end (R68, R70, R71, R91). -/

namespace Sys2Proof.Machine

variable {s : State} {k : Nat}

/-! ## Steps -/

/-- Settles O1: on a queue that is not empty the step's match takes the second arm. -/
theorem stepRunsFrontCommand : Obligations.StepRunsFrontCommand := by
  intro c rest s front
  unfold step
  rw [front]

/-- With no command waiting, a pass that runs or is due goes on. -/
theorem step_dispatches (empty : s.pending = []) (work : s.dispatches = true) : step s = .next s.dispatch := by
  unfold step
  rw [empty]
  exact congrArg _ (if_pos work)

/-! ## The dispatch between two events -/

theorem State.dispatch_due (idle : s.passRun = none) : s.dispatch = s.startPass.closePass.finish := by
  unfold State.dispatch
  rw [idle]
  rfl

theorem State.dispatch_running {p : Pass} (run : s.passRun = some p) : s.dispatch = (s.advancePass p).closePass.finish := by
  unfold State.dispatch
  rw [run]
  rfl

/-- A pass ends where it has no crane left to visit (R70, R91). -/
theorem State.finish_closePass (s : State) : s.closePass.finish = match s.passRun with
    | none => s.finish
    | some p => if p.toVisit = [] then (p.assigned.foldl State.goOn { s with passRun := none }).finish else s.finish := by
  unfold State.closePass
  cases s.passRun with
  | none => rfl
  | some p =>
    simp only [List.isEmpty_iff]
    split <;> rfl

/-! ## A visit (R70) -/

theorem State.selectable_iff : s.selectable k = true ↔ s.mode.run = .run ∧ (s.crane k).chan = .ready ∧
    (s.crane k).aisleNo ∈ s.mode.active ∧ (s.crane k).pos ≠ none := by
  simp [State.selectable, Option.isSome_iff_ne_none, and_assoc]

/-- A selection that assigns nothing leaves the state as it is. -/
theorem State.select_of_unassigned (unassigned : (s.select k).2 = false) : (s.select k).1 = s := by
  by_cases none : s.candidates k = []
  · rw [State.select_of_none none]
  · obtain ⟨c, -, selected⟩ := State.select_of_some none
    rw [selected] at unassigned
    cases unassigned

theorem State.visit_unselectable (h : ¬ s.selectable k = true) : s.visit k = s := if_neg h

theorem State.visit_unassigned (given : s.selectable k = true) (unassigned : (s.select k).2 = false) : s.visit k = s := by
  simp [State.visit, given, unassigned, State.select_of_unassigned]

theorem State.visit_assigned (given : s.selectable k = true) (assigned : (s.select k).2 = true) :
    s.visit k = (s.select k).1.passAssigned k := by
  simp [State.visit, given, assigned]

/-! ## Cranes that leave the pass, and first legs kept back (R67, R91) -/

theorem State.chanTo_passRun (s : State) (k : Nat) (st : ChanState) (r : ChanReason) :
    (s.chanTo k st r).passRun = s.passWithout k := by
  unfold State.chanTo
  dsimp only
  split <;> simp

theorem State.goOn_withheld (h : s.withheld k = true) : s.goOn k = s :=
  if_neg (by simp [State.mayGoOn, h])

/-- Settles O3: a dispatch starts the pass or visits the next crane, then closes a pass with none left. -/
theorem passVisitsTheReadyOrder : Obligations.PassVisitsTheReadyOrder := by
  constructor
  · intro s empty ends goes
    have closes : ∀ u : State, u.closePass.finish = goes u := State.finish_closePass
    have visits : ∀ p, s.passRun = some p → step s = .next (goes (s.advancePass p)) := fun p running => by
      rw [step_dispatches empty (by simp [State.dispatches, running]), State.dispatch_running running, closes]
    refine ⟨fun idle due run => ?_, fun assigned running => ?_, ?_⟩
    · rw [step_dispatches empty (by simp [State.dispatches, due, run]), State.dispatch_due idle, closes]
      rfl
    · rw [visits _ running]
      simp [goes, State.advancePass, running]
    · intro k rest assigned running v given
      have goesOn : step s = .next (goes (v.visit k)) := visits _ running
      have selectable : v.selectable k = true ↔ given := State.selectable_iff
      rw [goesOn]
      refine ⟨fun notGiven => ?_, fun isGiven unassigned => ?_, fun isGiven assigns => ?_⟩
      · rw [State.visit_unselectable (mt selectable.mp notGiven)]
      · rw [State.visit_unassigned (selectable.mpr isGiven) unassigned]
      · rw [State.visit_assigned (selectable.mpr isGiven) assigns]
        rfl
  · intro s k p running
    refine ⟨fun st r => ?_, fun assigned => ?_⟩
    · rw [State.chanTo_passRun, State.passWithout, running]
      rfl
    · exact State.goOn_withheld (by simp [State.withheld, running, assigned])

end Sys2Proof.Machine
end

section
/-! SUPPORT. The choice of a destination (R78, R79) and of an outfeed (R81). -/

namespace Sys2Proof.Machine

variable {s : State} {k : Nat}

/-! ## What a crane can use (R72) -/

theorem State.serves_iff {t : Station} : s.serves k t = true ↔ ∃ g, (s.crane k).cfg = some g ∧ g.aisle = t.aisle ∧
    (s.twinAisle g.aisle = true → (g.role = .a ∧ t.railEnd = .front) ∨ (g.role = .b ∧ t.railEnd = .rear)) := by
  unfold State.serves
  cases (s.crane k).cfg <;> simp [imp_iff_not_or]

theorem State.usableOutfeed_iff {n : Nat} {t : Station} : s.usableOutfeed k n t = true ↔
    t.kind = .outfeed ∧ t.aisle = n ∧ s.inRange k t.point.x = true ∧ t.occ + t.pend < t.capacity ∧ s.serves k t = true := by
  simp only [State.usableOutfeed, Station.hasRoom, Bool.and_eq_true, beq_iff_eq, decide_eq_true_eq]
  tauto

/-! ## Eligible locations (R78) -/

theorem State.depthFits_iff {l : Loc} : s.depthFits l = true ↔
    (l.depth = .front → (s.loc { l with depth := .rear }).occ ≠ .empty) ∧
      (l.depth = .rear → (s.loc { l with depth := .front }).occ = .empty) := by
  unfold State.depthFits
  cases l.depth <;> simp

theorem DestWish.outside_iff {w : DestWish} {l : Loc} : w.outside l = true ↔
    ∀ o, w.clears = some o → locKey { o with depth := .front } ≠ locKey { l with depth := .front } := by
  unfold DestWish.outside
  cases w.clears <;> simp [pairKey]

theorem State.pairFree_iff {l : Loc} : s.pairBusy l = false ↔ ∀ d ∈ [Depth.front, Depth.rear],
    (s.loc { l with depth := d }).occ ≠ .inbound ∧ (s.loc { l with depth := d }).occ ≠ .outbound := by
  rw [← Bool.not_eq_true, State.pairBusy_iff]
  push Not
  rfl

theorem State.eligible_iff {w : DestWish} {l : Loc} : s.eligible k w l = true ↔
    l.aisle = w.aisle ∧ w.zone.hits (locCode l) = true ∧ s.inReach k l = true ∧ s.inRange k (s.locPoint l).x = true ∧
      (s.loc l).occ = .empty ∧
      (∀ d ∈ [Depth.front, Depth.rear], (s.loc { l with depth := d }).occ ≠ .inbound ∧
        (s.loc { l with depth := d }).occ ≠ .outbound) ∧
      (s.loc l).attrs.noStore = false ∧ (s.loc l).attrs.inspect = false ∧ w.height ≤ (s.loc l).height ∧
      (l.depth = .front → (s.loc { l with depth := .rear }).occ ≠ .empty) ∧
      (l.depth = .rear → (s.loc { l with depth := .front }).occ = .empty) ∧
      (∀ o, w.clears = some o → locKey { o with depth := .front } ≠ locKey { l with depth := .front }) := by
  unfold State.eligible
  simp only [Bool.and_eq_true, State.pairFree_iff, State.depthFits_iff, DestWish.outside_iff, beq_iff_eq,
    decide_eq_true_eq, Bool.not_eq_true', and_assoc]

/-! ## The order of locations (R79) -/

theorem Side.code_lt_iff {a b : Side} : a.code < b.code ↔ a = .left ∧ b = .right := by
  cases a <;> cases b <;> decide

theorem Side.code_inj {a b : Side} : a.code = b.code ↔ a = b := by
  cases a <;> cases b <;> decide

theorem Depth.code_lt_iff {a b : Depth} : a.code < b.code ↔ a = .front ∧ b = .rear := by
  cases a <;> cases b <;> decide

theorem Depth.code_inj {a b : Depth} : a.code = b.code ↔ a = b := by
  cases a <;> cases b <;> decide

/-- Ranks of one aisle tell its locations apart, by column, level, LEFT before RIGHT, REAR before FRONT. -/
theorem before_of_locRank_le {l m : Loc} (levelL : l.level ≤ 32) (levelM : m.level ≤ 32) (aisle : l.aisle = m.aisle)
    (ne : m ≠ l) (le : locRank l ≤ locRank m) :
    l.column < m.column ∨ (l.column = m.column ∧ (l.level < m.level ∨ (l.level = m.level ∧
      ((l.side = .left ∧ m.side = .right) ∨ (l.side = m.side ∧ l.depth = .rear ∧ m.depth = .front))))) := by
  have apart : ¬ (l.column = m.column ∧ l.level = m.level ∧ l.side.code = m.side.code ∧ l.depth.code = m.depth.code) := by
    rw [Side.code_inj, Depth.code_inj]
    rintro ⟨column, level, side, depth⟩
    cases l
    cases m
    simp_all
  rw [and_comm (a := l.depth = .rear), ← Side.code_lt_iff, ← Side.code_inj, ← Depth.code_lt_iff]
  have := l.side.code_le
  have := m.side.code_le
  have := l.depth.code_le
  have := m.depth.code_le
  unfold locRank at le
  omega

/-! ## The choices -/

theorem State.putBefore_iff {start : Point} (l m : Loc) : s.putBefore k start l m = true ↔
    toLex (s.putEstimate k start l, locRank l) < toLex (s.putEstimate k start m, locRank m) := by
  simp [State.putBefore, Prod.Lex.toLex_lt_toLex]

theorem State.mem_destinations {w : DestWish} {m : Loc} (inside : m.inRanges) (fits : s.eligible k w m = true) :
    m ∈ (s.listedLocs w.aisle).filter (s.eligible k w) := by
  obtain ⟨aisle, -, -, -, empty, -⟩ := State.eligible_iff.mp fits
  exact List.mem_filter.mpr ⟨aisle ▸ State.mem_listedLocs inside empty, fits⟩

theorem State.level_of_listed {n : Nat} {l : Loc} (h : l ∈ s.listedLocs n) : l.level ≤ 32 := by
  obtain ⟨listed, -⟩ := List.mem_filter.mp h
  obtain ⟨e, -, rfl⟩ := List.mem_map.mp listed
  simp only [keyLoc]
  omega

theorem State.chooseDest_none {w : DestWish} (h : s.chooseDest k w = none) {m : Loc} (inside : m.inRanges) :
    ¬ s.eligible k w m = true := by
  intro fits
  have mem := State.mem_destinations inside fits
  rw [bestOf_none h] at mem
  cases mem

theorem State.chooseDest_eligible {w : DestWish} {l : Loc} (h : s.chooseDest k w = some l) : s.eligible k w l = true :=
  (List.mem_filter.mp (bestOf_mem h)).2

/-- Every other eligible location has a higher PUT estimate, or the same and a later place (R79). -/
theorem State.chooseDest_first {w : DestWish} {l m : Loc} (h : s.chooseDest k w = some l) (inside : m.inRanges)
    (fits : s.eligible k w m = true) (ne : m ≠ l) :
    s.putEstimate k w.start l < s.putEstimate k w.start m ∨ (s.putEstimate k w.start l = s.putEstimate k w.start m ∧
      (l.column < m.column ∨ (l.column = m.column ∧ (l.level < m.level ∨ (l.level = m.level ∧
        ((l.side = .left ∧ m.side = .right) ∨ (l.side = m.side ∧ l.depth = .rear ∧ m.depth = .front))))))) := by
  have first := Prod.Lex.toLex_le_toLex.mp (bestOf_least State.putBefore_iff h m (State.mem_destinations inside fits))
  have aisle : l.aisle = m.aisle :=
    (State.eligible_iff.mp (State.chooseDest_eligible h)).1.trans (State.eligible_iff.mp fits).1.symm
  have level : l.level ≤ 32 := State.level_of_listed (List.mem_filter.mp (bestOf_mem h)).1
  exact first.imp_right fun ⟨same, rank⟩ => ⟨same, before_of_locRank_le level inside.2.2.2 aisle ne rank⟩

/-- The key of an outfeed: its T from the source's point, then its number (R81). -/
def State.outfeedKey (s : State) (k : Nat) (l : Loc) (e : Nat × Station) : Nat ×ₗ Nat :=
  toLex ((s.crane k).travel (s.locPoint l) e.2.point, e.1)

theorem State.chooseOutfeed_none {l : Loc} (h : s.chooseOutfeed k l = none) {e : Nat × Station} (listed : e ∈ s.stations) :
    ¬ s.usableOutfeed k l.aisle e.2 = true := by
  intro usable
  have mem : e ∈ s.stations.filter (fun e => s.usableOutfeed k l.aisle e.2) := List.mem_filter.mpr ⟨listed, usable⟩
  rw [bestOf_none (Option.map_eq_none_iff.mp h)] at mem
  cases mem

/-- The chosen outfeed is usable, and every usable one has no smaller key. -/
theorem State.chooseOutfeed_some {l : Loc} {n : Nat} (h : s.chooseOutfeed k l = some n) :
    ∃ t, (n, t) ∈ s.stations ∧ s.usableOutfeed k l.aisle t = true ∧ ∀ e ∈ s.stations, s.usableOutfeed k l.aisle e.2 = true →
      s.outfeedKey k l (n, t) ≤ s.outfeedKey k l e := by
  obtain ⟨⟨_, t⟩, best, rfl⟩ := Option.map_eq_some_iff.mp h
  obtain ⟨listed, usable⟩ := List.mem_filter.mp (bestOf_mem best)
  refine ⟨t, listed, usable, fun e he usableE => bestOf_least (fun a b => ?_) best e (List.mem_filter.mpr ⟨he, usableE⟩)⟩
  simp [State.outfeedKey, Prod.Lex.toLex_lt_toLex]

/-- Settles O57: the choices have the least keys, and places and numbers tell keys apart. -/
theorem destinationIsTheNearestEligible : Obligations.DestinationIsTheNearestEligible := by
  constructor
  · intro k w s fits cost
    have eligible : ∀ m, s.eligible k w m = true ↔ fits m := fun m => State.eligible_iff
    exact ⟨fun none m inside => mt (eligible m).mpr (State.chooseDest_none none inside), fun l chosen =>
      ⟨(eligible l).mp (State.chooseDest_eligible chosen), fun m inside fitsM =>
        State.chooseDest_first chosen inside ((eligible m).mpr fitsM)⟩⟩
  · intro k l s fits cost
    have usable : ∀ e, fits e ↔ e ∈ s.stations ∧ s.usableOutfeed k l.aisle e.2 = true := fun e => by
      rw [State.usableOutfeed_iff, State.serves_iff]
    refine ⟨fun none e fitsE => ?_, fun n chosen => ?_⟩
    · obtain ⟨listed, usableE⟩ := (usable e).mp fitsE
      exact State.chooseOutfeed_none none listed usableE
    · obtain ⟨t, listed, usableT, first⟩ := State.chooseOutfeed_some chosen
      refine ⟨t, (usable (n, t)).mpr ⟨listed, usableT⟩, fun e fitsE ne => ?_⟩
      obtain ⟨listedE, usableE⟩ := (usable e).mp fitsE
      have before : cost (n, t) < cost e ∨ cost (n, t) = cost e ∧ n ≤ e.1 :=
        Prod.Lex.toLex_le_toLex.mp (first e listedE usableE)
      omega

end Sys2Proof.Machine
end

section
/-! SUPPORT. The candidates of a selection (R72 to R77, R148): the test of each kind, and what the record holds. -/

namespace Sys2Proof.Machine

variable {s : State} {k : Nat} {j : Job} {c : Candidate}

/-! ## The single-cycle estimate of each kind (R60, R87) -/

@[simp] theorem distance_self (span p : Nat) : distance span p p = 0 := by simp [distance]

@[simp] theorem Crane.travel_self (c : Crane) (p : Point) : c.travel p p = 0 := by
  simp [Crane.travel, moveTime]

theorem Job.grouped_of_retrieve (kind : j.kind = .retrieve) : j.grouped = true ↔ j.group ≠ 0 := by
  simp [Job.grouped, kind]

theorem State.estimate_storeLegs (s : State) (k : Nat) (p : Point) (j : Job) (l : Loc) :
    planEstimate (s.mkPlan k p (storeLegs j l)) =
      (s.crane k).legEstimate .fetch false p (s.stationPoint j.station) +
        (s.crane k).legEstimate .put (l.depth == .rear) (s.stationPoint j.station) (s.locPoint l) := rfl

theorem State.estimate_relocateLegs (s : State) (k : Nat) (p : Point) (j : Job) (l m : Loc) :
    planEstimate (s.mkPlan k p (relocateLegs j l m)) =
      (s.crane k).legEstimate .fetch (l.depth == .rear) p (s.locPoint l) +
        (s.crane k).legEstimate .put (m.depth == .rear) (s.locPoint l) (s.locPoint m) := rfl

theorem State.stationPoint_eq {n : Nat} {t : Station} (here : s.station n = some t) : s.stationPoint n = t.point := by
  rw [State.stationPoint, here]

/-- A grouped approach leaves the estimate as it is: the PUT behind it starts where the approach has ended. -/
theorem State.estimate_retrieveLegs (s : State) (k : Nat) (p : Point) (j : Job) (l : Loc) (o : Nat) :
    planEstimate (s.mkPlan k p (retrieveLegs j l o)) =
      (s.crane k).legEstimate .fetch (l.depth == .rear) p (s.locPoint l) +
        (s.crane k).legEstimate .put false (s.locPoint l) (s.stationPoint o) := by
  unfold retrieveLegs
  split
  · simp [planEstimate, State.mkPlan, State.mkLeg, fetchSpec, approachSpec, putSpec, State.targetPoint, Target.rear,
      Crane.legEstimate, Crane.handling]
  · rfl

theorem retrieveLegs_eq (kind : j.kind = .retrieve) (l : Loc) (o : Nat) : retrieveLegs j l o =
    [fetchSpec j (.location l)] ++ (if j.group = 0 then [] else [approachSpec j (.station o)]) ++ [putSpec j (.station o)] := by
  unfold retrieveLegs
  by_cases group : j.group = 0 <;> simp [Job.grouped_of_retrieve kind, group]

/-- A record is the candidate's with these items where it holds them and their score. -/
theorem State.candidateOf_eq_iff {dest : Option Loc} {o : Nat} {legs : List LegSpec} :
    s.candidateOf k c.job dest o legs = c ↔ c.dest = dest ∧ c.outfeed = o ∧ c.legs = legs ∧
      c.score = planEstimate (s.mkPlan k (s.startPoint k) legs) + s.policy.offset c.job.cls := by
  cases c
  simp [State.candidateOf, eq_comm]

/-! ## Locations a crane can use (R72) -/

theorem State.canUse_iff {l : Loc} : s.canUse k l = true ↔
    l.aisle = (s.crane k).aisleNo ∧ s.inRange k (s.locPoint l).x = true ∧
      ∃ r, (s.crane k).reach = some r ∧
        (r.a.hits (locCode l) = true ∨ (r.bOn = true ∧ r.b.hits (locCode l) = true)) := by
  simp only [State.canUse, Bool.and_eq_true, beq_iff_eq, State.inReach_iff, Reach.hits, Bool.or_eq_true, and_assoc]
  exact and_congr_right fun _ => and_comm

theorem Crane.emptyForks_iff {c : Crane} : c.emptyForks = true ↔ c.load = none := Option.isNone_iff_eq_none

theorem Crane.unresolved_iff {c : Crane} : c.unresolved = true ↔ ∃ w, c.load = some w ∧ w.resolved = false := by
  unfold Crane.unresolved
  cases c.load <;> simp

/-! ## The dispatch condition (R148) -/

/-- A job's position in its group is under way. -/
def JobState.underWay (st : JobState) : Prop :=
  st = .assigned ∨ st = .active ∨ st = .carried ∨ st.isUncertain = true

theorem State.positionClear_iff {g : Group} {o q : Nat} : s.positionClear g o q = true ↔
    q ∈ g.settled ∨ ∃ n i, tableGet q g.held = some n ∧ s.job n = some i ∧ i.state.underWay ∧ i.station ≠ o := by
  unfold State.positionClear
  rw [Bool.or_eq_true, List.contains_iff_mem]
  refine or_congr_right ?_
  cases tableGet q g.held with
  | none => simp
  | some n =>
    cases job : s.job n with
    | none => simp [job]
    | some i => cases state : i.state <;> simp [job, state, JobState.underWay, JobState.isUncertain]

theorem State.dispatchCondition_iff {o : Nat} : s.dispatchCondition j o = true ↔
    ∃ g, s.group j.group = some g ∧ j.position < g.d + s.policy.window ∧
      ∀ q, g.d ≤ q → q < j.position → s.positionClear g o q = true := by
  unfold State.dispatchCondition
  cases s.group j.group with
  | none => simp
  | some g =>
    have below : (∀ i < j.position - g.d, s.positionClear g o (g.d + i) = true) ↔
        ∀ q, g.d ≤ q → q < j.position → s.positionClear g o q = true := by
      refine ⟨fun all q low high => ?_, fun all i hi => all _ (by omega) (by omega)⟩
      have at_q := all (q - g.d) (by omega)
      rwa [Nat.add_sub_cancel' low] at at_q
    simp [below]

/-! ## The candidate of each kind (R73 to R76) -/

/-- The destination of a store's candidate: the choice of R78 and R79, or its explicit target (R74). -/
def State.storeDest (s : State) (k : Nat) (j : Job) (t : Station) : Option Loc :=
  match j.zone with
  | some z => s.chooseDest k { aisle := t.aisle, zone := z, height := j.height, clears := none, start := t.point }
  | none => j.dest.filter (s.canUse k)

theorem State.storeCandidate_some_iff : s.storeCandidate k c.job = some c ↔
    ∃ t l, s.station c.job.station = some t ∧ s.serves k t = true ∧ s.inRange k t.point.x = true ∧
      s.storeDest k c.job t = some l ∧ s.candidateOf k c.job (some l) 0 (storeLegs c.job l) = c := by
  unfold State.storeCandidate
  cases s.station c.job.station with
  | none => simp
  | some t =>
    change (if (s.serves k t && s.inRange k t.point.x) = true then
      (s.storeDest k c.job t).map fun l => s.candidateOf k c.job (some l) 0 (storeLegs c.job l) else none) = some c ↔ _
    simp [and_assoc]

theorem State.retrieveCandidate_some_iff : s.retrieveCandidate k c.job = some c ↔
    ∃ l, c.job.source = some l ∧ s.canUse k l = true ∧ s.retrieveOutfeed k c.job l = some c.outfeed ∧
      (c.job.grouped = true → s.dispatchCondition c.job c.outfeed = true) ∧
      s.candidateOf k c.job none c.outfeed (retrieveLegs c.job l c.outfeed) = c := by
  unfold State.retrieveCandidate
  cases c.job.source with
  | none => simp
  | some l =>
    dsimp only
    cases outfeed : s.retrieveOutfeed k c.job l with
    | none => simp [outfeed]
    | some o =>
      have holds : s.candidateOf k c.job none o (retrieveLegs c.job l o) = c → o = c.outfeed := congrArg Candidate.outfeed
      simp only [Option.ite_none_right_eq_some, Option.some.injEq, exists_eq_left', outfeed, Bool.or_eq_true,
        Bool.not_eq_true', ← Bool.not_eq_true, ← imp_iff_not_or]
      refine and_congr_right fun _ => ⟨fun ⟨meets, record⟩ => ?_, fun ⟨same, meets, record⟩ => ?_⟩
      · obtain rfl := holds record
        exact ⟨rfl, meets, record⟩
      · subst same
        exact ⟨meets, record⟩

theorem State.relocateCandidate_some_iff : s.relocateCandidate k c.job = some c ↔
    ∃ l m, c.job.source = some l ∧ s.canUse k l = true ∧
      s.chooseDest k (s.relocationWish l (s.locPoint l)) = some m ∧
      s.candidateOf k c.job (some m) 0 (relocateLegs c.job l m) = c := by
  unfold State.relocateCandidate
  cases c.job.source with
  | none => simp
  | some l => simp

/-- The outfeed of a retrieve: its named station with room, or the choice of R81 (R75). -/
theorem State.retrieveOutfeed_some_iff {l : Loc} {o : Nat} : s.retrieveOutfeed k j l = some o ↔
    if j.stationNamed = true then o = j.station ∧ ∃ t, s.station j.station = some t ∧ s.usableOutfeed k l.aisle t = true
    else s.chooseOutfeed k l = some o := by
  unfold State.retrieveOutfeed
  split
  · rw [eq_comm (a := o)]
    cases s.station j.station with
    | none => simp
    | some t => simp [and_comm]
  · rfl

/-- The test a READY job must pass, by its kind. -/
theorem State.candidate_some_iff : s.candidate k c.job = some c ↔ c.job.state = .ready ∧
    match c.job.kind with
    | .recover => (s.crane k).unresolved = true ∧ c.job.crane = k ∧ s.recoverFits k c.job = true ∧
        s.candidateOf k c.job c.job.dest c.job.station (recoverLegs c.job) = c
    | .store => (s.crane k).load = none ∧ s.storeCandidate k c.job = some c
    | .retrieve => (s.crane k).load = none ∧ s.retrieveCandidate k c.job = some c
    | .relocate => (s.crane k).load = none ∧ s.relocateCandidate k c.job = some c := by
  unfold State.candidate
  by_cases ready : c.job.state = .ready
  · cases c.job.kind <;> simp [ready, Crane.emptyForks_iff, and_assoc]
  · simp [ready]

/-! ## The candidates in pool order -/

/-- Where `g` gives back what `f` was given, the elements that `f` keeps stand in the list's order. -/
theorem map_filterMap_sublist {α β : Type} {f : α → Option β} {g : β → α} (back : ∀ a b, f a = some b → g b = a) (l : List α) :
    List.Sublist ((l.filterMap f).map g) l := by
  induction l with
  | nil => exact .slnil
  | cons a t ih =>
    cases found : f a with
    | none => simpa [found] using ih.cons a
    | some b => simpa [found, back a b found] using ih

/-- Settles O58: the test of the job's kind, item by item. -/
theorem candidatesPassTheTestsOfTheirKind : Obligations.CandidatesPassTheTestsOfTheirKind := by
  intro k s crane usable served mayFollow p leg offset
  have canUse : ∀ l, s.canUse k l = true ↔ usable l := fun l => State.canUse_iff
  have serves : ∀ t, s.serves k t = true ∧ s.inRange k t.point.x = true ↔ served t := fun t => by
    rw [State.serves_iff, and_comm]
  have follows : ∀ j o, s.dispatchCondition j o = true ↔ mayFollow j o := fun j o => by
    simp only [State.dispatchCondition_iff, State.positionClear_iff]
    rfl
  have outfeeds : ∀ n t, s.usableOutfeed k n t = true ↔
      t.kind = .outfeed ∧ t.aisle = n ∧ served t ∧ t.occ + t.pend < t.capacity := fun n t => by
    rw [State.usableOutfeed_iff, ← serves]
    tauto
  have offsets : ∀ j : Job, s.policy.offset j.cls = offset j := fun j => by
    unfold Policy.offset
    rfl
  refine ⟨map_filterMap_sublist (fun j c => State.candidate_job) s.pool, fun c => ?_⟩
  rw [State.mem_candidates_iff, State.candidate_some_iff]
  refine and_congr_right fun _ => and_congr_right fun _ => ?_
  cases kind : c.job.kind
  case store =>
    dsimp only
    rw [State.storeCandidate_some_iff]
    refine and_congr_right fun _ => exists_congr fun t => exists_congr fun l => and_congr_right fun here => ?_
    rw [← and_assoc, serves, State.candidateOf_eq_iff, State.estimate_storeLegs, State.stationPoint_eq here, offsets]
    refine and_congr_right fun _ => and_congr_left fun _ => ?_
    unfold State.storeDest
    cases c.job.zone <;> simp [Option.filter_eq_some_iff, canUse]
  case retrieve =>
    dsimp only
    rw [State.retrieveCandidate_some_iff]
    refine and_congr_right fun _ => exists_congr fun l => and_congr_right fun source => ?_
    rw [canUse, State.retrieveOutfeed_some_iff, Job.grouped_of_retrieve kind, follows, State.candidateOf_eq_iff,
      State.estimate_retrieveLegs, retrieveLegs_eq kind, offsets]
    simp only [outfeeds, true_and]
    rfl
  case relocate =>
    dsimp only
    rw [State.relocateCandidate_some_iff]
    refine and_congr_right fun _ => exists_congr fun l => exists_congr fun m => and_congr_right fun _ => ?_
    rw [canUse, State.candidateOf_eq_iff, State.estimate_relocateLegs, offsets]
    rfl
  case recover =>
    dsimp only
    rw [Crane.unresolved_iff, State.candidateOf_eq_iff, offsets]
    unfold State.recoverFits recoverLegs Job.recoverTarget
    refine and_congr_right fun _ => and_congr_right fun _ => ?_
    cases c.job.dest with
    | none =>
      exact ⟨fun ⟨fits, dest, outfeed, record⟩ => ⟨dest, outfeed, fits, record⟩,
        fun ⟨dest, outfeed, fits, record⟩ => ⟨fits, dest, outfeed, record⟩⟩
    | some l =>
      exact ⟨fun ⟨fits, dest, outfeed, record⟩ => ⟨dest, outfeed, (canUse l).mp fits, record⟩,
        fun ⟨dest, outfeed, fits, record⟩ => ⟨(canUse l).mpr fits, dest, outfeed, record⟩⟩

end Sys2Proof.Machine
end

section
/-! SUPPORT. The rail arbiter's invariant (R97, R125, R127): the claims of a twin aisle's cranes stay apart. -/

namespace Sys2Proof.Machine

variable {b : Bool} {s t : State} {k : Nat}

/-! ## Roles and twins (R123) -/

theorem Crane.hasRole_iff {c : Crane} {n : Nat} {r : Role} :
    c.hasRole n r = true ↔ ∃ g, c.cfg = some g ∧ g.aisle = n ∧ g.role = r := by
  unfold Crane.hasRole
  cases c.cfg <;> simp

theorem Crane.hasRole_congr {c d : Crane} (h : c.cfg = d.cfg) (n : Nat) (r : Role) : c.hasRole n r = d.hasRole n r := by
  simp only [Crane.hasRole, h]

theorem Crane.inAisle_of_hasRole {c : Crane} {n : Nat} {r : Role} (h : c.hasRole n r = true) : c.inAisle n = true := by
  obtain ⟨g, cfg, aisle, -⟩ := Crane.hasRole_iff.mp h
  simp [Crane.inAisle, cfg, aisle]

theorem Crane.role_of_hasRole {c : Crane} {n : Nat} {r : Role} (h : c.hasRole n r = true) : c.role = r := by
  obtain ⟨g, cfg, -, role⟩ := Crane.hasRole_iff.mp h
  simp [Crane.role, cfg, role]

theorem State.listed_of_hasRole {j n : Nat} {r : Role} (h : (s.crane j).hasRole n r = true) : j ∈ craneNumbers := by
  obtain ⟨g, cfg, -⟩ := Crane.hasRole_iff.mp h
  have number : 1 ≤ j ∧ j ≤ 12 := State.crane_number (s := s) (by simp [Crane.configured, cfg])
  simp only [craneNumbers, List.mem_cons, List.not_mem_nil]
  omega

theorem State.gaps_comm (s : State) (i j : Nat) : s.gaps i j = s.gaps j i := Nat.add_comm _ _

theorem State.gaps_congr {i j : Nat} (hi : (t.crane i).cfg = (s.crane i).cfg) (hj : (t.crane j).cfg = (s.crane j).cfg) :
    t.gaps i j = s.gaps i j := by
  simp only [State.gaps, Crane.gap, hi, hj]

/-- The crane in the other role of a twin aisle is the twin. -/
theorem State.twinOf_of_hasRole {i j n : Nat} {r : Role} (unique : s.rolesUnique) (twin : s.twinAisle n = true)
    (pair : r ≠ .single) (hi : (s.crane i).hasRole n r = true) (hj : (s.crane j).hasRole n r.other = true) :
    s.twinOf i = some j := by
  obtain ⟨g, cfg, rfl, rfl⟩ := Crane.hasRole_iff.mp hi
  unfold State.twinOf
  simp only [cfg, twin, Bool.true_and, bne_iff_ne, ne_eq, pair, not_false_eq_true, if_true]
  cases found : craneNumbers.find? (fun j => (s.crane j).hasRole g.aisle g.role.other) with
  | none => exact absurd hj (List.find?_eq_none.mp found j (State.listed_of_hasRole hj))
  | some m => exact congrArg some (unique m j _ _ (by simpa using List.find?_some found) hj)

/-! ## What keeps the invariant -/

/-- Claims may be given up. An aisle's twin flag may change where no crane of the aisle holds a claim. -/
theorem State.railSafe_of_fewer (cfg : ∀ j, (t.crane j).cfg = (s.crane j).cfg)
    (claim : ∀ j, (t.crane j).claim = (s.crane j).claim ∨ (t.crane j).claim = none)
    (twin : ∀ n, t.twinAisle n = s.twinAisle n ∨ ∀ j, (t.crane j).inAisle n = true → (t.crane j).claim = none)
    (hs : s.railSafe) : t.railSafe := by
  obtain ⟨unique, owned, clear⟩ := hs
  have role : ∀ j n r, (t.crane j).hasRole n r = (s.crane j).hasRole n r := fun j => Crane.hasRole_congr (cfg j)
  refine ⟨fun i j n r hi hj => unique i j n r (role i n r ▸ hi) (role j n r ▸ hj), fun j none => ?_, ?_⟩
  · exact (claim j).elim (fun same => same.trans (owned j ((cfg j).symm.trans none))) id
  · intro i j n v w pair hi hj hv hw
    obtain same | free := twin n
    · have kept : ∀ {j v}, (t.crane j).claim = some v → (s.crane j).claim = some v := fun {j v} h =>
        (claim j).elim (fun same => same.symm.trans h) fun none => by simp [none] at h
      rw [State.gaps_congr (cfg i) (cfg j)]
      exact clear i j n v w (same ▸ pair) (role i n _ ▸ hi) (role j n _ ▸ hj) (kept hv) (kept hw)
    · simp [free i (Crane.inAisle_of_hasRole hi)] at hv

/-- A configured crane may take a claim that keeps clear of its twin's. -/
theorem State.railSafe_setClaim {v : Span} (configured : (s.crane k).cfg ≠ none)
    (apart : ∀ j w, s.twinOf k = some j → (s.crane j).claim = some w →
      keepsClear (s.crane k).role (s.gaps k j) v w = true)
    (hs : s.railSafe) : (s.setClaim k (some v)).railSafe := by
  obtain ⟨unique, owned, clear⟩ := hs
  have number : 1 ≤ k ∧ k ≤ 12 := State.crane_number (s := s) (Option.isSome_iff_ne_none.mpr configured)
  have cfg : ∀ j, ((s.setClaim k (some v)).crane j).cfg = (s.crane j).cfg := fun j =>
    State.crane_updCrane_part Crane.cfg s k j fun _ => rfl
  have mine : ((s.setClaim k (some v)).crane k).claim = some v := by
    rw [State.setClaim, State.crane_updCrane_self s number]
  have others : ∀ {j}, j ≠ k → ((s.setClaim k (some v)).crane j).claim = (s.crane j).claim := fun other =>
    congrArg Crane.claim (State.crane_updCrane_other s other _)
  have role : ∀ j n r, ((s.setClaim k (some v)).crane j).hasRole n r = (s.crane j).hasRole n r := fun j =>
    Crane.hasRole_congr (cfg j)
  refine ⟨fun i j n r hi hj => unique i j n r (role i n r ▸ hi) (role j n r ▸ hj), fun j none => ?_, ?_⟩
  · have other : j ≠ k := fun same => configured (same ▸ (cfg j).symm.trans none)
    exact (others other).trans (owned j ((cfg j).symm.trans none))
  · intro i j n p q pair hi hj hp hq
    rw [role] at hi hj
    rw [State.gaps_congr (cfg i) (cfg j)]
    have pair : s.twinAisle n = true := by
      simpa [State.twinAisle, State.aisle, State.setClaim] using pair
    have distinct : i ≠ j := by
      rintro rfl
      simpa [Crane.role_of_hasRole hi] using Crane.role_of_hasRole hj
    by_cases hik : i = k
    · subst i
      rw [others distinct.symm] at hq
      obtain rfl : v = p := Option.some.inj (mine.symm.trans hp)
      have test := apart j q (State.twinOf_of_hasRole unique pair (by decide) hi hj) hq
      simpa [Crane.role_of_hasRole hi, keepsClear] using test
    rw [others hik] at hp
    by_cases hjk : j = k
    · subst j
      obtain rfl : v = q := Option.some.inj (mine.symm.trans hq)
      have test := apart i p (State.twinOf_of_hasRole unique pair (by decide) hj hi) hp
      rw [State.gaps_comm]
      simpa [Crane.role_of_hasRole hj, keepsClear] using test
    · rw [others hjk] at hq
      exact clear i j n p q pair hi hj hp hq

/-- A crane's claim lies in its rail span (R125). -/
theorem Crane.claim_in_railSpan {c : Crane} {v w : Span} (claim : c.claim = some v) (span : c.railSpan = some w) :
    w.lo ≤ v.lo ∧ v.hi ≤ w.hi := by
  unfold Crane.railSpan at span
  rw [claim] at span
  cases pos : c.pos <;> simp only [pos, Option.some.injEq] at span <;> subst span
  · exact ⟨le_refl _, le_refl _⟩
  · exact ⟨min_le_left _ _, le_max_left _ _⟩

/-- Room kept from an interval is room kept from what lies in it. -/
theorem keepsClear_within {role : Role} {gaps : Nat} {v u w : Span} (inside : u.lo ≤ w.lo ∧ w.hi ≤ u.hi)
    (clear : keepsClear role gaps v u = true) : keepsClear role gaps v w = true := by
  obtain ⟨lo, hi⟩ := inside
  cases role <;> simp only [keepsClear, decide_eq_true_eq] at clear ⊢ <;> omega

/-- A part of an interval keeps clear where the interval does. -/
theorem keepsClear_of_within {role : Role} {gaps : Nat} {v w u : Span} (inside : v.within (some w))
    (clear : keepsClear role gaps w u = true) : keepsClear role gaps v u = true := by
  obtain ⟨lo, hi⟩ := inside
  cases role <;> simp only [keepsClear, decide_eq_true_eq] at clear ⊢ <;> omega

theorem State.configured_of_inTwin (h : s.inTwin k = true) : (s.crane k).cfg ≠ none := by
  intro none
  simp [State.inTwin, none] at h

theorem State.grantTest_iff {v : Span} : s.grantTest k v = true ↔
    ∃ j u, s.twinOf k = some j ∧ (s.crane j).railSpan = some u ∧ keepsClear (s.crane k).role (s.gaps k j) v u = true := by
  unfold State.grantTest
  cases s.twinOf k with
  | none => simp
  | some j => cases span : (s.crane j).railSpan <;> simp [span]

theorem State.twinOf_some {j : Nat} (h : s.twinOf k = some j) : ∃ g, (s.crane k).cfg = some g ∧
    s.twinAisle g.aisle = true ∧ g.role ≠ .single ∧ (s.crane j).hasRole g.aisle g.role.other = true := by
  unfold State.twinOf at h
  cases cfg : (s.crane k).cfg with
  | none => simp [cfg] at h
  | some g =>
    simp only [cfg] at h
    split at h
    · rename_i pair
      simp only [Bool.and_eq_true, bne_iff_ne, ne_eq] at pair
      exact ⟨g, rfl, pair.1, pair.2, by simpa using List.find?_some h⟩
    · simp at h

/-- The claims of twins keep clear of one another, seen from either of the two. -/
theorem State.claims_keepClear {j : Nat} {v w : Span} (clear : s.claimsClear) (twin : s.twinOf k = some j)
    (hv : (s.crane k).claim = some v) (hw : (s.crane j).claim = some w) :
    keepsClear (s.crane k).role (s.gaps k j) v w = true := by
  obtain ⟨g, cfg, pair, two, other⟩ := State.twinOf_some twin
  have mine : (s.crane k).hasRole g.aisle g.role = true := Crane.hasRole_iff.mpr ⟨g, cfg, rfl, rfl⟩
  have named : (s.crane k).role = g.role := Crane.role_of_hasRole mine
  cases role : g.role <;> rw [role] at mine other two <;> simp only [named, role, keepsClear, decide_eq_true_eq]
  · exact clear k j _ v w pair mine other hv hw
  · rw [State.gaps_comm]
    exact clear j k _ w v pair other mine hw hv

/-- A crane that has a twin is configured. -/
theorem State.configured_of_twinOf {j : Nat} (h : s.twinOf k = some j) : (s.crane k).cfg ≠ none := by
  intro none
  simp [State.twinOf, none] at h

theorem Move.keeps_railSafe (h : Move s t) (hs : s.railSafe) : t.railSafe := by
  have sameAisles : ∀ n, t.twinAisle n = s.twinAisle n := fun n => by simp only [State.twinAisle, State.aisle, h.aisles]
  cases h with
  | other _ _ _ _ _ _ _ _ cranes =>
    exact State.railSafe_of_fewer (fun j => congrArg Prod.fst (cranes j)) (fun j => .inl (congrArg Prod.snd (cranes j)))
      (fun n => .inl (sameAisles n)) hs
  | grant k v test =>
    obtain ⟨j, u, twin, span, clear⟩ := State.grantTest_iff.mp test
    refine State.railSafe_setClaim (State.configured_of_twinOf twin) (fun i w found claim => ?_) hs
    obtain rfl : j = i := Option.some.inj (twin.symm.trans found)
    exact keepsClear_within (Crane.claim_in_railSpan claim span) clear
  | shrink k v inside =>
    cases claim : (s.crane k).claim with
    | none => simp [claim, Span.within] at inside
    | some w =>
      have configured : (s.crane k).cfg ≠ none := fun none => by simp [hs.2.1 k none] at claim
      exact State.railSafe_setClaim configured (fun j u twin found =>
        keepsClear_of_within (claim ▸ inside) (State.claims_keepClear hs.2.2 twin claim found)) hs
  | free k v alone twin =>
    refine State.railSafe_setClaim (State.configured_of_inTwin twin) (fun j w found claim => ?_) hs
    simp only [State.twinUnknown, found, Option.isNone_iff_eq_none, Crane.railSpan, claim] at alone
    cases pos : (s.crane j).pos <;> simp [pos] at alone
  | discard n =>
    have crane := s.crane_discardClaims n
    refine State.railSafe_of_fewer (fun j => ?_) (fun j => ?_) (fun n => .inl (sameAisles n)) hs <;> rw [crane] <;> split <;>
      simp
  | discardOne k =>
    refine State.railSafe_of_fewer (fun j => State.crane_updCrane_part Crane.cfg s k j fun _ => rfl) (fun j => ?_)
      (fun n => .inl (sameAisles n)) hs
    rw [State.crane_updCrane]
    split <;> simp
  | setLoc | report | freeJob | admitHost | admitInternal | setGroups => exact hs

/-! ## The configuration (R97, R125) -/

/-- What SET_CRANE checks (R97). -/
theorem State.checkCrane_ok {q : CraneFields} (h : s.checkCrane q = .ok) : ∃ r reach f,
    craneFieldsOf q = some (r, reach, f) ∧ s.roleHeld q.crane q.aisle r = false := by
  unfold State.checkCrane at h
  repeat' split at h
  all_goals try cases h
  rename_i fields _ _ _ ok
  simp only [Bool.and_eq_true, Bool.not_eq_true'] at ok
  exact ⟨_, _, _, fields, ok.2⟩

theorem State.roleHeld_iff {n : Nat} {r : Role} :
    s.roleHeld k n r = true ↔ ∃ j, j ≠ k ∧ (s.crane j).hasRole n r = true := by
  simp only [State.roleHeld, List.any_eq_true, Bool.and_eq_true, bne_iff_ne]
  constructor
  · rintro ⟨j, -, held⟩
    exact ⟨j, held⟩
  · rintro ⟨j, other, held⟩
    exact ⟨j, State.listed_of_hasRole held, other, held⟩

/-- A crane record whose claim and waiting request are discarded (R125). -/
def Crane.unclaimed (c : Crane) : Crane := { c with claim := none, request := none }

/-- A crane record as the claim rules of a SET_CRANE leave it (R125; entry 45). -/
theorem State.crane_reclaim (s : State) (k j : Nat) (g : CraneCfg) : (s.reclaim k g).crane j =
    match (s.crane k).cfg with
    | none => s.crane j
    | some old =>
      if (j = k ∧ old.aisle ≠ g.aisle) ∨ (old.aisle = g.aisle ∧ s.twinAisle g.aisle = true ∧
          (old.role ≠ g.role ∨ old.gap ≠ g.gap) ∧ (s.crane j).inAisle g.aisle = true) then
        (s.crane j).unclaimed
      else s.crane j := by
  unfold State.reclaim
  cases cfg : (s.crane k).cfg with
  | none => rfl
  | some old =>
    have number : 1 ≤ k ∧ k ≤ 12 := State.crane_number (s := s) (by simp [Crane.configured, cfg])
    dsimp only
    by_cases moved : old.aisle = g.aisle
    · by_cases changed : s.twinAisle g.aisle = true ∧ (old.role ≠ g.role ∨ old.gap ≠ g.gap)
      · rw [if_neg (not_not.mpr moved), if_pos changed, State.crane_discardClaims]
        obtain ⟨twin, other⟩ := changed
        simp [moved, twin, other, Crane.unclaimed]
      · rw [if_neg (not_not.mpr moved), if_neg changed, if_neg]
        rintro (⟨-, away⟩ | ⟨-, twin, other, -⟩)
        · exact away moved
        · exact changed ⟨twin, other⟩
    · rw [if_pos moved, State.crane_updCrane]
      by_cases mine : j = k <;> simp [mine, moved, number, Crane.unclaimed]

/-- The records behind a SET_CRANE (R97). -/
theorem State.crane_defineCrane {q : CraneFields} {r : Role} {reach : Reach} {f : Figures}
    (fields : craneFieldsOf q = some (r, reach, f)) (j : Nat) : (s.defineCrane q).crane j =
      if j = q.crane then ((s.reclaim q.crane (craneCfgOf q r)).crane j).configuredAs (craneCfgOf q r) reach f
      else (s.reclaim q.crane (craneCfgOf q r)).crane j := by
  have number : 1 ≤ q.crane ∧ q.crane ≤ 12 := by
    unfold craneFieldsOf at fields
    split at fields
    · rename_i ok
      exact craneOk_iff.mp ok.1
    · cases fields
  unfold State.defineCrane
  rw [fields]
  dsimp only
  rw [State.crane_updCrane]
  by_cases mine : j = q.crane <;> simp [mine, number]

/-- A claim that outlives a SET_CRANE is one held before it, in the same role with the same gap. -/
theorem State.claim_defineCrane {q : CraneFields} {r : Role} {reach : Reach} {f : Figures}
    (fields : craneFieldsOf q = some (r, reach, f)) (owned : s.claimsOwned) {j n : Nat} {role : Role} {v : Span}
    (twin : s.twinAisle n = true) (holds : ((s.defineCrane q).crane j).hasRole n role = true)
    (claim : ((s.defineCrane q).crane j).claim = some v) :
    (s.crane j).hasRole n role = true ∧ (s.crane j).gap = ((s.defineCrane q).crane j).gap ∧
      (s.crane j).claim = some v := by
  have reclaimed := s.crane_reclaim q.crane j (craneCfgOf q r)
  rw [State.crane_defineCrane fields] at holds claim ⊢
  by_cases mine : j = q.crane
  · subst j
    rw [if_pos rfl] at holds claim ⊢
    obtain ⟨g, same, rfl, rfl⟩ := Crane.hasRole_iff.mp holds
    obtain rfl : craneCfgOf q r = g := Option.some.inj same
    replace claim : ((s.reclaim q.crane (craneCfgOf q r)).crane q.crane).claim = some v := claim
    cases cfg : (s.crane q.crane).cfg with
    | none =>
      rw [cfg] at reclaimed
      rw [reclaimed, owned _ cfg] at claim
      cases claim
    | some old =>
      rw [cfg] at reclaimed
      dsimp only at reclaimed
      split at reclaimed
      · rw [reclaimed] at claim
        cases claim
      · rename_i kept
        rw [reclaimed] at claim
        have aisle : old.aisle = (craneCfgOf q r).aisle := by
          by_contra away
          exact kept (.inl ⟨rfl, away⟩)
        have same : old.role = (craneCfgOf q r).role ∧ old.gap = (craneCfgOf q r).gap := by
          by_contra changed
          exact kept (.inr ⟨aisle, twin, by tauto, by simp [Crane.inAisle, cfg, aisle]⟩)
        refine ⟨Crane.hasRole_iff.mpr ⟨old, cfg, aisle, same.1⟩, ?_, claim⟩
        simp only [Crane.gap, cfg, Crane.configuredAs]
        exact same.2
  · rw [if_neg mine] at holds claim ⊢
    have kept : (s.reclaim q.crane (craneCfgOf q r)).crane j = s.crane j := by
      cases cfg : (s.crane q.crane).cfg with
      | none => rw [reclaimed, cfg]
      | some old =>
        rw [cfg] at reclaimed
        dsimp only at reclaimed
        split at reclaimed
        · rw [reclaimed] at claim
          cases claim
        · exact reclaimed
    rw [kept] at holds claim ⊢
    exact ⟨holds, rfl, claim⟩

theorem State.cfg_reclaim (s : State) (k j : Nat) (g : CraneCfg) : ((s.reclaim k g).crane j).cfg = (s.crane j).cfg := by
  rw [State.crane_reclaim]
  cases (s.crane k).cfg with
  | none => rfl
  | some old =>
    dsimp only
    split <;> rfl

theorem State.railSafe_defineCrane {q : CraneFields} (ok : s.checkCrane q = .ok) (hs : s.railSafe) :
    (s.defineCrane q).railSafe := by
  obtain ⟨r, reach, f, fields, free⟩ := State.checkCrane_ok ok
  obtain ⟨unique, owned, clear⟩ := hs
  have configured : ∀ j, ((s.defineCrane q).crane j).cfg = if j = q.crane then some (craneCfgOf q r) else (s.crane j).cfg :=
    fun j => by
      rw [State.crane_defineCrane fields]
      split
      · rfl
      · exact s.cfg_reclaim q.crane j _
  have alone : ∀ j n role, j ≠ q.crane → ((s.defineCrane q).crane j).hasRole n role = true →
      ((s.defineCrane q).crane q.crane).hasRole n role = true → False := by
    intro j n role other hj hk
    obtain ⟨g, same, rfl, rfl⟩ := Crane.hasRole_iff.mp hk
    obtain rfl : craneCfgOf q r = g := Option.some.inj (((configured _).trans (if_pos rfl)).symm.trans same)
    rw [Crane.hasRole_congr ((configured j).trans (if_neg other))] at hj
    exact Bool.false_ne_true (free.symm.trans (State.roleHeld_iff.mpr ⟨j, other, hj⟩))
  refine ⟨fun i j n role hi hj => ?_, fun j none => ?_, fun i j n v w twin hi hj hv hw => ?_⟩
  · by_cases mine : i = q.crane
    · by_contra differ
      exact alone j n role (fun same => differ (mine.trans same.symm)) hj (mine ▸ hi)
    · by_cases yours : j = q.crane
      · exact (alone i n role mine hi (yours ▸ hj)).elim
      · rw [Crane.hasRole_congr ((configured _).trans (if_neg mine))] at hi
        rw [Crane.hasRole_congr ((configured _).trans (if_neg yours))] at hj
        exact unique i j n role hi hj
  · rw [configured] at none
    split at none
    · cases none
    · rename_i other
      rw [State.crane_defineCrane fields, if_neg other, State.crane_reclaim]
      cases (s.crane q.crane).cfg with
      | none => exact owned j none
      | some old =>
        dsimp only
        split
        · rfl
        · exact owned j none
  · have twin : s.twinAisle n = true := by
      rw [State.defineCrane_eq] at twin
      exact twin
    obtain ⟨hi, gapI, hv⟩ := State.claim_defineCrane fields owned twin hi hv
    obtain ⟨hj, gapJ, hw⟩ := State.claim_defineCrane fields owned twin hj hw
    rw [State.gaps, ← gapI, ← gapJ]
    exact clear i j n v w twin hi hj hv hw

theorem State.railSafe_defineAisle (n : Nat) (a : Aisle) (hs : s.railSafe) : (s.defineAisle n a).railSafe := by
  have crane : ∀ j, (s.defineAisle n a).crane j =
      if (s.crane j).inAisle n then { s.crane j with claim := none, request := none } else s.crane j :=
    fun j => s.crane_discardClaims n j
  refine State.railSafe_of_fewer (fun j => ?_) (fun j => ?_) (fun m => ?_) hs
  · rw [crane]
    split <;> rfl
  · rw [crane]
    split <;> simp
  · by_cases same : m = n
    · subst m
      refine .inr fun j inside => ?_
      rw [crane] at inside ⊢
      by_cases here : (s.crane j).inAisle n = true
      · rw [if_pos here]
      · rw [if_neg here] at inside
        exact absurd inside here
    · left
      simp only [State.twinAisle, State.aisle_defineAisle, same, if_false]

theorem Change.keeps_railSafe (h : Change b s t) (hs : s.railSafe) : t.railSafe := by
  cases h with
  | move _ _ m => exact m.keeps_railSafe hs
  | aisle _ q => exact State.railSafe_defineAisle q.aisle (aisleOf q) hs
  | crane _ q ok => exact State.railSafe_defineCrane ok hs
  | restart =>
    have owned : ∀ j, (s.restarted.crane j).owned = (s.crane j).owned := fun j => by
      rw [State.crane_congr (s := { s with cranes := s.cranes.map Crane.restarted }) s.restarted_cranes]
      by_cases number : 1 ≤ j ∧ j ≤ 12
      · rw [State.crane_map s _ number]
        rfl
      · rw [State.crane_outside _ number, State.crane_outside _ number]
    exact State.railSafe_of_fewer (fun j => congrArg Prod.fst (owned j)) (fun j => .inl (congrArg Prod.snd (owned j)))
      (fun n => .inl (by simp only [State.twinAisle, State.aisle, State.restarted_aisles])) hs
  | powerOn =>
    have none : ∀ j, s.poweredOn.crane j = Crane.reset := fun j => by
      unfold State.crane
      split
      · exact Vector.getElem_replicate ..
      · rfl
    have unheld : ∀ j n r, (s.poweredOn.crane j).hasRole n r = false := fun j n r => by rw [none]; rfl
    exact ⟨fun i j n r hi => by simp [unheld] at hi, fun j _ => by rw [none]; rfl,
      fun i j n v w _ hi => by simp [unheld] at hi⟩
  | answer | link | mode => exact hs

/-- Settles O54. -/
theorem everyStepKeepsTwinCranesApart : Obligations.EveryStepKeepsTwinCranesApart := fun _ _ h hs =>
  (step_changes h).keep (P := State.railSafe) (fun _ _ c => c.keeps_railSafe) hs

end Sys2Proof.Machine
end

section
/-! SUPPORT. SET_CRANE (R97, R125). -/

namespace Sys2Proof.Machine

variable {s : State}

theorem roleOf_isSome (n : Nat) : (roleOf n).isSome = true ↔ n ≤ 2 := by
  unfold roleOf
  split <;> simp_all
  omega

theorem craneFieldsOf_some {q : CraneFields} {r : Role} {reach : Reach} {f : Figures} (crane : 1 ≤ q.crane ∧ q.crane ≤ 12)
    (place : q.endX ≤ 200000 ∧ q.endY ≤ 50000 ∧ q.gap ≤ 20000) (role : roleOf q.role = some r)
    (filters : reachOf q.reach = some reach) (figures : figuresOf q.figures = some f) :
    craneFieldsOf q = some (r, reach, f) := by
  rw [craneFieldsOf, if_pos ⟨craneOk_iff.mpr crane, place⟩, role, filters, figures]

theorem craneFieldsOf_none {q : CraneFields} (bad : q.crane < 1 ∨ 12 < q.crane ∨ 200000 < q.endX ∨ 50000 < q.endY ∨
    20000 < q.gap ∨ 2 < q.role ∨ reachOf q.reach = none ∨ figuresOf q.figures = none) : craneFieldsOf q = none := by
  unfold craneFieldsOf
  split
  · rename_i ok
    obtain ⟨crane, place⟩ := ok
    obtain ⟨low, high⟩ := craneOk_iff.mp crane
    split
    · rename_i role filters figures
      have fits := (roleOf_isSome q.role).mp (by rw [role]; rfl)
      simp only [filters, figures, reduceCtorEq, or_false] at bad
      omega
    · rfl
  · rfl

/-- A SET_CRANE leaves of another crane's record all but its claims, and of its own all that it does not name. -/
theorem State.reclaim_or (s : State) (k j : Nat) (g : CraneCfg) :
    (s.reclaim k g).crane j = s.crane j ∨ (s.reclaim k g).crane j = (s.crane j).unclaimed := by
  rw [State.crane_reclaim]
  cases (s.crane k).cfg with
  | none => exact .inl rfl
  | some old =>
    dsimp only
    split
    · exact .inr rfl
    · exact .inl rfl

/-- The claims behind a SET_CRANE (R125). -/
theorem State.claims_reclaim (s : State) (k j : Nat) (g : CraneCfg) :
    (((s.reclaim k g).crane j).claim, ((s.reclaim k g).crane j).request) =
      match (s.crane k).cfg with
      | none => ((s.crane j).claim, (s.crane j).request)
      | some old =>
        if (j = k ∧ old.aisle ≠ g.aisle) ∨ (old.aisle = g.aisle ∧ s.twinAisle g.aisle = true ∧
            (old.role ≠ g.role ∨ old.gap ≠ g.gap) ∧ (s.crane j).inAisle g.aisle = true) then (none, none)
        else ((s.crane j).claim, (s.crane j).request) := by
  rw [State.crane_reclaim]
  cases (s.crane k).cfg with
  | none => rfl
  | some old => exact apply_ite (fun c : Crane => (c.claim, c.request)) _ _ _

theorem State.checkCrane_outside (run : s.mode.run ≠ .config) (q : CraneFields) : s.checkCrane q = .wrongMode := by
  simp [State.checkCrane, State.inConfig, run]

/-- The role test of R97 behind the fields. -/
theorem State.checkCrane_fields (run : s.mode.run = .config) {q : CraneFields} {r : Role} {reach : Reach} {f : Figures}
    (fields : craneFieldsOf q = some (r, reach, f)) : s.checkCrane q =
      match s.aisle q.aisle with
      | none => .notConfigured
      | some a => if (a.twin = true ↔ r = .single) ∨ s.roleHeld q.crane q.aisle r = true then .badField else .ok := by
  unfold State.checkCrane
  simp only [State.inConfig, run, fields]
  cases s.aisle q.aisle with
  | none => rfl
  | some a => cases s.roleHeld q.crane q.aisle r <;> cases twin : a.twin <;> cases r <;> simp [roleFits, twin]

/-- Settles O15: the record by `crane_defineCrane`, the claims by `crane_reclaim`. -/
theorem setCraneConfiguresTheCrane : Obligations.SetCraneConfiguresTheCrane := by
  intro tag q s takes quiet
  have refuses : ∀ {r}, r ≠ .ok → s.checkCrane q = r → exec (.setCrane tag q) s = .next (s.replied 0x91 tag r []) :=
    fun no h => exec_refused rfl takes quiet (by rw [runRequest, runSetCrane, State.judged, h, if_neg no])
  refine ⟨fun run => refuses nofun (State.checkCrane_outside run q), fun run bad => refuses nofun ?_, ?_⟩
  · simp [State.checkCrane, State.inConfig, run, craneFieldsOf_none bad]
  intro role reach figures run low high endX endY gap hrole hreach hfigures
  have fields := craneFieldsOf_some ⟨low, high⟩ ⟨endX, endY, gap⟩ hrole hreach hfigures
  have check := State.checkCrane_fields run fields
  cases aisle : s.aisle q.aisle with
  | none => exact refuses nofun (by rw [check, aisle])
  | some a =>
    rw [aisle] at check
    simp only [← State.roleHeld_iff]
    refine ⟨fun held => refuses nofun (check.trans (if_pos held)), fun free => ?_⟩
    have ok := check.trans (if_neg free)
    have defined : (s.defineCrane q).quiet := by
      rw [State.defineCrane_eq]
      exact quiet
    have twin : s.twinAisle q.aisle = a.twin := by rw [State.twinAisle, aisle]
    obtain ⟨t, made⟩ : ∃ t, t = { s with cranes := (s.defineCrane q).cranes, link := s.link.answer 0x91 tag .ok [] } :=
      ⟨_, rfl⟩
    have crane : ∀ j, t.crane j = _ := fun j =>
      (State.crane_congr (s := s.defineCrane q) (by rw [made]) j).trans (State.crane_defineCrane fields j)
    refine ⟨t, ?_, ?_, fun j other => ?_, fun j => ?_, by rw [made]⟩
    · rw [exec_taken rfl takes, runRequest, runSetCrane, State.judged, if_pos ok, State.conclude_replied defined,
        State.defineCrane_eq, made]
    · rcases s.reclaim_or q.crane q.crane (craneCfgOf q role) with same | gone
      · rw [(crane q.crane).trans (if_pos rfl), same]
        rfl
      · rw [(crane q.crane).trans (if_pos rfl), gone]
        rfl
    · rcases s.reclaim_or q.crane j (craneCfgOf q role) with same | gone
      · rw [(crane j).trans (if_neg other), same]
      · rw [(crane j).trans (if_neg other), gone]
        rfl
    · rw [← twin]
      refine Eq.trans ?_ (s.claims_reclaim q.crane j (craneCfgOf q role))
      rw [crane]
      split <;> rfl

end Sys2Proof.Machine
end

section
/-! SUPPORT. The requests that the link unit answers itself (R116, R176, R185). -/

namespace Sys2Proof.Machine

variable {s : State}

/-- Code and tag at the head of a body are read back (R173). -/
theorem decodeRequest_bytes {code tag : Nat} (hc : code < 256) (ht : tag < 65536) (fields : List Byte) :
    decodeRequest (beBytes 1 code ++ (beBytes 2 tag ++ fields)) = decodeFields code tag fields := by
  simp [decodeRequest, readBe_beBytes, hc, ht]

/-- A code of one length asks for that length (R185). -/
theorem decodeFields_exactly (tag : Nat) (bs : List Byte) :
    ∀ e ∈ requestLengths, e.1 < 256 ∧ ∃ i, decodeFields e.1 tag bs = exactly e.2 e.1 tag bs i := by
  simp only [requestLengths, List.forall_mem_cons, List.not_mem_nil, false_imp_iff, implies_true, and_true]
  repeat' apply And.intro
  all_goals first | decide | exact ⟨_, rfl⟩

theorem decodeFields_loadMap (tag : Nat) (bs : List Byte) : decodeFields 0x15 tag bs =
    if 4 ≤ bs.length ∧ bs.length ≤ 196 ∧ (bs.length - 4) % 6 = 0 then .command (readLoadMap tag bs)
    else .badLength 0x15 tag := rfl

theorem decodeFields_craneCtl (tag : Nat) (bs : List Byte) : decodeFields 0x39 tag bs = decodeCraneCtl tag bs := rfl

/-- A body of a wrong length for its code. -/
theorem runBody_badLength {body : List Byte} {code tag : Nat} (quiet : s.quiet) (h : decodeRequest body = .badLength code tag) :
    runBody body s = s.replied (code + 0x80) tag .badField [] := by
  rw [runBody, h]
  exact State.conclude_replied quiet _ _ _ _

theorem beNat_singleton (b : Byte) : beNat [b] = b.toNat := by simp [beNat]

/-- CRANE_CTL's action byte read behind the crane (R185). -/
theorem decodeCraneCtl_badAction (tag : Nat) (crane action : Byte) (more : List Byte)
    (length : more.length = 0 ∨ more.length = 9 ∨ more.length = 24)
    (plain : ¬ ((action = 1 ∨ action = 2) ∧ more.length = 0)) (profile : ¬ (action = 3 ∧ more.length = 24))
    (reach : ¬ (action = 4 ∧ more.length = 9)) : decodeCraneCtl tag (crane :: action :: more) = .badAction tag := by
  have named : ∀ n : Nat, n < 256 → (action.toNat = n ↔ action = BitVec.ofNat 8 n) := fun n small => by
    rw [BitVec.toNat_eq, BitVec.toNat_ofNat, Nat.mod_eq_of_lt small]
  unfold decodeCraneCtl
  rw [if_pos (by simp only [List.length_cons]; omega)]
  simp only [readBe, List.take_succ_cons, List.take_zero, List.drop_succ_cons, List.drop_zero, beNat_singleton]
  rw [if_neg (fun h => plain ⟨.inl ((named 1 (by decide)).mp h.1), h.2⟩),
    if_neg (fun h => plain ⟨.inr ((named 2 (by decide)).mp h.1), h.2⟩),
    if_neg (fun h => profile ⟨(named 3 (by decide)).mp h.1, h.2⟩),
    if_neg (fun h => reach ⟨(named 4 (by decide)).mp h.1, h.2⟩)]

theorem State.inRunHold_iff (s : State) : s.inRunHold = true ↔ s.mode.run = .run ∨ s.mode.run = .hold := by
  simp [State.inRunHold]

/-- Settles O5: the code's own test of length, then the reply. -/
theorem misfitRequestIsAnswered : Obligations.MisfitRequestIsAnswered := by
  refine ⟨fun e mem tag fields s ht misfit quiet => ?_, fun tag fields s ht quiet misfit => ?_,
    fun tag fields s ht quiet l2 l11 l26 => ?_, fun tag crane action more s ht quiet length plain profile reach => ?_,
    fun tag code fields s takes quiet => ?_⟩
  · obtain ⟨hc, i, read⟩ := decodeFields_exactly tag fields e mem
    refine runBody_badLength quiet ?_
    rw [decodeRequest_bytes hc ht, read, exactly, if_neg misfit]
  · refine runBody_badLength quiet (code := 0x15) ?_
    rw [decodeRequest_bytes (by decide) ht]
    rw [decodeFields_loadMap]
    refine if_neg fun fits => misfit ((fields.length - 4) / 6) ?_ ?_ <;> omega
  · refine runBody_badLength quiet (code := 0x39) ?_
    rw [decodeRequest_bytes (by decide) ht]
    rw [decodeFields_craneCtl, decodeCraneCtl, if_neg (by simp only [l2, l11, l26, or_self, not_false_eq_true])]
  · have read : decodeRequest (beBytes 1 0x39 ++ (beBytes 2 tag ++ (crane :: action :: more))) = .badAction tag :=
      (decodeRequest_bytes (by decide) ht _).trans
        (decodeCraneCtl_badAction tag crane action more length plain profile reach)
    rw [runBody, read]
    simp only [runBadAction, State.conclude_replied quiet, firstFail, Bool.not_eq_true', ← Bool.not_eq_true,
      State.inRunHold_iff, if_true, ite_not]
  · rw [exec_taken rfl takes, runRequest, runUnknownCode, State.conclude_replied quiet]
    simp [beBytes]

end Sys2Proof.Machine
end

section
/-! SUPPORT. The receivers of the host link and of a crane port over the bytes of a frame (R173 to R175). -/

namespace Sys2Proof.Machine

variable {l : Link} {s : State} {k : Nat}

/-! ## The host link (R174, R175) -/

theorem Link.bytes_cons (l : Link) (b : Byte) (bs : List Byte) : l.bytes (b :: bs) = (l.byte b).bytes bs := rfl

/-- A length as its two bytes. -/
theorem beBytes_two (n : Nat) : beBytes 2 n = [BitVec.ofNat 8 (n / 256), BitVec.ofNat 8 n] := by simp [beBytes]

theorem lengthOf_beBytes {n : Nat} (h : n < 65536) : lengthOf (BitVec.ofNat 8 (n / 256)) (BitVec.ofNat 8 n) = n := by
  simp only [lengthOf, BitVec.toNat_ofNat]
  omega

theorem checkSum_eq (body : List Byte) : checkSum body = (body.map BitVec.toNat).sum % 65536 := by
  rw [checkSum, List.sum_eq_foldl, List.foldl_map]

theorem beNat_pair (a b : Byte) : beNat [a, b] = a.toNat * 256 + b.toNat := by simp [beNat]

/-- The head of a frame: the length bytes find room, or the overrun flag is set (R175; entry 48). -/
theorem Link.bytes_head (hrx : l.rx = .searching) {n : Nat} (low : 3 ≤ n) (high : n ≤ 1024) (rest : List Byte) :
    l.bytes (0xC3 :: (beBytes 2 n ++ rest)) =
      (if 2048 < (l.ring.map (fun (b : List Byte) => b.length + 2)).sum + (n + 2) then
        { l with rx := .body (n + 2) [] false, overrun := true }
      else { l with rx := .body (n + 2) [] true }).bytes rest := by
  have spelt := lengthOf_beBytes (show n < 65536 by omega)
  have marker : l.byte 0xC3 = { l with rx := .marker } := by rw [Link.byte_searching hrx, if_pos (by decide)]
  have length : Link.byte { l with rx := .marker } (BitVec.ofNat 8 (n / 256)) =
      { l with rx := .length (BitVec.ofNat 8 (n / 256)) } := Link.byte_marker rfl _
  rw [Link.bytes_cons, marker, beBytes_two, List.cons_append, List.cons_append, List.nil_append, Link.bytes_cons, length,
    Link.bytes_cons]
  congr 1
  by_cases full : 2048 < (l.ring.map (fun (b : List Byte) => b.length + 2)).sum + (n + 2)
  · rw [if_pos full, Link.byte_length_overrun rfl (by rw [spelt]; exact low) (by rw [spelt]; exact high), spelt]
    simp only [Link.roomFor, Link.ringBytes, Rx.setAside, spelt, decide_eq_false_iff_not]
    omega
  · rw [if_neg full, Link.byte_length_room rfl (by rw [spelt]; exact low) (by rw [spelt]; exact high), spelt]
    simp only [Link.roomFor, Link.ringBytes, Rx.setAside, spelt, decide_eq_true_eq]
    omega

/-- The bytes of a frame without room are consumed (R175). -/
theorem Link.bytes_consumed {bs : List Byte} {got : List Byte} (some : bs ≠ []) (hrx : l.rx = .body bs.length got false) :
    l.bytes bs = { l with rx := .searching } := by
  induction bs generalizing l got with
  | nil => exact absurd rfl some
  | cons b bs ih =>
    rw [Link.bytes_cons]
    cases bs with
    | nil => exact Link.byte_last_consumed hrx (by simp) b
    | cons c bs =>
      rw [Link.byte_body hrx (by simp) b, ih (got := []) (by simp) (by simp)]

/-- The bytes of a frame with room are gathered, and its check decides (R174). -/
theorem Link.bytes_stored {bs got : List Byte} (some : bs ≠ []) (hrx : l.rx = .body bs.length got true) :
    l.bytes bs =
      let all := got.reverse ++ bs
      if checkSum (all.take (all.length - 2)) = beNat (all.drop (all.length - 2)) then
        { l with rx := .searching, ring := l.ring ++ [all.take (all.length - 2)] }
      else { l with rx := .searching, errors := countUp l.errors } := by
  induction bs generalizing l got with
  | nil => exact absurd rfl some
  | cons b bs ih =>
    rw [Link.bytes_cons]
    cases bs with
    | nil => exact Link.byte_last hrx (by simp) b _ (by simp)
    | cons c bs =>
      rw [Link.byte_body hrx (by simp) b, if_pos rfl, ih (got := b :: got) (by simp) (by simp)]
      simp

/-- A frame cut short leaves the receiver inside it. -/
theorem Link.bytes_partial {bs got : List Byte} {need : Nat} {stored : Bool} (short : bs.length < need)
    (hrx : l.rx = .body need got stored) : ∃ rx, rx.inFrame = true ∧ l.bytes bs = { l with rx := rx } := by
  induction bs generalizing l got need with
  | nil => exact ⟨l.rx, by rw [hrx]; rfl, rfl⟩
  | cons b bs ih =>
    rw [List.length_cons] at short
    rw [Link.bytes_cons, Link.byte_body hrx (by omega) b]
    obtain ⟨rx, inside, read⟩ := ih (l := { l with rx := .body (need - 1) (if stored then b :: got else []) stored })
      (need := need - 1) (by omega) rfl
    exact ⟨rx, inside, read⟩

/-- A whole frame on the host link. -/
theorem Link.bytes_frame (hrx : l.rx = .searching) {body : List Byte} (low : 3 ≤ body.length) (high : body.length ≤ 1024)
    (c1 c2 : Byte) : l.bytes (0xC3 :: (beBytes 2 body.length ++ (body ++ [c1, c2]))) =
      if 2048 < (l.ring.map (fun (b : List Byte) => b.length + 2)).sum + (body.length + 2) then { l with overrun := true }
      else if c1.toNat * 256 + c2.toNat = (body.map BitVec.toNat).sum % 65536 then { l with ring := l.ring ++ [body] }
      else { l with errors := if l.errors < 65535 then l.errors + 1 else l.errors } := by
  have length : (body ++ [c1, c2]).length = body.length + 2 := by simp
  have bytes : body ++ [c1, c2] ≠ [] := by simp
  rw [Link.bytes_head hrx low high]
  by_cases full : 2048 < (l.ring.map (fun (b : List Byte) => b.length + 2)).sum + (body.length + 2)
  · rw [if_pos full, if_pos full, Link.bytes_consumed bytes (got := []) (by rw [length]), ← hrx]
  · rw [if_neg full, if_neg full, Link.bytes_stored bytes (got := []) (by rw [length])]
    simp only [List.reverse_nil, List.nil_append, length, Nat.add_sub_cancel, List.take_left', List.drop_left', checkSum_eq,
      beNat_pair, ← hrx, countUp]
    exact ite_congr (propext eq_comm) (fun _ => rfl) fun _ => rfl

/-- A frame cut short on the host link, after the gap (R174). -/
theorem Link.gap_partial (hrx : l.rx = .searching) {n : Nat} (low : 3 ≤ n) (high : n ≤ 1024) {part : List Byte}
    (short : part.length < n + 2) : (l.bytes (0xC3 :: (beBytes 2 n ++ part))).gap = { l with
      overrun := l.overrun || decide (2048 < (l.ring.map (fun (b : List Byte) => b.length + 2)).sum + (n + 2))
      errors := if l.errors < 65535 then l.errors + 1 else l.errors } := by
  rw [Link.bytes_head hrx low high]
  by_cases full : 2048 < (l.ring.map (fun (b : List Byte) => b.length + 2)).sum + (n + 2)
  · obtain ⟨rx, inside, read⟩ := Link.bytes_partial (l := { l with rx := .body (n + 2) [] false, overrun := true }) short rfl
    rw [if_pos full, read, Link.gap, if_pos inside, decide_eq_true full, Bool.or_true, ← hrx]
    rfl
  · obtain ⟨rx, inside, read⟩ := Link.bytes_partial (l := { l with rx := .body (n + 2) [] true }) short rfl
    rw [if_neg full, read, Link.gap, if_pos inside, decide_eq_false full, Bool.or_false, ← hrx]
    rfl

/-- A length out of range on the host link: the two bytes are examined again (R174). -/
theorem Link.bytes_out_of_range (hrx : l.rx = .searching) {high low : Byte}
    (out : lengthOf high low < 3 ∨ 1024 < lengthOf high low) :
    l.bytes [0xC3, high, low] = { l with rx := rescan high low } := by
  have marker : l.byte 0xC3 = { l with rx := .marker } := by rw [Link.byte_searching hrx, if_pos (by decide)]
  have length : Link.byte { l with rx := .marker } high = { l with rx := .length high } := Link.byte_marker rfl _
  rw [Link.bytes_cons, marker, Link.bytes_cons, length, Link.bytes_cons, Link.byte_length_out rfl out]
  rfl

/-! ## A crane port (R173) -/

/-- The receiver of crane `k`'s port in state `rx`. -/
def State.setRx (s : State) (k : Nat) (rx : Rx) : State := s.updCrane k (fun c => { c with rx := rx })

theorem State.setRx_setRx (s : State) (k : Nat) (a b : Rx) : (s.setRx k a).setRx k b = s.setRx k b :=
  State.updCrane_updCrane s k _ _

theorem State.updCrane_self (s : State) (k : Nat) : s.updCrane k (fun _ => s.crane k) = s := by
  unfold State.updCrane State.crane
  split <;> simp_all

/-- A change of a record is the writing of the changed record. -/
theorem State.updCrane_const (s : State) (k : Nat) (f : Crane → Crane) :
    s.updCrane k f = s.updCrane k (fun _ => f (s.crane k)) := by
  unfold State.updCrane State.crane
  split <;> simp_all

theorem State.setRx_self {rx : Rx} (h : (s.crane k).rx = rx) : s.setRx k rx = s := by
  rw [State.setRx, State.updCrane_const, ← h]
  exact s.updCrane_self k

theorem State.rx_setRx (number : 1 ≤ k ∧ k ≤ 12) (rx : Rx) : ((s.setRx k rx).crane k).rx = rx := by
  rw [State.setRx, State.crane_updCrane_self s number]

theorem State.configured_setRx (rx : Rx) : ((s.setRx k rx).crane k).configured = (s.crane k).configured :=
  State.crane_updCrane_part Crane.configured s k k fun _ => rfl

/-- A byte of a configured crane's port. -/
theorem State.portByte_eq (configured : (s.crane k).configured = true) (b : Byte) : State.portByte k s b =
    (s.setRx k (rxByte 2 (fun _ => true) (s.crane k).rx b).1).portEvent k (rxByte 2 (fun _ => true) (s.crane k).rx b).2 :=
  if_pos configured

/-- The receiver of a configured crane's port over bytes that complete nothing. -/
theorem State.portBytes_head (configured : (s.crane k).configured = true) (hrx : (s.crane k).rx = .searching)
    (high low : Byte) : [0xC3, high, low].foldl (State.portByte k) s =
      (s.setRx k (rxByte 2 (fun _ => true) (.length high) low).1).portEvent k
        (rxByte 2 (fun _ => true) (.length high) low).2 := by
  have number := State.crane_number configured
  have marker : State.portByte k s 0xC3 = s.setRx k .marker := by
    rw [State.portByte_eq configured, hrx]
    rfl
  have length : State.portByte k (s.setRx k .marker) high = s.setRx k (.length high) := by
    rw [State.portByte_eq ((State.configured_setRx _).trans configured), State.rx_setRx number, State.setRx_setRx]
    rfl
  rw [List.foldl_cons, List.foldl_cons, List.foldl_cons, List.foldl_nil, marker, length,
    State.portByte_eq ((State.configured_setRx _).trans configured), State.rx_setRx number, State.setRx_setRx]

/-- The bytes of a frame's body and check on a crane port are gathered, and the frame acts (R173). -/
theorem State.portBytes_stored (configured : (s.crane k).configured = true) {bs : List Byte} (some : bs ≠ [])
    (got : List Byte) : bs.foldl (State.portByte k) (s.setRx k (.body bs.length got true)) =
      (s.setRx k .searching).portEvent k (frameEvent (got.reverse ++ bs)) := by
  have number := State.crane_number configured
  induction bs generalizing got with
  | nil => exact absurd rfl some
  | cons b bs ih =>
    rw [List.foldl_cons, State.portByte_eq ((State.configured_setRx _).trans configured), State.rx_setRx number,
      State.setRx_setRx]
    cases bs with
    | nil => simp [rxByte]
    | cons c bs =>
      have more : ¬ (b :: c :: bs).length ≤ 1 := by simp
      simp only [rxByte, if_neg more, if_true]
      refine (ih (by simp) (b :: got)).trans ?_
      simp

/-- A whole frame on a configured crane's port. -/
theorem State.portBytes_frame (configured : (s.crane k).configured = true) (hrx : (s.crane k).rx = .searching)
    {body : List Byte} (low : 2 ≤ body.length) (high : body.length ≤ 1024) {check : Nat} (word : check < 65536) :
    (0xC3 :: (beBytes 2 body.length ++ (body ++ beBytes 2 check))).foldl (State.portByte k) s =
      s.portEvent k (.frame body (checkSum body == check)) := by
  have spelt : (BitVec.ofNat 8 (body.length / 256)).toNat * 256 + (BitVec.ofNat 8 body.length).toNat = body.length :=
    lengthOf_beBytes (show body.length < 65536 by omega)
  have length : (body ++ beBytes 2 check).length = body.length + 2 := by simp
  have head := State.portBytes_head configured hrx (BitVec.ofNat 8 (body.length / 256)) (BitVec.ofNat 8 body.length)
  simp only [rxByte, spelt] at head
  rw [if_neg (by omega), if_pos trivial] at head
  have frame : frameEvent (body ++ beBytes 2 check) = .frame body (checkSum body == check) := by
    simp only [frameEvent, length, Nat.add_sub_cancel, List.take_left', List.drop_left']
    rw [beNat_beBytes (by simpa using word)]
  calc _ = (body ++ beBytes 2 check).foldl (State.portByte k)
        (s.setRx k (.body (body ++ beBytes 2 check).length [] true)) := by
        rw [length, beBytes_two]
        exact congrArg (List.foldl (State.portByte k) · (body ++ beBytes 2 check)) head
    _ = _ := by
        rw [State.portBytes_stored configured (by simp [beBytes_two]), State.setRx_self hrx, List.reverse_nil, List.nil_append,
          frame]

/-- Settles O7: the head of a frame, then its body gathered, consumed or cut short. -/
theorem receiverTakesFrames : Obligations.ReceiverTakesFrames := by
  refine ⟨fun body c1 c2 s hrx low high => ?_, fun n part s hrx low high short => ⟨?_, ?_⟩, fun high low s =>
    ⟨fun hrx out => ?_, fun k k1 k12 configured hrx out => ?_⟩⟩
  · show Host.Outcome.next _ = _
    rw [State.lineBytes, if_pos rfl, Link.bytes_frame hrx low high]
  · show Host.Outcome.next { s with link := (s.link.bytes _).gap } = _
    rw [Link.gap_partial hrx low high short]
  · show Host.Outcome.next _ = _
    rw [if_pos rfl]
    show Host.Outcome.next { s with link := s.link.gap } = _
    rw [Link.gap, hrx, if_neg (by decide)]
  · show Host.Outcome.next { s with link := s.link.bytes [0xC3, high, low] } = _
    rw [Link.bytes_out_of_range hrx out]
    rfl
  · have head := State.portBytes_head (Option.isSome_iff_ne_none.mpr configured) hrx high low
    simp only [rxByte, if_pos out] at head
    show Host.Outcome.next (s.lineBytes k [0xC3, high, low]) = _
    rw [State.lineBytes, if_neg (by omega), head]
    rfl

end Sys2Proof.Machine
end

section
/-! SUPPORT. A crane port's frames as the rows they spell, and its silence (R92, R94, R173, R188). -/

namespace Sys2Proof.Machine

variable {s : State} {k : Nat}

/-! ## What a crane sends, read back from its bytes (R188) -/

theorem readBe_one (b : Byte) (bs : List Byte) : readBe 1 (b :: bs) = (b.toNat, bs) := by
  simp [readBe, beNat_singleton]

theorem decodeCrane_taken {id : Nat} (hid : id < 256) : decodeCrane k (0x41 :: beBytes 1 id) = some (.taken k id) := by
  simp [decodeCrane, readBe_one, readBe_beBytes_end, hid]

theorem decodeCrane_done {id x y load : Nat} (hid : id < 256) (hx : x < 4294967296) (hy : y < 65536)
    (hload : load < 4294967296) :
    decodeCrane k (0x42 :: (beBytes 1 id ++ beBytes 4 x ++ beBytes 2 y ++ beBytes 4 load)) = some (.done k id x y load) := by
  simp [decodeCrane, readBe_one, readBe_beBytes, readBe_beBytes_end, List.append_assoc, hid, hx, hy, hload]

theorem decodeCrane_failed {a b x y load : Nat} (ha : a < 256) (hb : b < 256) (hx : x < 4294967296) (hy : y < 65536)
    (hload : load < 4294967296) :
    decodeCrane k (0x43 :: (beBytes 1 a ++ beBytes 1 b ++ beBytes 4 x ++ beBytes 2 y ++ beBytes 4 load)) =
      some (.failed k a b x y load) := by
  simp [decodeCrane, readBe_one, readBe_beBytes, readBe_beBytes_end, List.append_assoc, ha, hb, hx, hy, hload]

/-- A STATE with another mode or flag than R188 lists is no telegram. -/
theorem decodeCrane_state {a b x y load : Nat} (ha : a < 256) (hb : b < 256) (hx : x < 4294967296) (hy : y < 65536)
    (hload : load < 4294967296) :
    decodeCrane k (0x44 :: (beBytes 1 a ++ beBytes 1 b ++ beBytes 4 x ++ beBytes 2 y ++ beBytes 4 load)) =
      if stateOk a b then some (.state k a b x y load) else none := by
  simp [decodeCrane, readBe_one, readBe_beBytes, readBe_beBytes_end, List.append_assoc, ha, hb, hx, hy, hload, stateOk]

/-- Another code, or another length for its code, is no telegram. -/
theorem decodeCrane_other {code : Byte} {fields : List Byte} (notTaken : ¬ (code = 0x41 ∧ fields.length = 1))
    (notDone : ¬ (code = 0x42 ∧ fields.length = 11)) (notLong : ¬ ((code = 0x43 ∨ code = 0x44) ∧ fields.length = 12)) :
    decodeCrane k (code :: fields) = none := by
  have coded (n : Nat) (h : n < 256) : code.toNat = n ↔ code = BitVec.ofNat 8 n := by
    rw [← BitVec.toNat_inj, BitVec.toNat_ofNat, Nat.mod_eq_of_lt (by omega)]
  simp only [decodeCrane, readBe_one, List.length_cons, coded 0x41 (by omega), coded 0x42 (by omega), coded 0x43 (by omega),
    coded 0x44 (by omega), Nat.reduceEqDiff]
  refine (if_neg notTaken).trans ((if_neg notDone).trans ((if_neg fun h => notLong ?_).trans (if_neg fun h => notLong ?_)))
  · exact ⟨.inl h.1, h.2⟩
  · exact ⟨.inr h.1, h.2.1⟩

/-! ## A crane's record changed, all else as it was -/

/-- The changed record, the other cranes and the rest of the state. -/
theorem State.updCrane_frame (number : 1 ≤ k ∧ k ≤ 12) (f : Crane → Crane) :
    (s.updCrane k f).crane k = f (s.crane k) ∧ (∀ j, j ≠ k → (s.updCrane k f).crane j = s.crane j) ∧
      s.updCrane k f = { s with cranes := (s.updCrane k f).cranes } :=
  ⟨State.crane_updCrane_self s number f, fun _ other => State.crane_updCrane_other s other f, State.updCrane_eq s k f⟩

theorem configured_iff {c : Crane} : c.configured = true ↔ c.cfg ≠ none := Option.isSome_iff_ne_none

/-! ## Bad frames and silence (R92, R94) -/

theorem State.onPort_configured (configured : (s.crane k).configured = true) (f : State → State) : s.onPort k f = f s :=
  if_pos configured

theorem State.onPort_not (unconfigured : (s.crane k).cfg = none) (f : State → State) : s.onPort k f = s :=
  if_neg (by simp [configured_iff, unconfigured])

theorem countsBad_iff {c : ChanState} : c.countsBad = true ↔ c = .listen ∨ c = .ready ∨ c = .busy ∨ c = .parking := by
  cases c <;> decide

theorem inService_iff {c : ChanState} : c.inService = true ↔ c = .ready ∨ c = .busy ∨ c = .parking := by
  cases c <;> decide

theorem runBadFrame_counted (h : (s.crane k).bad < 3) : runBadFrame k s = s.updCrane k (fun c => { c with bad := c.bad + 1 }) :=
  if_neg (by omega)

theorem runBadFrame_fault (h : 3 ≤ (s.crane k).bad) (counts : (s.crane k).chan.countsBad = true) :
    runBadFrame k s = ((s.updCrane k (fun c => { c with bad := 0 })).enterFault k .link none).finish := by
  rw [runBadFrame, if_pos (by omega), if_pos counts]

theorem runBadFrame_stays (h : 3 ≤ (s.crane k).bad) (not : ¬ (s.crane k).chan.countsBad = true) :
    runBadFrame k s = s.updCrane k (fun c => { c with bad := 4 }) := by
  rw [runBadFrame, if_pos (by omega), if_neg not]

/-- A frame of which only the marker came, after the gap (R174). -/
theorem State.frameGap_marker (configured : (s.crane k).configured = true) (hrx : (s.crane k).rx = .searching) :
    exec (.frameGapTimeout k [0xC3]) s = .next (runBadFrame k s) := by
  have number := State.crane_number configured
  have marker : s.lineBytes k [0xC3] = s.setRx k .marker := by
    rw [State.lineBytes, if_neg (by omega), List.foldl_cons, List.foldl_nil, State.portByte_eq configured, hrx]
    rfl
  show Host.Outcome.next (if k = 0 then _ else (s.lineBytes k [0xC3]).onPort k _) = _
  rw [if_neg (by omega), marker, State.onPort_configured ((State.configured_setRx _).trans configured), State.portGap,
    State.rx_setRx number, if_pos (by decide)]
  show Host.Outcome.next (runBadFrame k ((s.setRx k .marker).setRx k .searching)) = _
  rw [State.setRx_setRx, State.setRx_self hrx]

/-- A whole frame on a configured crane's port, as a step. -/
theorem State.frame_arrives (configured : (s.crane k).configured = true) (hrx : (s.crane k).rx = .searching)
    {body : List Byte} (low : 2 ≤ body.length) (high : body.length ≤ 1024) {check : Nat} (word : check < 65536) :
    exec (.bodyLengthOutOfRange k (0xC3 :: (beBytes 2 body.length ++ (body ++ beBytes 2 check)))) s =
      .next (s.portEvent k (.frame body (checkSum body == check))) := by
  have number := State.crane_number configured
  show Host.Outcome.next (s.lineBytes k _) = _
  rw [State.lineBytes, if_neg (by omega), State.portBytes_frame configured hrx low high word]

/-- A frame with a right check acts as the telegram it spells, or is discarded. -/
theorem State.frame_spells (configured : (s.crane k).configured = true) (hrx : (s.crane k).rx = .searching)
    {body : List Byte} (low : 2 ≤ body.length) (high : body.length ≤ 1024) :
    exec (.bodyLengthOutOfRange k (0xC3 :: (beBytes 2 body.length ++ (body ++
        beBytes 2 ((body.map BitVec.toNat).sum % 65536))))) s =
      .next (match decodeCrane k body with
        | some i => runCraneTelegram s i
        | none => s.hear k) := by
  rw [State.frame_arrives configured hrx low high (Nat.mod_lt _ (by omega)), ← checkSum_eq, beq_self_eq_true]
  rfl

/-- Settles O51: the count of bad frames and the silence by state, and a port's bytes by the telegram they spell. -/
theorem badFramesAndSilenceFault : Obligations.BadFramesAndSilenceFault := by
  intro k s _ c becomes faults
  refine ⟨fun unconfigured => ⟨?_, ?_⟩, fun hcfg => ?_, fun k1 k12 => ⟨fun service => ?_, fun idle => ?_⟩⟩
  · exact congrArg Host.Outcome.next (State.onPort_not unconfigured _)
  · exact congrArg Host.Outcome.next (State.onPort_not unconfigured _)
  · have configured : (s.crane k).configured = true := configured_iff.mpr hcfg
    have number := State.crane_number configured
    have onPort (f : State → State) : Host.Outcome.next (s.onPort k f) = (.next (f s) : Host.Outcome State Fault Refusal) :=
      congrArg Host.Outcome.next (State.onPort_configured configured f)
    have bad : exec (.craneBadFrame k) s = .next (runBadFrame k s) := onPort _
    have discarded : exec (.craneTelegramDiscarded k) s = .next (s.hear k) := onPort _
    refine ⟨⟨_, discarded, State.updCrane_frame number _⟩, fun few => ?_, fun many => ⟨fun service => ?_, fun other => ?_⟩,
      fun hrx => (State.frameGap_marker configured hrx).trans bad.symm, fun hrx => ⟨fun id hid => ?_,
        fun id x y load hid hx hy hload => ?_, fun a b x y load ha hb hx hy hload => ⟨?_, ?_⟩,
        fun code fields low high notTaken notDone notLong => ?_, fun body check low high word wrong => ?_⟩⟩
    · exact ⟨_, bad.trans (congrArg _ (runBadFrame_counted few)), State.updCrane_frame number _⟩
    · exact ⟨_, bad.trans (congrArg _ (runBadFrame_fault many (countsBad_iff.mpr service))), State.updCrane_frame number _⟩
    · have stays : ¬ (s.crane k).chan.countsBad = true := fun counts => by
        rcases countsBad_iff.mp counts with h | h | h | h <;> simp [c, h] at other
      exact ⟨_, bad.trans (congrArg _ (runBadFrame_stays many stays)), State.updCrane_frame number _⟩
    · refine (State.frame_spells configured hrx (by simp) (by simp)).trans ?_
      rw [decodeCrane_taken hid]
      exact (onPort (runTaken k id)).symm
    · refine (State.frame_spells configured hrx (by simp) (by simp)).trans ?_
      rw [decodeCrane_done hid hx hy hload]
      exact (onPort (runDone k id x y load)).symm
    · refine (State.frame_spells configured hrx (by simp) (by simp)).trans ?_
      rw [decodeCrane_failed ha hb hx hy hload]
      exact (onPort (runFailed k a b x y load)).symm
    · refine (State.frame_spells configured hrx (by simp) (by simp)).trans ?_
      have state : exec (.state k a b x y load) s = .next (runState k a b x y load s) := onPort _
      rw [decodeCrane_state ha hb hx hy hload, state]
      by_cases ok : stateOk a b = true
      · rw [if_pos ok]
        rfl
      · rw [if_neg ok, runState, if_neg ok]
    · refine (State.frame_spells (body := code :: fields) configured hrx (Nat.succ_le_succ low) (Nat.succ_le_succ high)).trans ?_
      rw [decodeCrane_other notTaken notDone notLong, discarded]
    · refine (State.frame_arrives configured hrx low high word).trans ?_
      rw [checkSum_eq, beq_eq_false_iff_ne.mpr fun same => wrong same.symm, bad]
      rfl
  · have serves : (s.crane k).chan.inService = true := inService_iff.mpr service
    exact ⟨_, congrArg Host.Outcome.next (if_pos serves), State.updCrane_frame ⟨k1, k12⟩ _⟩
  · have not : ¬ (s.crane k).chan.inService = true := fun h => idle (inService_iff.mp h)
    exact ⟨_, congrArg Host.Outcome.next (if_neg not), State.updCrane_frame ⟨k1, k12⟩ _⟩

end Sys2Proof.Machine
end

section
/-! SUPPORT. What the operations of a crane channel and of the rail arbiter make of the state (R59, R99, R101, R126, R127):
the records of the cranes with one of them changed, and the other fields by name. -/

namespace Sys2Proof.Machine

variable {s t : State} {k : Nat}

/-! ## One crane's record -/

theorem State.cranes_updCrane_congr (h : t.cranes = s.cranes) (k : Nat) (f : Crane → Crane) :
    (t.updCrane k f).cranes = (s.updCrane k f).cranes := by
  unfold State.updCrane
  split <;> simp [h]

/-- A second change of the one record. -/
theorem State.cranes_updCrane_after {f : Crane → Crane} (h : t.cranes = (s.updCrane k f).cranes) (g : Crane → Crane) :
    (t.updCrane k g).cranes = (s.updCrane k (fun c => g (f c))).cranes := by
  rw [State.cranes_updCrane_congr h, State.updCrane_updCrane]

theorem State.updCrane_after {f : Crane → Crane} (h : t.cranes = (s.updCrane k f).cranes) (g : Crane → Crane) :
    t.updCrane k g = { t with cranes := (s.updCrane k (fun c => g (f c))).cranes } := by
  rw [State.updCrane_eq, State.cranes_updCrane_after h]

theorem State.crane_of_cranes {f : Crane → Crane} (h : t.cranes = (s.updCrane k f).cranes) (number : 1 ≤ k ∧ k ≤ 12) :
    t.crane k = f (s.crane k) :=
  (State.crane_congr h k).trans (State.crane_updCrane_self s number f)

theorem State.crane_of_cranes_other {f : Crane → Crane} (h : t.cranes = (s.updCrane k f).cranes) (j : Nat) (other : j ≠ k) :
    t.crane j = s.crane j :=
  (State.crane_congr h j).trans (State.crane_updCrane_other s other f)

/-- What a change of one record does not touch of a record it touches of none. -/
theorem State.crane_of_cranes_part {β : Type} (g : Crane → β) {f : Crane → Crane} (h : t.cranes = (s.updCrane k f).cranes)
    (same : g (f (s.crane k)) = g (s.crane k)) (j : Nat) : g (t.crane j) = g (s.crane j) := by
  rw [State.crane_congr h j, State.crane_updCrane]
  split
  · rename_i own
    rw [same, own.1]
  · rfl

/-- Two changes that agree on the record. -/
theorem State.updCrane_congr {f g : Crane → Crane} (same : f (s.crane k) = g (s.crane k)) :
    s.updCrane k f = s.updCrane k g := by
  rw [State.updCrane_const, same, ← State.updCrane_const]

/-- A change that leaves the record as it is. -/
theorem State.cranes_updCrane_same {f : Crane → Crane} (same : f (s.crane k) = s.crane k) :
    (s.updCrane k f).cranes = s.cranes := by
  rw [State.updCrane_const, same, State.updCrane_self]

theorem State.cranes_unchanged (s : State) (k : Nat) : s.cranes = (s.updCrane k (fun c => c)).cranes :=
  (State.cranes_updCrane_same rfl).symm

/-! ## The twin -/

theorem State.inTwin_congr (aisles : t.aisles = s.aisles) (cfg : (t.crane k).cfg = (s.crane k).cfg) :
    t.inTwin k = s.inTwin k := by
  simp only [State.inTwin, State.twinAisle, State.aisle, aisles, cfg]

theorem State.twinOf_congr (aisles : t.aisles = s.aisles) (cfg : ∀ j, (t.crane j).cfg = (s.crane j).cfg) :
    t.twinOf k = s.twinOf k := by
  have pair : t.twinAisle = s.twinAisle := funext fun n => by simp only [State.twinAisle, State.aisle, aisles]
  have holds (n : Nat) (r : Role) : (fun j => (t.crane j).hasRole n r) = fun j => (s.crane j).hasRole n r :=
    funext fun j => Crane.hasRole_congr (cfg j) n r
  unfold State.twinOf
  rw [cfg k]
  cases (s.crane k).cfg with
  | none => rfl
  | some g =>
    dsimp only
    rw [pair, holds]

theorem State.twinOf_updCrane {j : Nat} {f : Crane → Crane} (same : ∀ c, (f c).cfg = c.cfg) :
    (s.updCrane j f).twinOf k = s.twinOf k :=
  State.twinOf_congr (State.updCrane_aisles s j f) fun i => State.crane_updCrane_part Crane.cfg s j i same

theorem State.twinOf_ne {j : Nat} (h : s.twinOf k = some j) : j ≠ k := by
  rintro rfl
  obtain ⟨g, cfg, _, two, other⟩ := State.twinOf_some h
  obtain ⟨own, same, _, role⟩ := Crane.hasRole_iff.mp other
  obtain rfl : g = own := Option.some.inj (cfg.symm.trans same)
  cases h : g.role <;> rw [h] at role two
  · exact two rfl
  · cases role
  · cases role

theorem State.twinOf_of_not_inTwin (h : s.inTwin k = false) : s.twinOf k = none := by
  unfold State.inTwin at h
  unfold State.twinOf
  cases cfg : (s.crane k).cfg with
  | none => rfl
  | some g =>
    rw [cfg] at h
    exact if_neg (by simpa using h)

theorem State.inTwin_of_twinOf {j : Nat} (h : s.twinOf k = some j) : s.inTwin k = true := by
  obtain ⟨g, cfg, pair, two, _⟩ := State.twinOf_some h
  simp [State.inTwin, cfg, pair, two]

/-- No request of crane `k`'s twin waits. -/
def State.twinIdle (s : State) (k : Nat) : Prop := ∀ j, s.twinOf k = some j → (s.crane j).request = none

theorem State.twinIdle_of_not_inTwin (h : s.inTwin k = false) : s.twinIdle k := fun j twin => by
  simp [State.twinOf_of_not_inTwin h] at twin

theorem State.twinIdle_of_cranes {f : Crane → Crane} (cranes : t.cranes = (s.updCrane k f).cranes)
    (aisles : t.aisles = s.aisles) (cfg : (f (s.crane k)).cfg = (s.crane k).cfg) (idle : s.twinIdle k) : t.twinIdle k := by
  intro j twin
  rw [State.twinOf_congr aisles fun i => State.crane_of_cranes_part Crane.cfg cranes cfg i] at twin
  rw [State.crane_of_cranes_other cranes j (State.twinOf_ne twin)]
  exact idle j twin

theorem keepsClear_iff {role : Role} {gaps : Nat} {v w : Span} : keepsClear role gaps v w = true ↔
    (role = .a → v.hi + gaps ≤ w.lo) ∧ (role = .b → w.hi + gaps ≤ v.lo) := by
  cases role <;> simp [keepsClear]

/-- The grant test against a configured twin (R127). -/
theorem State.grantTest_twin {j : Nat} (twin : s.twinOf k = some j) (v : Span) : s.grantTest k v = true ↔
    ∃ w, (s.crane j).railSpan = some w ∧
      ((s.crane k).role = .a → v.hi + ((s.crane k).gap + (s.crane j).gap) ≤ w.lo) ∧
      ((s.crane k).role = .b → w.hi + ((s.crane k).gap + (s.crane j).gap) ≤ v.lo) := by
  rw [State.grantTest_iff]
  constructor
  · rintro ⟨i, w, found, span, clear⟩
    obtain rfl : i = j := Option.some.inj (found.symm.trans twin)
    exact ⟨w, span, keepsClear_iff.mp clear⟩
  · rintro ⟨w, span, clear⟩
    exact ⟨j, w, twin, span, keepsClear_iff.mpr clear⟩

/-- A request that does not wait is not tested. -/
theorem State.railRun_retestTwin (n : Nat) (idle : s.twinIdle k) : State.railRun (n + 1) (s.retestTwin k) s = s := by
  unfold State.retestTwin
  cases twin : s.twinOf k with
  | none => rfl
  | some j =>
    have still : s.railStep (.retest j) = (s, []) := by
      simp only [State.railStep, State.retestRail, idle j twin, ite_self]
    show State.railRun n ((s.railStep (.retest j)).2 ++ []) (s.railStep (.retest j)).1 = s
    rw [still]
    cases n <;> rfl

theorem State.rail_retestTwin (idle : s.twinIdle k) : s.rail (s.retestTwin k) = s := State.railRun_retestTwin 31 idle

/-! ## Changes of channel state (R67, R70, R99) -/

theorem Crane.entering_part {β : Type} (g : Crane → β) (c : Crane) (st : ChanState) (r : ChanReason)
    (same : ∀ (c : Crane) (chan : ChanState) (power halted : Bool) (fault : Option FaultReason) (bad : Nat),
      g { c with chan := chan, powerReturn := power, stopHalted := halted, lastFault := fault, bad := bad } = g c) :
    g (c.entering st r) = g c := by
  cases st with
  | fault => cases r <;> exact same c _ _ _ _ _
  | _ => exact same c _ _ _ _ _

theorem State.chanTriggers_ready (r : ChanReason) : s.chanTriggers k .ready r = true := rfl

/-- Outside an assignment a change of state but the entering of READY triggers in a twin aisle. -/
theorem State.chanTriggers_other {st : ChanState} {r : ChanReason} (other : st ≠ .ready) (unassigned : r ≠ .assigned) :
    s.chanTriggers k st r = s.inTwin k := by
  have ready : (st == .ready) = false := beq_eq_false_iff_ne.mpr other
  have assigned : (r != .assigned) = true := bne_iff_ne.mpr unassigned
  rw [State.chanTriggers, ready, assigned, Bool.false_or, Bool.and_true]

theorem State.chanTo_eq (s : State) (k : Nat) (st : ChanState) (r : ChanReason) : s.chanTo k st r = { s with
    cranes := (s.updCrane k (fun c => c.entering st r)).cranes
    readyOrder := readyAfter s.readyOrder k st
    passRun := s.passWithout k
    passDue := s.passDue || decide (s.mode.run = .run ∧ s.chanTriggers k st r = true)
    link := s.link.report (.craneState k st r (s.crane k).pos) } := by
  have pos : ((s.updCrane k (fun c => c.entering st r)).crane k).pos = (s.crane k).pos :=
    State.crane_updCrane_part Crane.pos s k k fun c => c.entering_part Crane.pos st r fun _ _ _ _ _ _ => rfl
  have cfg : ((s.updCrane k (fun c => c.entering st r)).crane k).cfg = (s.crane k).cfg :=
    State.crane_updCrane_part Crane.cfg s k k fun c => c.entering_part Crane.cfg st r fun _ _ _ _ _ _ => rfl
  have triggers (u : State) (aisles : u.aisles = s.aisles) (same : (u.crane k).cfg = (s.crane k).cfg) :
      (if u.chanTriggers k st r then u.trigger else u) =
        { u with passDue := u.passDue || decide (u.mode.run = .run ∧ s.chanTriggers k st r = true) } := by
    have cause : u.chanTriggers k st r = s.chanTriggers k st r := by
      rw [State.chanTriggers, State.inTwin_congr aisles same, State.chanTriggers]
    rw [cause]
    by_cases h : s.chanTriggers k st r = true
    · rw [if_pos h, State.trigger_eq]
      simp only [h, and_true]
    · rw [if_neg h]
      simp only [h, and_false, decide_false, Bool.or_false, Bool.false_eq_true]
  unfold State.chanTo
  dsimp only
  rw [triggers _ ?aisles ?cfg]
  case aisles => exact State.updCrane_aisles s k _
  case cfg => exact cfg
  rw [State.report, ← pos, State.updCrane_eq]
  rfl

/-- Where no request of the twin waits, a channel that enters a state does nothing else (R130). -/
theorem State.enter_eq (idle : s.twinIdle k) (st : ChanState) (r : ChanReason) : s.enter k st r = s.chanTo k st r := by
  refine State.rail_retestTwin ?_
  rw [State.chanTo_eq]
  exact State.twinIdle_of_cranes (f := fun c => c.entering st r) rfl rfl
    ((s.crane k).entering_part Crane.cfg st r fun _ _ _ _ _ _ => rfl) idle

/-! ## The sending of a leg (R101, R126) -/

/-- The leg's job becomes ACTIVE: a FETCH's, and a RECOVER job's PUT's (R101). -/
theorem State.activate_eq (s : State) (g : Leg) : s.activate g = { s with pool := s.pool.map (fun j =>
    if g.job = some j.num ∧ (g.kind = .fetch ∨ (g.kind = .put ∧ j.kind = .recover)) then { j with state := .active }
    else j) } := by
  have activates (j : Job) : g.activates j = true ↔ g.kind = .fetch ∨ (g.kind = .put ∧ j.kind = .recover) := by
    unfold Leg.activates
    cases g.kind <;> simp
  unfold State.activate
  cases g.job with
  | none => simp
  | some n =>
    refine congrArg (fun p => { s with pool := p }) (List.map_congr_left fun j _ => ?_)
    by_cases named : j.num = n
    · simp [named, activates]
    · simp [named, Ne.symm named]

/-- The state with leg `g` sent to crane `k` (R56, R95, R101), its claim as given. -/
def State.legSent (s : State) (k : Nat) (g : Leg) (claim : Option Span) : State :=
  let c := s.crane k
  let p := s.targetPoint k g.target
  let id := nextLegId c.lastLeg
  { s with
    cranes := (s.updCrane k (fun d => { d.sent id (c.legEstimate g.kind g.target.rear (c.pos.getD g.start) p) with
      claim := claim })).cranes
    pool := s.pool.map (fun j =>
      if g.job = some j.num ∧ (g.kind = .fetch ∨ (g.kind = .put ∧ j.kind = .recover)) then { j with state := .active }
      else j)
    portOut := s.portOut ++ [(k, legTelegram id g.kind g.target p c.speed (c.expected g))] }

theorem State.targetPoint_congr (aisles : t.aisles = s.aisles) (stations : t.stations = s.stations)
    (cfg : (t.crane k).cfg = (s.crane k).cfg) (target : Target) : t.targetPoint k target = s.targetPoint k target := by
  cases target with
  | location l => simp only [State.targetPoint, State.locPoint, State.aisle, aisles]
  | station n => simp only [State.targetPoint, State.stationPoint, State.station, stations]
  | endPos => simp only [State.targetPoint, cfg]

theorem State.sendLeg_eq {g : Leg} (next : (s.crane k).nextLeg = some g) :
    s.sendLeg k = s.legSent k g (s.crane k).claim := by
  unfold State.sendLeg
  rw [next]
  dsimp only
  rw [State.activate_eq, State.portSend, State.updCrane_eq, State.legSent]
  dsimp only
  rw [State.updCrane_congr (f := fun d => { d.sent _ _ with claim := (s.crane k).claim }) (g := fun c => c.sent _ _) rfl]
  rfl

/-- A granted leg is sent with its interval as the claim (R127). -/
theorem State.sendLeg_granted (number : 1 ≤ k ∧ k ≤ 12) {g : Leg} (next : (s.crane k).nextLeg = some g) (v : Span) :
    (s.updCrane k (fun c => { c with claim := some v, request := none })).sendLeg k = s.legSent k g (some v) := by
  have own : (s.updCrane k (fun c => { c with claim := some v, request := none })).crane k =
      { s.crane k with claim := some v, request := none } := State.crane_updCrane_self s number _
  have target : (s.updCrane k (fun c => { c with claim := some v, request := none })).targetPoint k g.target =
      s.targetPoint k g.target := State.targetPoint_congr (by simp) (by simp) (by rw [own]) _
  rw [State.sendLeg_eq (g := g) (by rw [own]; exact next)]
  unfold State.legSent
  dsimp only
  rw [target, own, State.updCrane_updCrane, State.updCrane_eq s k (fun c => { c with claim := some v, request := none })]
  rfl

/-! ## A leg asks for its claim (R126, R127, R129, R130) -/

theorem State.rail_ask (commands : s.commands = true) :
    s.rail [.ask k] = State.railRun 31 (s.askRail k).2 (s.askRail k).1 := by
  show State.railRun 31 ((s.railStep (.ask k)).2 ++ []) (s.railStep (.ask k)).1 = _
  rw [List.append_nil, State.railStep, if_pos commands]

/-- The records behind the sending of a leg. -/
theorem State.legSent_cranes (s : State) (k : Nat) (g : Leg) (claim : Option Span) : (s.legSent k g claim).cranes =
    (s.updCrane k (fun d => { d.sent (nextLegId (s.crane k).lastLeg) ((s.crane k).legEstimate g.kind g.target.rear
      ((s.crane k).pos.getD g.start) (s.targetPoint k g.target)) with claim := claim })).cranes := rfl

theorem State.twinIdle_legSent (g : Leg) (claim : Option Span) (idle : s.twinIdle k) : (s.legSent k g claim).twinIdle k :=
  State.twinIdle_of_cranes (s.legSent_cranes k g claim) rfl rfl idle

theorem Crane.railSpan_asked {c : Crane} {v : Span} (claim : c.claim = some v)
    (pos : ∀ p, c.pos = some p → v.lo ≤ p.x ∧ p.x ≤ v.hi) : c.railSpan = some v := by
  unfold Crane.railSpan
  rw [claim]
  cases place : c.pos with
  | none => rfl
  | some p => simp [pos p place]

/-- A leg whose interval passes the test is sent; where the interval leaves out a part of the crane's span, that is a
release (R127, R129). -/
theorem State.rail_ask_granted (number : 1 ≤ k ∧ k ≤ 12) {g : Leg} (commands : s.commands = true)
    (next : (s.crane k).nextLeg = some g) (passes : s.grantTest k (s.askSpan k g) = true)
    (idle : s.twinIdle k ∨ leavesOut (s.crane k).railSpan (some (s.askSpan k g)) = false) :
    s.rail [.ask k] = if leavesOut (s.crane k).railSpan (some (s.askSpan k g)) = true then
        (s.legSent k g (some (s.askSpan k g))).trigger
      else s.legSent k g (some (s.askSpan k g)) := by
  have span : ((s.legSent k g (some (s.askSpan k g))).crane k).railSpan = some (s.askSpan k g) := by
    rw [State.crane_of_cranes (s.legSent_cranes k g _) number]
    refine Crane.railSpan_asked rfl fun p pos => ?_
    have place : (s.crane k).pos = some p := pos
    simp only [State.askSpan, place, Option.getD_some]
    omega
  have granted : s.askRail k = if leavesOut (s.crane k).railSpan (some (s.askSpan k g)) = true then
        ((s.legSent k g (some (s.askSpan k g))).trigger, (s.legSent k g (some (s.askSpan k g))).retestTwin k)
      else (s.legSent k g (some (s.askSpan k g)), []) := by
    unfold State.askRail
    rw [next]
    dsimp only
    rw [if_pos passes, State.grant, State.sendLeg_granted number next, span]
  rw [State.rail_ask commands, granted]
  by_cases leaves : leavesOut (s.crane k).railSpan (some (s.askSpan k g)) = true
  · have quiet := idle.resolve_right (by rw [leaves]; exact Bool.noConfusion)
    rw [if_pos leaves, if_pos leaves]
    have same : (s.legSent k g (some (s.askSpan k g))).trigger.twinOf k = (s.legSent k g (some (s.askSpan k g))).twinOf k := by
      rw [State.trigger_eq]
      rfl
    have ops : (s.legSent k g (some (s.askSpan k g))).retestTwin k =
        (s.legSent k g (some (s.askSpan k g))).trigger.retestTwin k := by rw [State.retestTwin, ← same, State.retestTwin]
    rw [ops]
    refine State.railRun_retestTwin 30 ?_
    rw [State.trigger_eq]
    exact State.twinIdle_legSent g _ quiet
  · rw [if_neg leaves, if_neg leaves]
    rfl

/-- A leg whose interval fails the test waits, where the twin neither evades nor waits itself (R130). -/
theorem State.rail_ask_refused {g : Leg} {j : Nat} (commands : s.commands = true) (next : (s.crane k).nextLeg = some g)
    (twin : s.twinOf k = some j) (fails : ¬ s.grantTest k (s.askSpan k g) = true) (stays : (s.crane j).canEvade = false)
    (quiet : (s.crane j).request = none) :
    s.rail [.ask k] = s.updCrane k (fun c => { c with request := some (s.askSpan k g) }) := by
  have same : (s.updCrane k (fun c => { c with request := some (s.askSpan k g) })).twinOf k = some j :=
    (State.twinOf_updCrane (f := fun c => { c with request := some (s.askSpan k g) }) fun _ => rfl).trans twin
  have other : (s.updCrane k (fun c => { c with request := some (s.askSpan k g) })).crane j = s.crane j :=
    State.crane_updCrane_other s (State.twinOf_ne twin) _
  have asked : s.askRail k = (s.updCrane k (fun c => { c with request := some (s.askSpan k g) }), []) := by
    unfold State.askRail
    rw [next]
    dsimp only
    rw [if_neg fails, State.refuse, same]
    dsimp only
    rw [other, stays, quiet]
    rfl
  rw [State.rail_ask commands, asked]
  rfl

/-! ## Going on (R101, R91) -/

/-- The channel may send its next leg. -/
theorem State.mayGoOn_iff : s.mayGoOn k = true ↔
    (s.mode.run = .run ∨ s.mode.run = .hold) ∧ ((s.crane k).chan = .busy ∨ (s.crane k).chan = .parking) ∧
    (s.crane k).curLeg = 0 ∧ (s.crane k).roomWait = false ∧ tableGet k s.holds = none ∧ (s.crane k).request = none ∧
    ∀ p, s.passRun = some p → k ∉ p.assigned := by
  have withheld : s.withheld k = false ↔ ∀ p, s.passRun = some p → k ∉ p.assigned := by
    unfold State.withheld
    cases s.passRun <;> simp
  simp only [State.mayGoOn, State.commands, Bool.and_eq_true, Bool.or_eq_true, beq_iff_eq, Bool.not_eq_true',
    Option.isNone_iff_eq_none, withheld, and_assoc]

theorem State.commands_iff : s.commands = true ↔ s.mode.run = .run ∨ s.mode.run = .hold := by
  simp [State.commands]

theorem State.goOn_stays (h : ¬ s.mayGoOn k = true) : s.goOn k = s := if_neg h

/-- Outside the twin aisles the next leg is sent at once. -/
theorem State.goOn_sends (h : s.mayGoOn k = true) (single : s.inTwin k = false) : s.goOn k = s.sendLeg k := by
  rw [State.goOn, if_pos h, if_neg (by rw [single]; exact Bool.noConfusion)]

theorem State.goOn_asks (h : s.mayGoOn k = true) (pair : s.inTwin k = true) : s.goOn k = s.rail [.ask k] := by
  rw [State.goOn, if_pos h, if_pos pair]

/-! ## Pending values and the end of a cycle (R59, R105) -/

theorem Crane.hasPending_iff {c : Crane} :
    c.hasPending = true ↔ c.pendSpeed ≠ none ∨ c.pendFigures ≠ none ∨ c.pendReach ≠ none := by
  simp [Crane.hasPending, Option.isSome_iff_ne_none, or_assoc]

theorem Crane.withPending_eq (c : Crane) : c.withPending = { c with
    speed := c.pendSpeed.getD c.speed, pendSpeed := none
    figures := (if c.pendFigures = none then c.figures else c.pendFigures), pendFigures := none
    reach := (if c.pendReach = none then c.reach else c.pendReach), pendReach := none } := by
  unfold Crane.withPending
  cases c.pendFigures <;> cases c.pendReach <;> rfl

theorem Crane.withPending_nothing {c : Crane} (h : c.pendSpeed = none ∧ c.pendFigures = none ∧ c.pendReach = none) :
    c.withPending = c := by
  obtain ⟨speed, figures, reach⟩ := h
  cases c
  simp_all [Crane.withPending]

/-- The pending values are applied, and an application triggers. -/
theorem State.applyPending_eq (s : State) (k : Nat) : s.applyPending k = { s with
    cranes := (s.updCrane k Crane.withPending).cranes
    passDue := s.passDue || decide ((s.crane k).hasPending = true ∧ s.mode.run = .run) } := by
  unfold State.applyPending
  by_cases pending : (s.crane k).hasPending = true
  · rw [if_pos pending, State.trigger_eq, State.updCrane_eq]
    simp only [pending, true_and]
  · have nothing : (s.crane k).pendSpeed = none ∧ (s.crane k).pendFigures = none ∧ (s.crane k).pendReach = none := by
      simpa [Crane.hasPending_iff] using pending
    rw [if_neg pending, State.cranes_updCrane_same (Crane.withPending_nothing nothing)]
    simp only [pending, false_and, decide_false, Bool.or_false, Bool.false_eq_true]

/-! ## A channel enters a state after a change of its record -/

theorem State.enter_after {f : Crane → Crane} (number : 1 ≤ k ∧ k ≤ 12) (cranes : t.cranes = (s.updCrane k f).cranes)
    (aisles : t.aisles = s.aisles) (cfg : (f (s.crane k)).cfg = (s.crane k).cfg) (idle : s.twinIdle k) (st : ChanState) (r : ChanReason) :
    t.enter k st r = { t with
      cranes := (s.updCrane k (fun c => (f c).entering st r)).cranes
      readyOrder := readyAfter t.readyOrder k st
      passRun := t.passWithout k
      passDue := t.passDue || decide (t.mode.run = .run ∧ s.chanTriggers k st r = true)
      link := t.link.report (.craneState k st r (f (s.crane k)).pos) } := by
  have triggers : t.chanTriggers k st r = s.chanTriggers k st r := by
    rw [State.chanTriggers, State.inTwin_congr aisles (State.crane_of_cranes_part Crane.cfg cranes cfg k), State.chanTriggers]
  rw [State.enter_eq (State.twinIdle_of_cranes cranes aisles cfg idle), State.chanTo_eq, triggers,
    State.cranes_updCrane_after cranes, State.crane_of_cranes cranes number]

/-- The end of a cycle: the plan's rest is cleared and the pending values are applied (R59, R105). -/
theorem State.cycleEnd_eq (s : State) (k : Nat) : (s.updCrane k Crane.planless).applyPending k = { s with
    cranes := (s.updCrane k (fun c => c.planless.withPending)).cranes
    passDue := s.passDue || decide ((s.crane k).hasPending = true ∧ s.mode.run = .run) } := by
  have pending : ((s.updCrane k Crane.planless).crane k).hasPending = (s.crane k).hasPending :=
    State.crane_updCrane_part Crane.hasPending s k k fun _ => rfl
  rw [State.applyPending_eq, pending, State.updCrane_updCrane, State.updCrane_eq s k Crane.planless]

end Sys2Proof.Machine
end

section
/-! SUPPORT. CRANE_CTL (R58, R116 to R119) and the leg timers (R102). -/

namespace Sys2Proof.Machine

variable {s t : State} {k : Nat}

/-! ## The checks every action shares (R116) -/

theorem RunState.inRunHold_of_not {r : RunState} (h : ¬ (r = .config ∨ r = .safe)) : r = .run ∨ r = .hold := by
  cases r <;> simp_all

theorem State.checkCtl_outside (out : s.mode.run = .config ∨ s.mode.run = .safe) (k : Nat) : s.checkCtl k = .wrongMode := by
  rcases out with h | h <;> simp [State.checkCtl, State.inRunHold, h, firstFail]

theorem State.checkCtl_number (run : s.mode.run = .run ∨ s.mode.run = .hold) (out : ¬ (1 ≤ k ∧ k ≤ 12)) :
    s.checkCtl k = .badField := by
  simp [State.checkCtl, (State.inRunHold_iff s).mpr run, mt craneOk_iff.mp out, firstFail]

theorem State.checkCtl_unconfigured (run : s.mode.run = .run ∨ s.mode.run = .hold) (number : 1 ≤ k ∧ k ≤ 12)
    (none : (s.crane k).cfg = none) : s.checkCtl k = .notConfigured := by
  simp [State.checkCtl, (State.inRunHold_iff s).mpr run, craneOk_iff.mpr number, Crane.configured, none, firstFail]

theorem State.checkCtl_ok (run : s.mode.run = .run ∨ s.mode.run = .hold) (number : 1 ≤ k ∧ k ≤ 12)
    (configured : (s.crane k).cfg ≠ none) : s.checkCtl k = .ok := by
  simp [State.checkCtl, (State.inRunHold_iff s).mpr run, craneOk_iff.mpr number, configured_iff.mpr configured, firstFail]

theorem Result.ok_orElse (r : Result) : Result.ok.orElse r = r := if_pos rfl

/-! ## RESUME (R117) -/

theorem wakeTelegram_eq (k : Nat) : wakeTelegram k = [0x04, BitVec.ofNat 8 k] := by simp [wakeTelegram, beBytes]

/-- A crane returned to READY, where no request of its twin waits. -/
theorem State.enter_ready {c : Crane} (number : 1 ≤ k ∧ k ≤ 12) (cfg : c.cfg = (s.crane k).cfg)
    (idle : s.twinIdle k) (r : ChanReason) : (s.updCrane k (fun _ => c)).enter k .ready r = { s with
      cranes := (s.updCrane k (fun _ => c.entering .ready r)).cranes
      readyOrder := s.readyOrder.filter (fun j => j != k) ++ [k]
      passRun := s.passWithout k
      passDue := s.passDue || decide (s.mode.run = .run)
      link := s.link.report (.craneState k .ready r c.pos) } := by
  rw [State.enter_after (f := fun _ => c) number rfl (State.updCrane_aisles s k _) cfg idle, State.chanTriggers_ready]
  simp only [and_true]
  rw [State.updCrane_eq]
  rfl

theorem State.uncertainJob_isSome : (s.uncertainJob k).isSome = true ↔ ∃ j ∈ s.pool, j.crane = k ∧ j.state.isUncertain = true := by
  simp [State.uncertainJob]

/-- Settles O36: the shared checks, then the channel state; a return to READY is `enter_ready`. -/
theorem resumeReturnsACrane : Obligations.ResumeReturnsACrane := by
  intro tag k s takes quiet refused
  have refuses : ∀ {r}, r ≠ .ok → (s.checkCtl k).orElse (s.checkResume k) = r → refused r := fun no h =>
    exec_refused rfl takes quiet (by rw [runRequest, runCraneCtlResume, h, State.judgedData_refused no])
  have grants (h : (s.checkCtl k).orElse (s.checkResume k) = .ok) : exec (.craneCtlResume tag k) s =
      .next ((s.applyResume k).conclude 0x39 tag .ok ((s.applyResume k).ctlData k 0)) := by
    rw [exec_taken rfl takes, runRequest, runCraneCtlResume, State.judgedData_ok h]
  by_cases out : s.mode.run = .config ∨ s.mode.run = .safe
  · rw [if_pos out]
    exact refuses nofun (by rw [State.checkCtl_outside out]; rfl)
  rw [if_neg out]
  have run := RunState.inRunHold_of_not out
  by_cases number : 1 ≤ k ∧ k ≤ 12
  swap
  · rw [if_pos number]
    exact refuses nofun (by rw [State.checkCtl_number run number]; rfl)
  rw [if_neg (not_not_intro number)]
  by_cases unconfigured : (s.crane k).cfg = none
  · rw [if_pos unconfigured]
    exact refuses nofun (by rw [State.checkCtl_unconfigured run number unconfigured]; rfl)
  rw [if_neg unconfigured]
  intro ready
  have passes : (s.checkCtl k).orElse (s.checkResume k) = s.checkResume k := by
    rw [State.checkCtl_ok run number unconfigured, Result.ok_orElse]
  have wrong (check : s.checkResume k = .wrongMode) : refused .wrongMode := refuses nofun (passes.trans check)
  have returns {c : Crane} (cfg : c.cfg = (s.crane k).cfg) (ok : s.checkResume k = .ok)
      (applied : s.applyResume k = (s.updCrane k (fun _ => c)).enter k .ready .resume) : ready c := by
    have replies := grants (passes.trans ok)
    rw [applied] at replies
    refine ⟨replies, fun idle => ?_⟩
    have whole := State.enter_ready number cfg idle .resume
    have cranes := congrArg State.cranes whole
    have own := State.crane_of_cranes cranes number
    rw [State.ctlData, own] at replies
    exact ⟨_, replies, own, State.crane_of_cranes_other cranes, by rw [whole]⟩
  have waits (check : s.checkResume k = firstFail
        [(decide (3000 < (s.crane k).silence), .craneSilent), ((s.uncertainJob k).isSome, .jobUncertain)])
      (applied : s.applyResume k = s.enter k .ready .resume) :
      if 3000 < (s.crane k).silence then refused .craneSilent
      else if ∃ j ∈ s.pool, j.crane = k ∧ j.state.isUncertain = true then refused .jobUncertain
      else ready (s.crane k) := by
    by_cases silent : 3000 < (s.crane k).silence
    · rw [if_pos silent]
      exact refuses nofun (passes.trans (check.trans (by simp [firstFail, silent])))
    rw [if_neg silent]
    by_cases uncertain : (s.uncertainJob k).isSome = true
    · rw [if_pos (State.uncertainJob_isSome.mp uncertain)]
      exact refuses nofun (passes.trans (check.trans (by simp [firstFail, silent, uncertain])))
    rw [if_neg (mt State.uncertainJob_isSome.mpr uncertain)]
    exact returns rfl (check.trans (by simp [firstFail, silent, uncertain])) (by rw [applied, State.updCrane_self])
  cases chan : (s.crane k).chan with
  | offline | ready | busy | manual => exact wrong (by rw [State.checkResume, chan])
  | listen | fault => exact waits (by rw [State.checkResume, chan]) (by rw [State.applyResume, chan])
  | parking =>
    by_cases sent : (s.crane k).curLeg = 0
    · refine (if_neg (not_not_intro sent)).mpr (returns rfl (by rw [State.checkResume, chan]; exact if_pos sent) ?_)
      rw [State.applyResume, chan, State.dropPark, State.updCrane_const]
      rfl
    · exact (if_pos sent).mpr (wrong (by rw [State.checkResume, chan]; exact if_neg sent))
  | parked =>
    intro idle
    have replies := grants (passes.trans (by rw [State.checkResume, chan]))
    have applied : s.applyResume k = (s.portSend k (wakeTelegram k)).enter k .offline .wake := by
      rw [State.applyResume, chan]
    have whole := applied.trans (State.enter_after (s := s) (t := s.portSend k (wakeTelegram k)) (f := fun c => c) number
      (s.cranes_unchanged k) rfl rfl idle .offline .wake)
    have cranes := congrArg State.cranes whole
    have own := State.crane_of_cranes cranes number
    rw [State.ctlData, own] at replies
    refine ⟨_, replies, own, State.crane_of_cranes_other cranes, ?_⟩
    rw [whole, State.chanTriggers_other (by decide) (by decide), State.portSend, wakeTelegram_eq]
    rfl

/-! ## PROFILE and REACH (R58, R59, R119) -/

/-- A staged set is pending on a BUSY crane, and applied at once on any other. -/
theorem State.applyStaged_eq {put : Crane → Crane} (number : 1 ≤ k ∧ k ≤ 12)
    (chan : (put (s.crane k)).chan = (s.crane k).chan) (pending : (put (s.crane k)).hasPending = true) :
    (s.updCrane k put).applyStaged k = { s with
      cranes := (s.updCrane k (fun c => if (s.crane k).chan = .busy then put c else (put c).withPending)).cranes
      passDue := s.passDue || decide ((s.crane k).chan ≠ .busy ∧ s.mode.run = .run) } := by
  have own : (s.updCrane k put).crane k = put (s.crane k) := State.crane_updCrane_self s number put
  unfold State.applyStaged
  rw [own, chan]
  by_cases busy : (s.crane k).chan = .busy
  · simp only [busy, if_true, ne_eq, not_true, false_and, decide_false, Bool.or_false]
    exact State.updCrane_eq s k put
  · rw [if_neg busy, State.applyPending_eq, own, State.updCrane_updCrane, State.updCrane_eq s k put]
    simp only [busy, if_false, pending, ne_eq, not_false_eq_true, true_and]

/-- The checks of PROFILE and REACH behind the shared ones: the set's range, then a set already pending. -/
theorem firstFail_staged (bad collides : Bool) : firstFail [(bad, .badField), (collides, .collision)] =
    if bad = true then .badField else if collides = true then .collision else .ok := rfl

theorem figuresOk_false_iff (f : FigureFields) : (!figuresOk f) = true ↔ figuresOf f = none := by
  unfold figuresOf
  cases figuresOk f <;> simp

/-- Settles O38: one argument over the staged set, by `applyStaged_eq`. -/
theorem profileAndReachAreStaged : Obligations.ProfileAndReachAreStaged := by
  intro tag k f q s takes quiet stage
  have stages (i : Instr) (request : i.isRequest = true) (bad collides : Prop) (put : Crane → Crane) (fails misses : Bool)
      (hbad : fails = true ↔ bad) (hcollides : misses = true ↔ collides)
      (chan : (put (s.crane k)).chan = (s.crane k).chan) (pending : ¬ bad → (put (s.crane k)).hasPending = true)
      (runs : runRequest i s = s.judgedData 0x39 tag
        ((s.checkCtl k).orElse (firstFail [(fails, .badField), (misses, .collision)]))
        (fun s => (s.updCrane k put).applyStaged k) (fun t => t.ctlData k (s.staging k))) : stage i bad collides put := by
    have refuses : ∀ {r}, r ≠ .ok → (s.checkCtl k).orElse (firstFail [(fails, .badField), (misses, .collision)]) = r →
        exec i s = .next (s.replied 0xB9 tag r []) := fun no h =>
      exec_refused request takes quiet (by rw [runs, h, State.judgedData_refused no])
    refine ⟨fun out => ?_, fun run => ⟨fun outside => ?_, fun low high => ⟨fun none => ?_, fun configured => ?_⟩⟩⟩
    · exact refuses nofun (by rw [State.checkCtl_outside out]; rfl)
    · exact refuses nofun (by rw [State.checkCtl_number run (by omega)]; rfl)
    · exact refuses nofun (by rw [State.checkCtl_unconfigured run ⟨low, high⟩ none]; rfl)
    rw [State.checkCtl_ok run ⟨low, high⟩ configured, Result.ok_orElse, firstFail_staged] at runs refuses
    refine ⟨fun isBad => ?_, fun good collision => ?_, fun good free => ?_⟩
    · exact refuses nofun (if_pos (hbad.mpr isBad))
    · exact refuses nofun (by rw [if_neg (mt hbad.mp good), if_pos (hcollides.mpr collision)])
    rw [if_neg (mt hbad.mp good), if_neg (mt hcollides.mp free), State.judgedData_ok rfl] at runs
    have whole := State.applyStaged_eq ⟨low, high⟩ chan (pending good)
    have cranes := congrArg State.cranes whole
    have own := State.crane_of_cranes cranes ⟨low, high⟩
    have data : ((s.updCrane k put).applyStaged k).ctlData k (s.staging k) = beBytes 1 (s.crane k).chan.code ++
        beBytes 1 (if (s.crane k).chan = .busy then 2 else 1) := by
      rw [State.ctlData, own, State.staging]
      split
      · rw [chan]
      · rw [Crane.withPending_eq, chan]
    refine ⟨_, (exec_taken request takes).trans (congrArg _ (data ▸ runs)), own.trans ?_,
      State.crane_of_cranes_other cranes, ?_⟩
    · rw [Crane.withPending_eq]
    · rw [whole]
  constructor
  · exact stages (.craneCtlProfile tag k f) rfl _ _ (fun c => { c with pendFigures := figuresOf f }) _ _
      (figuresOk_false_iff f) Option.isSome_iff_ne_none rfl (fun good => Crane.hasPending_iff.mpr (.inr (.inl good))) rfl
  · exact stages (.craneCtlReach tag k q) rfl _ _ (fun c => { c with pendReach := reachOf q }) _ _
      Option.isNone_iff_eq_none Option.isSome_iff_ne_none rfl (fun good => Crane.hasPending_iff.mpr (.inr (.inr good))) rfl

/-! ## TAKEN and the leg timers (R92, R94, R98, R102) -/

theorem Crane.takes_iff {c : Crane} {id : Nat} : c.takes id = true ↔ id ≠ 0 ∧ id = c.curLeg ∧ c.legTimer = none := by
  simp [Crane.takes, and_assoc]

/-- A crane record behind a TAKEN (R102). -/
def Crane.answered (id margin : Nat) (c : Crane) : Crane := if c.takes id then c.taken margin else c

theorem State.updCrane_answered (s : State) (k id margin : Nat) :
    (if (s.crane k).takes id then s.updCrane k (fun c => c.taken margin) else s) = s.updCrane k (Crane.answered id margin) := by
  by_cases takes : (s.crane k).takes id = true
  · rw [if_pos takes]
    exact State.updCrane_congr (if_pos takes).symm
  · rw [if_neg takes, State.updCrane_congr (f := Crane.answered id margin) (g := fun _ => s.crane k) (if_neg takes),
      State.updCrane_self]

/-- The valid telegram's count and timer, then the leg timer (R92, R94, R102). -/
theorem Crane.answered_heard (c : Crane) (id margin : Nat) :
    Crane.answered id margin { c with bad := 0, silence := 0 } =
      if id ≠ 0 ∧ id = c.curLeg ∧ c.legTimer = none then
        { c with bad := 0, silence := 0, takenTimer := none, legTimer := some (c.legEst + margin) }
      else { c with bad := 0, silence := 0 } :=
  if_congr (Crane.takes_iff (c := { c with bad := 0, silence := 0 })) rfl rfl

theorem State.finish_quiet (quiet : s.quiet) : s.finish = s := State.reexamine_quiet quiet

theorem State.chan_hear (s : State) (k : Nat) : ((s.hear k).crane k).chan = (s.crane k).chan :=
  State.crane_updCrane_part Crane.chan s k k fun _ => rfl

/-- TAKEN on a channel that is not OFFLINE touches the one record. -/
theorem runTaken_online (quiet : s.quiet) (online : (s.crane k).chan ≠ .offline) (id : Nat) : runTaken k id s =
    s.updCrane k (fun c => Crane.answered id s.policy.margin { c with bad := 0, silence := 0 }) := by
  have stays : (s.hear k).heard k = s.hear k := if_neg (by rw [State.chan_hear]; exact online)
  unfold runTaken
  dsimp only
  rw [stays, State.updCrane_answered, State.hear, State.updCrane_policy, State.updCrane_updCrane]
  exact State.finish_quiet (State.quiet_updCrane quiet k _)

/-- TAKEN takes an OFFLINE channel to LISTEN before the leg timer (R98). -/
theorem runTaken_offline (number : 1 ≤ k ∧ k ≤ 12) (offline : (s.crane k).chan = .offline) (idle : s.twinIdle k) (id : Nat) :
    runTaken k id s = State.finish { s with
      cranes := (s.updCrane k (fun c =>
        Crane.answered id s.policy.margin { c with bad := 0, silence := 0, chan := .listen })).cranes
      readyOrder := s.readyOrder.filter (fun j => j != k)
      passRun := s.passWithout k
      passDue := s.passDue || decide (s.mode.run = .run ∧ s.inTwin k = true)
      link := s.link.report (.craneState k .listen .heard (s.crane k).pos) } := by
  have listens : (s.hear k).heard k = (s.hear k).enter k .listen .heard := if_pos (by rw [State.chan_hear]; exact offline)
  have whole := State.enter_after (s := s) (t := s.hear k) number rfl (State.updCrane_aisles s k _) rfl idle .listen .heard
  rw [State.chanTriggers_other (by decide) (by decide)] at whole
  unfold runTaken
  dsimp only
  rw [listens, whole, State.updCrane_answered, State.hear, State.updCrane_eq s k (fun c => { c with bad := 0, silence := 0 })]
  refine congrArg State.finish (State.updCrane_after (s := s)
    (f := fun c => Crane.entering { c with bad := 0, silence := 0 } .listen .heard) ?_ _)
  rfl

/-- Settles O40: the record by `answered_heard`, the change to LISTEN by `enter_after`. -/
theorem takenAndTheLegTimers : Obligations.TakenAndTheLegTimers := by
  intro k id s quiet c heard
  refine ⟨fun none => congrArg Host.Outcome.next (State.onPort_not none _), fun configured online => ?_,
    fun configured offline idle => ?_, ?_, ?_⟩
  · have on := configured_iff.mpr configured
    have number := State.crane_number on
    refine ⟨_, congrArg Host.Outcome.next ((State.onPort_configured on _).trans (runTaken_online quiet online id)), ?_⟩
    obtain ⟨own, other, rest⟩ := State.updCrane_frame (s := s) number
      (fun c => Crane.answered id s.policy.margin { c with bad := 0, silence := 0 })
    exact ⟨own.trans (Crane.answered_heard ..), other, rest⟩
  · have on := configured_iff.mpr configured
    have number := State.crane_number on
    refine ⟨_, congrArg Host.Outcome.next ((State.onPort_configured on _).trans (runTaken_offline number offline idle id)),
      (State.crane_of_cranes (s := s)
        (f := fun c => Crane.answered id s.policy.margin { c with bad := 0, silence := 0, chan := .listen }) rfl number).trans ?_,
      State.crane_of_cranes_other rfl, rfl⟩
    refine (Crane.answered_heard { c with chan := .listen } id s.policy.margin).trans ?_
    simp only [heard]
    split <;> rfl
  · show Host.Outcome.next (if c.takenTimer.isSome then _ else s) = _
    cases c.takenTimer <;> rfl
  · show Host.Outcome.next (if c.legTimer.isSome then _ else s) = _
    cases c.legTimer <;> rfl

end Sys2Proof.Machine
end

section
/-! SUPPORT. A channel that goes on, ends its cycle or parks (R101, R105, R118, R126). -/

namespace Sys2Proof.Machine

variable {s t : State} {k : Nat}

/-! ## Going on -/

theorem State.continueCrane_plan {g : Leg} {rest : List Leg} (busy : (s.crane k).chan = .busy)
    (plan : (s.crane k).plan = g :: rest) : s.continueCrane k = s.goOn k := by
  rw [State.continueCrane, if_pos busy, plan]
  rfl

theorem State.continueCrane_idle (idle : (s.crane k).chan ≠ .busy) : s.continueCrane k = s := if_neg idle

theorem Crane.nextLeg_busy {c : Crane} (busy : c.chan = .busy) {g : Leg} {rest : List Leg} (plan : c.plan = g :: rest) :
    c.nextLeg = some g := by
  simp [Crane.nextLeg, busy, plan]

/-- The expected pallet of a leg (R93). -/
theorem Crane.expected_eq (c : Crane) (g : Leg) :
    c.expected g = if g.kind = .move then c.load.map Load.id else g.pallet := by
  unfold Crane.expected
  cases g.kind <;> simp

/-- An interval that holds the claim and the recorded position leaves nothing of the rail span out (R129). -/
theorem Crane.leavesOut_asked {c : Crane} {v : Span} (claim : ∀ b, c.claim = some b → v.lo ≤ b.lo ∧ b.hi ≤ v.hi)
    (pos : ∀ p, c.pos = some p → v.lo ≤ p.x ∧ p.x ≤ v.hi) : leavesOut c.railSpan (some v) = false := by
  unfold Crane.railSpan
  cases place : c.pos with
  | none =>
    cases own : c.claim with
    | none => rfl
    | some b => simp [leavesOut, claim b own]
  | some p =>
    have at_ := pos p place
    cases own : c.claim with
    | none => simp [leavesOut, at_]
    | some b =>
      have inside := claim b own
      simp only [leavesOut, Bool.not_eq_false', Bool.and_eq_true, decide_eq_true_eq]
      omega

theorem State.askSpan_pos (g : Leg) (p : Point) (pos : (s.crane k).pos = some p) :
    (s.askSpan k g).lo ≤ p.x ∧ p.x ≤ (s.askSpan k g).hi := by
  simp only [State.askSpan, pos, Option.getD_some]
  omega

/-! ## The end of a cycle (R59, R105) -/

/-- A crane record behind the end of its cycle. -/
theorem Crane.ended_eq {c : Crane} (plan : c.plan = []) : c.planless.withPending = { c with
    cycle := none, estimate := 0, roomWait := false, request := none
    speed := c.pendSpeed.getD c.speed, pendSpeed := none
    figures := (if c.pendFigures = none then c.figures else c.pendFigures), pendFigures := none
    reach := (if c.pendReach = none then c.reach else c.pendReach), pendReach := none } := by
  rw [Crane.withPending_eq]
  simp only [Crane.planless, plan]
  rfl

theorem State.continueCrane_ended (busy : (s.crane k).chan = .busy) (plan : (s.crane k).plan = []) :
    s.continueCrane k = s.endCycle k := by
  rw [State.continueCrane, if_pos busy, plan]
  rfl

theorem State.pendingPark_cycleEnd (s : State) (k : Nat) :
    (((s.updCrane k Crane.planless).applyPending k).crane k).pendingPark = (s.crane k).pendingPark := by
  rw [State.cycleEnd_eq]
  refine State.crane_of_cranes_part Crane.pendingPark (f := fun c => c.planless.withPending) rfl ?_ k
  rw [Crane.withPending_eq]
  rfl

/-- A trigger that is due anyway. -/
theorem State.due_again (p q : Prop) [Decidable p] [Decidable q] : (decide (p ∧ q) || decide q) = decide q := by
  by_cases q <;> simp_all

/-! ## What follows a DONE or FAILED (R111, R112) -/

theorem State.resolveUncertain_none (settled : ∀ j ∈ s.pool, j.crane = k → j.state.isUncertain = false) (load : Nat) :
    s.resolveUncertain k load = s := by
  have none : s.uncertainJob k = none := List.find?_eq_none.mpr fun j hj => by
    intro h
    rw [Bool.and_eq_true, beq_iff_eq] at h
    rw [settled j hj h.1] at h
    exact Bool.false_ne_true h.2
  rw [State.resolveUncertain, none]

theorem State.compareLoad_same {load : Nat} (same : (s.crane k).loadId = load) : s.compareLoad k load = s := if_pos same

/-- Settles O39: the leg by `goOn`, the claim by the arbiter's `ask`, the end of the cycle by `cycleEnd_eq`. -/
theorem channelGoesOnOrEndsItsCycle : Obligations.ChannelGoesOnOrEndsItsCycle := by
  intro k s k1 k12 c
  have number : 1 ≤ k ∧ k ≤ 12 := ⟨k1, k12⟩
  refine ⟨State.continueCrane_idle, fun g rest busy plan => ?_, fun busy plan => ?_, fun load midLeg settled same => ?_⟩
  · intro start p v id sent free
    have next : (s.crane k).nextLeg = some g := Crane.nextLeg_busy busy plan
    have goes := State.continueCrane_plan busy plan
    have may : s.mayGoOn k = true ↔ free := by
      rw [State.mayGoOn_iff]
      simp only [busy, c, free, true_or, true_and]
    have sends (isFree : free) {claim : Option Span} (h : s.continueCrane k = s.legSent k g claim) : sent claim := by
      have cranes := s.legSent_cranes k g claim
      have asked : (s.crane k).request = none := isFree.2.2.2.2.1
      refine ⟨_, h, (State.crane_of_cranes cranes number).trans ?_, State.crane_of_cranes_other cranes, ?_⟩
      · simp only [Crane.sent, c, asked]
        rfl
      · simp only [State.legSent, Crane.expected_eq]
        rfl
    refine ⟨fun not => goes.trans (State.goOn_stays (mt may.mp not)), fun isFree single => sends isFree ?_,
      fun j isFree twin => ?_⟩
    · rw [goes, State.goOn_sends (may.mpr isFree) single, State.sendLeg_eq next]
    intro clear
    have asks := goes.trans (State.goOn_asks (may.mpr isFree) (State.inTwin_of_twinOf twin))
    have commands := State.commands_iff.mpr isFree.1
    have test : s.grantTest k (s.askSpan k g) = true ↔ clear := State.grantTest_twin twin v
    refine ⟨fun isClear holds => sends isFree ?_, fun notClear stays quiet => ?_⟩
    · have kept : leavesOut (s.crane k).railSpan (some (s.askSpan k g)) = false :=
        Crane.leavesOut_asked holds (State.askSpan_pos g)
      rw [asks, State.rail_ask_granted number commands next (test.mpr isClear) (.inr kept), if_neg (by simp [kept])]
      rfl
    · exact ⟨_, asks.trans (State.rail_ask_refused commands next twin (mt test.mp notClear) stays quiet),
        State.updCrane_frame number _⟩
  · intro ended
    have same : (s.crane k).planless.withPending = ended := Crane.ended_eq plan
    have ends : s.continueCrane k = s.endCycle k := State.continueCrane_ended busy plan
    refine ⟨fun stays idle => ?_, fun parks => ?_⟩
    · have enters : s.endCycle k = ((s.updCrane k Crane.planless).applyPending k).enter k .ready .cycleEnd :=
        if_neg (by rw [State.pendingPark_cycleEnd, stays]; exact Bool.false_ne_true)
      have whole := State.enter_after (s := s) (t := (s.updCrane k Crane.planless).applyPending k)
        (f := fun c => c.planless.withPending) number
        (by rw [State.cycleEnd_eq]) (by rw [State.cycleEnd_eq]) (by rw [same]) idle .ready .cycleEnd
      have cranes := congrArg State.cranes whole
      refine ⟨_, ends.trans enters, (State.crane_of_cranes cranes number).trans (by rw [same]; rfl),
        State.crane_of_cranes_other cranes, ?_⟩
      rw [whole, State.chanTriggers_ready, same, State.cycleEnd_eq]
      simp only [and_true, Bool.or_assoc, State.due_again]
      rfl
    · have starts : s.endCycle k = ((s.updCrane k Crane.planless).applyPending k).startPark k :=
        if_pos ((State.pendingPark_cycleEnd s k).trans parks)
      have whole := s.cycleEnd_eq k
      have cranes := congrArg State.cranes whole
      refine ⟨_, ends.trans starts, (State.crane_of_cranes cranes number).trans same, State.crane_of_cranes_other cranes, ?_⟩
      rw [whole]
      simp only [Crane.hasPending_iff]
      rfl
  · have resolved : s.resolveUncertain k load = s := State.resolveUncertain_none settled load
    have compared : (if midLeg then s else s.compareLoad k load) = s := by
      rcases same with mid | same
      · exact if_pos mid
      · rw [State.compareLoad_same (by rw [Crane.loadId_eq]; exact same.symm)]
        exact ite_self s
    rw [State.afterLeg, State.settleLoad, resolved, compared]

end Sys2Proof.Machine
end

section
/-! SUPPORT. CRANE_CTL PARK and the parking hold (R116, R118, R126, R127). -/

namespace Sys2Proof.Machine

variable {s t : State} {k : Nat}

/-! ## The park leg (R118) -/

/-- The leg that takes a crane to its end position. -/
def State.parkTarget (s : State) (k : Nat) : Leg :=
  s.mkLeg k .move .endPos none none false ((s.crane k).pos.getD (s.crane k).endPoint)

/-- The state with the park leg of crane `k` written and its channel in PARKING. -/
def State.homeward (s : State) (k : Nat) : State :=
  { s with
    cranes := (s.updCrane k (fun c =>
      { c with chan := .parking, parkLeg := some (s.parkTarget k), pendingPark := false })).cranes
    readyOrder := s.readyOrder.filter (fun j => j != k)
    passRun := s.passWithout k
    passDue := s.passDue || decide (s.mode.run = .run ∧ s.inTwin k = true)
    link := s.link.report (.craneState k .parking .park (s.crane k).pos) }

theorem State.homeward_cranes (s : State) (k : Nat) : (s.homeward k).cranes = (s.updCrane k (fun c =>
    { c with chan := .parking, parkLeg := some (s.parkTarget k), pendingPark := false })).cranes := rfl

theorem State.startPark_eq (number : 1 ≤ k ∧ k ≤ 12) (idle : s.twinIdle k) : s.startPark k = (s.homeward k).goOn k := by
  have whole := State.enter_after (s := s) (t := s.writePark k)
    (f := fun c => { c with parkLeg := some (s.parkTarget k), pendingPark := false }) number rfl
    (State.updCrane_aisles s k _) rfl idle .parking .park
  rw [State.chanTriggers_other (by decide) (by decide), State.writePark, State.updCrane_eq] at whole
  rw [State.startPark, State.writePark, State.updCrane_eq, whole]
  rfl

theorem State.crane_homeward (number : 1 ≤ k ∧ k ≤ 12) : (s.homeward k).crane k =
    { s.crane k with chan := .parking, parkLeg := some (s.parkTarget k), pendingPark := false } :=
  State.crane_of_cranes (s.homeward_cranes k) number

theorem State.nextLeg_homeward (number : 1 ≤ k ∧ k ≤ 12) : ((s.homeward k).crane k).nextLeg = some (s.parkTarget k) := by
  rw [State.crane_homeward number]
  rfl

/-- Nothing holds the park leg of a crane back. -/
structure State.ParkFree (s : State) (k : Nat) : Prop where
  run : s.mode.run = .run ∨ s.mode.run = .hold
  leg : (s.crane k).curLeg = 0
  room : (s.crane k).roomWait = false
  hold : tableGet k s.holds = none
  request : (s.crane k).request = none

theorem State.ParkFree.goes (free : s.ParkFree k) (number : 1 ≤ k ∧ k ≤ 12) : (s.homeward k).mayGoOn k = true := by
  rw [State.mayGoOn_iff, State.crane_homeward number]
  refine ⟨free.run, .inr rfl, free.leg, free.room, free.hold, free.request, fun p running => ?_⟩
  obtain ⟨q, _, rfl⟩ := Option.map_eq_some_iff.mp (running : s.passWithout k = some p)
  simp [Pass.without]

theorem State.inTwin_homeward (s : State) (k : Nat) : (s.homeward k).inTwin k = s.inTwin k :=
  State.inTwin_congr rfl (State.crane_of_cranes_part Crane.cfg (s.homeward_cranes k) rfl k)

theorem State.twinOf_homeward (s : State) (k : Nat) : (s.homeward k).twinOf k = s.twinOf k :=
  State.twinOf_congr rfl fun j => State.crane_of_cranes_part Crane.cfg (s.homeward_cranes k) rfl j

/-! ## The park leg sent (R56, R93, R95) -/

/-- The record of a crane that has its park leg, with the claim as given. -/
def State.homeLeg (s : State) (k : Nat) (claim : Option Span) (c : Crane) : Crane :=
  { c with
    chan := .parking, parkLeg := some (s.parkTarget k), pendingPark := false
    lastLeg := nextLegId (s.crane k).lastLeg, curLeg := nextLegId (s.crane k).lastLeg
    legEst := (s.crane k).legEstimate .move false ((s.crane k).pos.getD (s.parkTarget k).start) (s.targetPoint k .endPos)
    takenTimer := some 1000, legTimer := none, claim := claim, request := none }

/-- The state with the park leg sent. -/
def State.homeSent (s : State) (k : Nat) (claim : Option Span) : State :=
  { s.homeward k with
    cranes := (s.updCrane k (s.homeLeg k claim)).cranes
    portOut := s.portOut ++ [(k, legTelegram (nextLegId (s.crane k).lastLeg) .move .endPos (s.targetPoint k .endPos)
      (s.crane k).speed ((s.crane k).load.map Load.id))] }

theorem State.targetPoint_homeward (s : State) (k : Nat) :
    (s.homeward k).targetPoint k (s.parkTarget k).target = s.targetPoint k .endPos :=
  State.targetPoint_congr (s := s) (t := s.homeward k) rfl rfl
    (State.crane_of_cranes_part Crane.cfg (s.homeward_cranes k) rfl k) .endPos

theorem State.legSent_homeward (number : 1 ≤ k ∧ k ≤ 12) (claim : Option Span) :
    (s.homeward k).legSent k (s.parkTarget k) claim = s.homeSent k claim := by
  have pool : s.pool.map (fun j => if (s.parkTarget k).job = some j.num ∧ ((s.parkTarget k).kind = .fetch ∨
      ((s.parkTarget k).kind = .put ∧ j.kind = .recover)) then { j with state := .active } else j) = s.pool := by
    simp [State.parkTarget, State.mkLeg]
  unfold State.legSent
  dsimp only
  rw [State.crane_homeward number, State.cranes_updCrane_after (s.homeward_cranes k), State.targetPoint_homeward]
  have same : (s.homeward k).pool.map _ = s.pool := pool
  rw [same]
  rfl

/-- The interval the park leg asks for (R126). -/
def State.homeSpan (s : State) (k : Nat) : Span :=
  let x := ((s.crane k).pos.getD (s.parkTarget k).start).x
  let y := (s.targetPoint k .endPos).x
  { lo := min x y, hi := max x y }

theorem State.askSpan_homeward (s : State) (k : Nat) : (s.homeward k).askSpan k (s.parkTarget k) = s.homeSpan k := by
  have pos : ((s.homeward k).crane k).pos = (s.crane k).pos :=
    State.crane_of_cranes_part Crane.pos (s.homeward_cranes k) rfl k
  rw [State.askSpan, State.targetPoint_homeward, pos]
  rfl

/-! ## PARK on a READY crane, whole (R118, R126, R127, R130) -/

/-- A trigger where a pass is due already. -/
theorem State.trigger_due (due : s.mode.run = .run → s.passDue = true) : s.trigger = s := by
  unfold State.trigger
  by_cases run : s.mode.run = .run
  · rw [if_pos run, ← due run]
  · rw [if_neg run]

theorem State.startPark_single (number : 1 ≤ k ∧ k ≤ 12) (free : s.ParkFree k) (single : s.inTwin k = false) :
    s.startPark k = s.homeSent k (s.crane k).claim := by
  rw [State.startPark_eq number (State.twinIdle_of_not_inTwin single),
    State.goOn_sends (free.goes number) ((s.inTwin_homeward k).trans single),
    State.sendLeg_eq (State.nextLeg_homeward number), State.legSent_homeward number, State.crane_homeward number]

/-- What a twin aisle's park leg asks the arbiter. -/
theorem State.grantTest_homeward {j : Nat} (number : 1 ≤ k ∧ k ≤ 12) (twin : s.twinOf k = some j) :
    (s.homeward k).grantTest k ((s.homeward k).askSpan k (s.parkTarget k)) = s.grantTest k (s.homeSpan k) := by
  have other : (s.homeward k).crane j = s.crane j :=
    State.crane_of_cranes_other (s.homeward_cranes k) j (State.twinOf_ne twin)
  rw [State.askSpan_homeward]
  unfold State.grantTest State.gaps
  rw [State.twinOf_homeward, twin]
  dsimp only
  rw [other, State.crane_homeward number]
  rfl

theorem State.startPark_asks {j : Nat} (number : 1 ≤ k ∧ k ≤ 12) (free : s.ParkFree k) (twin : s.twinOf k = some j)
    (quiet : (s.crane j).request = none) : s.startPark k = (s.homeward k).rail [.ask k] := by
  have idle : s.twinIdle k := fun i found => by rwa [← Option.some.inj (twin.symm.trans found)]
  rw [State.startPark_eq number idle,
    State.goOn_asks (free.goes number) ((s.inTwin_homeward k).trans (State.inTwin_of_twinOf twin))]

theorem State.startPark_clear {j : Nat} (number : 1 ≤ k ∧ k ≤ 12) (free : s.ParkFree k) (twin : s.twinOf k = some j)
    (quiet : (s.crane j).request = none) (clear : s.grantTest k (s.homeSpan k) = true) :
    s.startPark k = s.homeSent k (some (s.homeSpan k)) := by
  have idle : (s.homeward k).twinIdle k := State.twinIdle_of_cranes (s.homeward_cranes k) rfl rfl fun i found => by
    rwa [← Option.some.inj (twin.symm.trans found)]
  rw [State.startPark_asks number free twin quiet, State.rail_ask_granted (s := s.homeward k) number
    (State.commands_iff.mpr free.run)
    (State.nextLeg_homeward number) ((State.grantTest_homeward number twin).trans clear) (.inl idle),
    State.legSent_homeward number, State.askSpan_homeward]
  have due : (s.homeSent k (some (s.homeSpan k))).trigger = s.homeSent k (some (s.homeSpan k)) :=
    State.trigger_due fun run => by
      show (s.passDue || decide (s.mode.run = .run ∧ s.inTwin k = true)) = true
      rw [decide_eq_true ⟨run, State.inTwin_of_twinOf twin⟩, Bool.or_true]
  rw [due, ite_self]

theorem State.startPark_waits {j : Nat} (number : 1 ≤ k ∧ k ≤ 12) (free : s.ParkFree k) (twin : s.twinOf k = some j)
    (quiet : (s.crane j).request = none) (blocked : ¬ s.grantTest k (s.homeSpan k) = true)
    (stays : (s.crane j).canEvade = false) : s.startPark k = { s.homeward k with
      cranes := (s.updCrane k (fun c => { c with
        chan := .parking, parkLeg := some (s.parkTarget k), pendingPark := false
        request := some (s.homeSpan k) })).cranes } := by
  have other : (s.homeward k).crane j = s.crane j :=
    State.crane_of_cranes_other (s.homeward_cranes k) j (State.twinOf_ne twin)
  rw [State.startPark_asks number free twin quiet, State.rail_ask_refused (s := s.homeward k)
    (State.commands_iff.mpr free.run)
    (State.nextLeg_homeward number) ((s.twinOf_homeward k).trans twin)
    (by rw [State.grantTest_homeward number twin]; exact blocked) (by rw [other]; exact stays) (by rw [other]; exact quiet),
    State.askSpan_homeward, State.updCrane_after (s.homeward_cranes k)]

/-! ## The end of the parking hold (R118) -/

theorem sleepTelegram_eq (k : Nat) : sleepTelegram k = [0x03, BitVec.ofNat 8 k] := by simp [sleepTelegram, beBytes]

theorem State.sleep_eq (number : 1 ≤ k ∧ k ≤ 12) (idle : s.twinIdle k) : s.sleep k = { s with
    cranes := (s.updCrane k (fun c => { c with parkHold := none, chan := .parked })).cranes
    readyOrder := s.readyOrder.filter (fun j => j != k)
    passRun := s.passWithout k
    passDue := s.passDue || decide (s.mode.run = .run ∧ s.inTwin k = true)
    portOut := s.portOut ++ [(k, [0x03, BitVec.ofNat 8 k])]
    link := s.link.report (.craneState k .parked .asleep (s.crane k).pos) } := by
  have whole := State.enter_after (s := s)
    (t := (s.updCrane k (fun c => { c with parkHold := none })).portSend k (sleepTelegram k))
    (f := fun c => { c with parkHold := none }) number rfl (State.updCrane_aisles s k _) rfl idle .parked .asleep
  rw [State.chanTriggers_other (by decide) (by decide), State.updCrane_eq, sleepTelegram_eq] at whole
  rw [State.sleep, State.updCrane_eq, sleepTelegram_eq, whole]
  rfl

/-- The park leg's telegram (R93, R188). -/
theorem parkTelegram (id : Nat) (p : Point) (speed : SpeedClass) (pallet : Option Nat) :
    legTelegram id .move .endPos p speed pallet = beBytes 1 1 ++ beBytes 1 id ++ beBytes 1 3 ++ beBytes 1 3 ++ beBytes 4 p.x ++
      beBytes 2 p.y ++ beBytes 1 0 ++ beBytes 1 0 ++ beBytes 1 (if speed = .normal then 0 else 1) ++
      beBytes 4 (pallet.getD 0) := by
  cases speed <;> rfl

/-- Settles O37: the shared checks, then the channel state; the park leg by `startPark_single`, `startPark_clear` and
`startPark_waits`. -/
theorem parkSendsTheCraneHome : Obligations.ParkSendsTheCraneHome := by
  intro tag k s quiet
  refine ⟨fun takes => ?_, fun off => ?_, fun on => ⟨?_, fun idle => ?_⟩⟩
  · intro refused
    have refuses : ∀ {r}, r ≠ .ok → (s.checkCtl k).orElse (s.checkPark k) = r → refused r := fun no h =>
      exec_refused rfl takes quiet (by rw [runRequest, runCraneCtlPark, h, State.judgedData_refused no])
    have grants (h : (s.checkCtl k).orElse (s.checkPark k) = .ok) : exec (.craneCtlPark tag k) s =
        .next ((s.applyPark k).conclude 0x39 tag .ok ((s.applyPark k).ctlData k 0)) := by
      rw [exec_taken rfl takes, runRequest, runCraneCtlPark, State.judgedData_ok h]
    by_cases out : s.mode.run = .config ∨ s.mode.run = .safe
    · rw [if_pos out]
      exact refuses nofun (by rw [State.checkCtl_outside out]; rfl)
    rw [if_neg out]
    have run := RunState.inRunHold_of_not out
    by_cases number : 1 ≤ k ∧ k ≤ 12
    swap
    · rw [if_pos number]
      exact refuses nofun (by rw [State.checkCtl_number run number]; rfl)
    rw [if_neg (not_not_intro number)]
    cases cfg : (s.crane k).cfg with
    | none => exact refuses nofun (by rw [State.checkCtl_unconfigured run number cfg]; rfl)
    | some g =>
      have passes : (s.checkCtl k).orElse (s.checkPark k) = s.checkPark k := by
        rw [State.checkCtl_ok run number (by rw [cfg]; exact Option.some_ne_none g), Result.ok_orElse]
      cases chan : (s.crane k).chan with
      | offline | listen | parking | parked | fault | manual =>
        exact refuses nofun (passes.trans (by rw [State.checkPark, chan]))
      | busy =>
        have replies := grants (passes.trans (by rw [State.checkPark, chan]))
        rw [State.applyPark, chan] at replies
        dsimp only at replies
        obtain ⟨own, other, rest⟩ := State.updCrane_frame (s := s) number (fun c => { c with pendingPark := true })
        rw [State.ctlData, own, State.conclude_replied (State.quiet_updCrane quiet k _)] at replies
        simp only [chan] at replies
        exact ⟨_, replies, own, other, rest⟩
      | ready =>
        cases pos : (s.crane k).pos with
        | none => exact refuses nofun (passes.trans (by rw [State.checkPark, chan]; exact if_neg (by rw [pos]; decide)))
        | some p =>
          have replies := grants (passes.trans (by rw [State.checkPark, chan]; exact if_pos (by rw [pos]; rfl)))
          rw [State.applyPark, chan] at replies
          refine ⟨replies, fun leg room hold request => ?_⟩
          intro id est parked sent parks telegram
          have free : s.ParkFree k := ⟨run, leg, room, hold, request⟩
          have point : s.targetPoint k .endPos = g.endPos := by rw [State.targetPoint, cfg]
          have target : s.parkTarget k = { kind := .move, target := .endPos, job := none, pallet := none, approach := false
                                           start := p, est := est } := by
            rw [State.parkTarget, State.mkLeg, point, pos]
            rfl
          have span : s.homeSpan k = { lo := min p.x g.endPos.x, hi := max p.x g.endPos.x } := by
            rw [State.homeSpan, point, pos]
            rfl
          have parksBy {f : Crane → Crane} {v : Crane} {out : List (Nat × List Byte)} (own : f (s.crane k) = v)
              (chan : v.chan = .parking) (h : s.startPark k = { s.homeward k with
                cranes := (s.updCrane k f).cranes, portOut := s.portOut ++ out }) : parks v out := by
            have cranes := congrArg State.cranes h
            have record := (State.crane_of_cranes cranes number).trans own
            dsimp only at replies
            rw [State.ctlData, record, chan] at replies
            refine ⟨_, replies, record, State.crane_of_cranes_other cranes, ?_⟩
            rw [h, State.homeward, pos]
          have leaves (claim : Option Span) : s.homeLeg k claim (s.crane k) = sent claim := by
            rw [State.homeLeg, target, point, pos]
            simp only [sent, parked, request, pos]
            rfl
          have sends {claim : Option Span} (h : s.startPark k = s.homeSent k claim) : parks (sent claim) [telegram] := by
            refine parksBy (leaves claim) rfl (h.trans ?_)
            rw [State.homeSent, point, parkTelegram]
            rfl
          refine ⟨fun single => sends (State.startPark_single number free single), fun j twin quiet => ?_⟩
          intro v clear
          have role : (s.crane k).role = g.role := by rw [Crane.role, cfg]
          have gap : (s.crane k).gap = g.gap := by rw [Crane.gap, cfg]
          have test : s.grantTest k (s.homeSpan k) = true ↔ clear := by
            rw [State.grantTest_twin twin, role, gap, span]
          refine ⟨fun isClear => ?_, fun notClear stays => ?_⟩
          · have goes := State.startPark_clear number free twin quiet (test.mpr isClear)
            rw [span] at goes
            exact sends goes
          · have waits := State.startPark_waits number free twin quiet (mt test.mp notClear) stays
            rw [span, target] at waits
            exact parksBy rfl rfl (waits.trans (by rw [List.append_nil]; rfl))
  · exact congrArg Host.Outcome.next (if_neg (by rw [off]; exact Bool.false_ne_true))
  · exact congrArg Host.Outcome.next (if_pos (Option.isSome_iff_ne_none.mpr on))
  · have number : 1 ≤ k ∧ k ≤ 12 := by
      by_contra out
      exact on (by rw [State.crane_outside s out]; rfl)
    have whole := State.sleep_eq number idle
    have cranes := congrArg State.cranes whole
    exact ⟨State.crane_of_cranes cranes number, State.crane_of_cranes_other cranes, by rw [whole]⟩

end Sys2Proof.Machine
end

section
/-! SUPPORT. The entering of FAULT and the breaking of a plan (R98, R110). -/

namespace Sys2Proof.Machine

variable {s t : State} {k : Nat}

theorem stopTelegram_eq (k : Nat) : stopTelegram k = [0x02, BitVec.ofNat 8 k] := by simp [stopTelegram, beBytes]

/-- The state behind the STOP of an entering of FAULT (R98; entry 7). -/
def State.faultStop (s : State) (k : Nat) (r : FaultReason) : State :=
  { s with portOut := s.portOut ++ if (s.crane k).curLeg ≠ 0 ∧ r ≠ .drive then [(k, [0x02, BitVec.ofNat 8 k])] else [] }

theorem State.faultStop_eq (s : State) (k : Nat) (r : FaultReason) :
    (if (s.crane k).curLeg ≠ 0 ∧ r ≠ .drive then { s with portOut := s.portOut ++ [(k, [0x02, BitVec.ofNat 8 k])] } else s) =
      s.faultStop k r := by
  unfold State.faultStop
  split
  · rfl
  · rw [List.append_nil]

theorem Crane.faulted_iff {c : Crane} {r : FaultReason} : c.faulted r = true ↔ c.chan = .fault ∧ c.lastFault = some r := by
  simp [Crane.faulted]

theorem State.enterFault_stays {r : FaultReason} (h : (s.crane k).chan = .fault ∧ (s.crane k).lastFault = some r)
    (info : Option Nat) : s.enterFault k r info = s := if_pos (Crane.faulted_iff.mpr h)

theorem State.enterFault_eq {r : FaultReason} (h : ¬ ((s.crane k).chan = .fault ∧ (s.crane k).lastFault = some r))
    (info : Option Nat) :
    s.enterFault k r info = ((s.faultStop k r).haltCrane k info).enter k .fault (.fault r) := by
  rw [State.enterFault, if_neg (mt Crane.faulted_iff.mp h)]
  dsimp only
  rw [State.stopCrane, State.portSend, stopTelegram_eq, State.faultStop_eq]

/-- A channel that is not BUSY drops its park leg, if it has one. -/
def Crane.halted (c : Crane) : Crane := if c.chan = .parking then c.unparked else c

theorem Crane.cfg_halted (c : Crane) : c.halted.cfg = c.cfg := by
  unfold Crane.halted
  split <;> rfl

theorem Crane.pos_halted (c : Crane) : c.halted.pos = c.pos := by
  unfold Crane.halted
  split <;> rfl

theorem State.haltCrane_idle (idle : (s.crane k).chan ≠ .busy) (info : Option Nat) :
    s.haltCrane k info = s.updCrane k Crane.halted := by
  unfold State.haltCrane
  cases chan : (s.crane k).chan with
  | busy => exact absurd chan idle
  | parking => exact State.updCrane_congr (if_pos chan).symm
  | offline | listen | ready | parked | fault | manual =>
    refine (State.updCrane_self s k).symm.trans (State.updCrane_congr (if_neg ?_).symm)
    rw [chan]
    decide

theorem State.haltCrane_busy (busy : (s.crane k).chan = .busy) (info : Option Nat) :
    s.haltCrane k info = s.breakPlan k info := by
  rw [State.haltCrane, busy]

/-- Settles O41: the change of state by `enter_after`, the jobs of the plan by `breakJob_eq`. -/
theorem faultBreaksThePlan : Obligations.FaultBreaksThePlan := by
  intro k r info s k1 k12 c stopped
  have number : 1 ≤ k ∧ k ≤ 12 := ⟨k1, k12⟩
  have stops : stopped = s.faultStop k r := State.faultStop_eq s k r
  refine ⟨fun chan same => State.enterFault_stays ⟨chan, same⟩ info, fun new idle quiet => ?_, fun busy => ?_, ?_⟩
  · intro halted
    have enters : s.enterFault k r info = ((s.faultStop k r).updCrane k Crane.halted).enter k .fault (.fault r) := by
      rw [State.enterFault_eq new, State.haltCrane_idle (s := s.faultStop k r) idle]
    have whole := enters.trans (State.enter_after (s := s) (t := (s.faultStop k r).updCrane k Crane.halted)
      (f := Crane.halted) number (State.cranes_updCrane_congr (s := s) (t := s.faultStop k r) rfl k _) (State.updCrane_aisles (s.faultStop k r) k _)
      (s.crane k).cfg_halted quiet .fault (.fault r))
    have cranes := congrArg State.cranes whole
    refine ⟨_, rfl, State.crane_of_cranes cranes number, State.crane_of_cranes_other cranes, ?_⟩
    rw [whole, State.chanTriggers_other (by decide) (by simp), (s.crane k).pos_halted, stops, State.updCrane_eq]
    rfl
  · intro b quiet
    have enters : s.enterFault k r info = b.enter k .fault (.fault r) := by
      have new : ¬ ((s.crane k).chan = .fault ∧ (s.crane k).lastFault = some r) := fun h => by
        rw [show (s.crane k).chan = .busy from busy] at h
        exact nomatch h.1
      rw [State.enterFault_eq new, State.haltCrane_busy (s := s.faultStop k r) busy, ← stops]
    have whole := enters.trans ((State.enter_eq quiet .fault (.fault r)).trans (State.chanTo_eq b k .fault (.fault r)))
    have cranes := congrArg State.cranes whole
    refine ⟨_, rfl, State.crane_of_cranes cranes number, State.crane_of_cranes_other cranes, ?_⟩
    rw [whole, State.chanTriggers_other (by decide) (by simp)]
    rfl
  · intro leg treated
    have same (u : State) (n : Nat) : u.breakJob k n (c.outstandingOf n) info = treated u n := by
      have outstanding : c.outstandingOf n = leg n := rfl
      unfold State.breakJob
      simp only [treated, outstanding]
      cases job : u.job n with
      | none => rfl
      | some j =>
        obtain rfl : j.num = n := State.num_of_job job
        dsimp only
        cases state : j.state with
        | assigned | waiting _ | ready | uncertain _ => rfl
        | active | carried =>
          cases leg j.num with
          | none => rfl
          | some kind =>
            cases info with
            | none => rfl
            | some load => cases kind <;> rfl
    refine ⟨{ s with cranes := (s.updCrane k Crane.broken).cranes, holds := tableDrop k s.holds },
      State.crane_of_cranes (s := s) (f := Crane.broken) rfl number,
      State.crane_of_cranes_other (s := s) (f := Crane.broken) rfl, rfl, ?_⟩
    have steps : (fun u n => u.breakJob k n (c.outstandingOf n) info) = treated := funext fun u => funext (same u)
    rw [State.breakPlan, State.updCrane_eq, ← steps]

end Sys2Proof.Machine
end

section
/-! SUPPORT. RECOVER (R24, R114). -/

namespace Sys2Proof.Machine

variable {s : State} {q : RecoverFields} {l : Loc} {t : Station}

/-! ## The checks (R114) -/

theorem recoverFieldsOk_iff (q : RecoverFields) : recoverFieldsOk q = true ↔
    1 ≤ q.crane ∧ q.crane ≤ 12 ∧ q.form ≤ 1 ∧ (q.form = 1 → 1 ≤ q.station ∧ q.station ≤ 16) := by
  have station : (!(q.form == 1 && (q.station == 0 || decide (16 < q.station)))) = true ↔
      (q.form = 1 → 1 ≤ q.station ∧ q.station ≤ 16) := by
    simp [imp_iff_not_or, Nat.one_le_iff_ne_zero]
  simp only [recoverFieldsOk, Bool.and_eq_true, craneOk_iff, decide_eq_true_eq, station, and_assoc]

theorem State.not_inRunHold_iff (s : State) : (!s.inRunHold) = true ↔ s.mode.run = .config ∨ s.mode.run = .safe := by
  rw [Bool.not_eq_true', ← Bool.not_eq_true, State.inRunHold_iff]
  cases s.mode.run <;> simp

theorem State.recoverJob_isSome (s : State) (k : Nat) :
    (s.recoverJob k).isSome = true ↔ ∃ j ∈ s.pool, j.kind = .recover ∧ j.crane = k := by
  simp [State.recoverJob, and_comm]

/-- The checks of RECOVER before those of its destination. -/
theorem State.checkRecover_eq (s : State) (q : RecoverFields) : s.checkRecover q =
    if s.mode.run = .config ∨ s.mode.run = .safe then .wrongMode
    else if ¬ (1 ≤ q.crane ∧ q.crane ≤ 12 ∧ q.form ≤ 1 ∧ (q.form = 1 → 1 ≤ q.station ∧ q.station ≤ 16)) then .badField
    else if s.recoverAddress q ≠ .ok then s.recoverAddress q
    else if (s.crane q.crane).cfg = none then .notConfigured
    else if ¬ (s.crane q.crane).unresolved = true then .noLoad
    else if ∃ j ∈ s.pool, j.kind = .recover ∧ j.crane = q.crane then .duplicateJob
    else if 16 ≤ (s.pool.filter (fun (j : Job) => j.kind == JobKind.relocate || j.kind == JobKind.recover)).length ∨
        4294967295 < s.admNext then .poolFull
    else s.checkRecoverDest q := by
  have fields := not_congr (recoverFieldsOk_iff q)
  rw [Bool.not_eq_true, ← Bool.not_eq_true'] at fields
  have configured : (!(s.crane q.crane).configured) = true ↔ (s.crane q.crane).cfg = none := by
    simp [Crane.configured]
  have load : (!(s.crane q.crane).unresolved) = true ↔ ¬ (s.crane q.crane).unresolved = true := by simp
  exact firstFail_orElse s.not_inRunHold_iff (fun _ => nofun) <| firstFail_orElse fields (fun _ => nofun) <|
    firstFail_orElse bne_iff_ne id <| firstFail_orElse configured (fun _ => nofun) <|
    firstFail_orElse load (fun _ => nofun) <| firstFail_orElse (s.recoverJob_isSome q.crane) (fun _ => nofun) <|
    firstFail_orElse ((iff_of_eq (Bool.not_eq_true' _)).trans s.internalFull_iff) (fun _ => nofun) rfl

/-- A location destination is usable (R114 check 7). -/
theorem State.recoverLocation_iff (s : State) (k : Nat) (l : Loc) : s.recoverLocation k l = true ↔
    (s.crane k).inAisle l.aisle = true ∧ (s.loc l).occ = .empty ∧
      (∀ d ∈ [Depth.front, Depth.rear],
        (s.loc { l with depth := d }).occ ≠ .inbound ∧ (s.loc { l with depth := d }).occ ≠ .outbound) ∧
      (s.loc l).attrs.noStore = false ∧ (l.depth = .rear → (s.loc { l with depth := .front }).occ = .empty) ∧
      s.inReach k l = true := by
  have front : l.depth = .front ↔ l.depth ≠ .rear := by cases l.depth <;> simp
  have free : s.pairBusy l = false ↔ ∀ d ∈ [Depth.front, Depth.rear],
      (s.loc { l with depth := d }).occ ≠ .inbound ∧ (s.loc { l with depth := d }).occ ≠ .outbound := by
    rw [← Bool.not_eq_true, State.pairBusy_iff]
    simp only [not_exists, not_and, not_or]
  simp only [State.recoverLocation, Bool.and_eq_true, Bool.or_eq_true, Bool.not_eq_true', beq_iff_eq, free, front,
    ← imp_iff_not_or, and_assoc]

/-- A station destination is usable (R114 check 8). -/
theorem State.recoverStation_iff (s : State) (k n : Nat) : s.recoverStation k n = true ↔
    ∃ t, s.station n = some t ∧ t.kind = .outfeed ∧ s.serves k t = true ∧ t.occ + t.pend < t.capacity := by
  unfold State.recoverStation
  cases s.station n <;> simp [Station.hasRoom, and_assoc]

theorem State.checkRecoverDest_location (form : q.form = 0) (found : s.checkLoc q.location = .ok l) :
    s.checkRecoverDest q = if s.recoverLocation q.crane l = true then .ok else .locationUnavailable := by
  rw [State.checkRecoverDest, if_pos form, found]

theorem State.checkRecoverDest_station (form : q.form = 1) :
    s.checkRecoverDest q = if s.recoverStation q.crane q.station = true then .ok else .badField := by
  rw [State.checkRecoverDest, if_neg (by omega)]

/-! ## The effects (R24, R25) -/

/-- The record of a RECOVER as it joins the pool. -/
def State.recoverRecord (s : State) (q : RecoverFields) (pallet : Nat) (dest : Option Loc) (kind : DstKind) : Job :=
  { recoverJobOf s.internalNumber q.crane pallet (if q.form = 0 then 0 else q.station) with
    adm := s.admNext, dest := dest, dstRes := some { kind := kind, origin := .admission } }

/-- A station with one more delivery pending. -/
def Station.expecting (t : Station) : Station := { t with pend := t.pend + 1 }

/-- The state with the record of a RECOVER in the pool, its destination not yet reserved. -/
def State.recoverEnrolled (s : State) (q : RecoverFields) : State :=
  { s with intNext := nextInternal s.internalNumber }.enroll
    (recoverJobOf s.internalNumber q.crane (s.crane q.crane).loadId (if q.form = 0 then 0 else q.station))

/-- The pool of a RECOVER's creation behind the change of the new record alone. -/
theorem State.pool_recoverEnrolled (fresh : ∀ i ∈ s.pool, i.num ≠ s.internalNumber) (f : Job → Job) :
    ((s.recoverEnrolled q).updJob s.internalNumber f).pool = s.pool ++ [f { recoverJobOf s.internalNumber q.crane
      (s.crane q.crane).loadId (if q.form = 0 then 0 else q.station) with adm := s.admNext }] := by
  simp only [State.recoverEnrolled, State.updJob_pool, State.enroll_pool, List.map_append]
  exact append_congr ((List.map_congr_left fun i hi => if_neg (fresh i hi)).trans (List.map_id _))
    (by simp [recoverJobOf])

theorem State.applyRecover_eq (s : State) (q : RecoverFields) : s.applyRecover q =
    let t := (s.recoverEnrolled q).reserveRecover q s.internalNumber (s.crane q.crane).loadId
    t.trigger.report (.jobCreated s.internalNumber .recover (s.crane q.crane).loadId 0 q.crane none (t.trigger.recoverDest q)
      (if q.form = 0 then 0 else q.station)) := rfl

theorem State.applyRecover_location (form : q.form = 0) (found : s.checkLoc q.location = .ok l)
    (fresh : ∀ i ∈ s.pool, i.num ≠ s.internalNumber) : s.applyRecover q =
      { s.occupy l .inbound (some (s.crane q.crane).loadId) with
        pool := s.pool ++ [s.recoverRecord q (s.crane q.crane).loadId (some l) .location]
        admNext := s.admNext + 1
        intNext := nextInternal s.internalNumber
        passDue := s.passDue || decide (s.mode.run = .run)
        link := s.link.report
          (.jobCreated s.internalNumber .recover (s.crane q.crane).loadId 0 q.crane none (some l) 0) } := by
  have reserved : (s.recoverEnrolled q).reserveRecover q s.internalNumber (s.crane q.crane).loadId =
      (s.recoverEnrolled q).reserveDest s.internalNumber l (s.crane q.crane).loadId .admission := by
    have found' : (s.recoverEnrolled q).checkLoc q.location = .ok l := found
    rw [State.reserveRecover, if_pos form, found']
  have dest (u : State) (aisles : u.aisles = s.aisles) : u.recoverDest q = some l := by
    have found' : u.checkLoc q.location = .ok l := by rw [← found, State.checkLoc, State.checkLoc, State.aisle, State.aisle, aisles]
    rw [State.recoverDest, if_pos form, found']
  have pool : s.pool ++ [s.recoverRecord q (s.crane q.crane).loadId (some l) .location] =
      ((s.recoverEnrolled q).reserveDest s.internalNumber l (s.crane q.crane).loadId .admission).pool :=
    (State.pool_recoverEnrolled (q := q) fresh fun j =>
      { j with dest := some l, dstRes := some { kind := .location, origin := .admission } }).symm
  rw [State.applyRecover_eq, reserved]
  dsimp only
  rw [dest _ (by simp [State.trigger_eq, State.reserveDest, State.recoverEnrolled]), if_pos form, pool, State.trigger_eq]
  rfl

theorem State.applyRecover_station (form : q.form = 1) (fresh : ∀ i ∈ s.pool, i.num ≠ s.internalNumber) :
    s.applyRecover q =
      { s with
        stations := tableMod q.station Station.expecting s.stations
        pool := s.pool ++ [s.recoverRecord q (s.crane q.crane).loadId none .delivery]
        admNext := s.admNext + 1
        intNext := nextInternal s.internalNumber
        passDue := s.passDue || decide (s.mode.run = .run)
        link := s.link.report
          (.jobCreated s.internalNumber .recover (s.crane q.crane).loadId 0 q.crane none none q.station) } := by
  have other : ¬ q.form = 0 := by omega
  have pool : s.pool ++ [s.recoverRecord q (s.crane q.crane).loadId none .delivery] = _ :=
    (State.pool_recoverEnrolled fresh fun j => { j with dstRes := some { kind := .delivery, origin := .admission } }).symm
  rw [State.applyRecover_eq, State.reserveRecover, if_neg other]
  dsimp only
  rw [State.recoverDest, if_neg other, if_neg other, pool, State.trigger_eq]
  rfl

/-- Settles O29: the checks one by one, then a location and an outfeed as the destination. -/
theorem recoverCreatesItsJob : Obligations.RecoverCreatesItsJob := by
  intro tag q s takes quiet refused address
  have named : address = s.recoverAddress q := rfl
  clear_value address
  subst named
  have refuses : ∀ {c : Prop} {r}, r ≠ .ok → c → s.checkRecover q = r → refused r := fun no _ h =>
    exec_refused rfl takes quiet (by rw [runRequest, runRecover, h, State.judgedData_refused no])
  refine ite_of_eq (s.checkRecover_eq q) (refuses nofun) fun _ h => ite_of_eq h (refuses nofun) fun fits h =>
    ite_of_eq h (fun bad => refuses bad bad) fun addressed h => ite_of_eq h (refuses nofun) fun _ h => ?_
  cases held : (s.crane q.crane).load with
  | none => exact refuses nofun held (h.trans (if_pos (by simp [Crane.unresolved_iff, held])))
  | some load =>
    have id : (s.crane q.crane).loadId = load.id := by rw [Crane.loadId_eq, held]; rfl
    have open_ : load.resolved = true ↔ ¬ (s.crane q.crane).unresolved = true := by
      simp [Crane.unresolved_iff, held]
    refine ite_of_iff open_ h (refuses nofun) fun _ h => ite_of_eq h (refuses nofun) fun _ h =>
      ite_of_eq h (refuses nofun) fun _ h => ?_
    intro record
    have accepted (ok : s.checkRecover q = .ok) : exec (.recover tag q) s =
        .next ((s.applyRecover q).conclude 0x23 tag .ok (beBytes 4 s.internalNumber)) := by
      rw [exec_taken rfl takes, runRequest, runRecover, State.judgedData_ok ok]
    refine ⟨fun l form found inside => ?_, fun form => ⟨fun no => ?_, ?_⟩⟩
    · rw [State.checkRecoverDest_location form found] at h
      refine ite_of_iff (s.recoverLocation_iff q.crane l).symm h (fun _ ok m number fresh => ?_) fun no h =>
        refuses nofun no h
      subst number
      have created := State.applyRecover_location form found fresh
      refine ⟨_, accepted ok, fun k hk => ?_, ?_⟩
      · rw [created, ← id]
        exact s.loc_occupy_in inside hk .inbound _
      · rw [created, State.occupy_quiet quiet, id]
        rfl
    · rw [State.checkRecoverDest_station form] at h
      exact refuses nofun no (h.trans (if_neg (mt (s.recoverStation_iff q.crane q.station).mp no)))
    · intro t here outfeed serves room m number fresh
      subst number
      rw [State.checkRecoverDest_station form] at h
      have ok := h.trans (if_pos ((s.recoverStation_iff q.crane q.station).mpr ⟨t, here, outfeed, serves, room⟩))
      have created := State.applyRecover_station form fresh
      refine ⟨_, accepted ok, fun n => ?_, ?_⟩
      · rw [created]
        exact State.station_changed here Station.expecting n
      · rw [created, id]
        rfl

end Sys2Proof.Machine
end

section
/-! SUPPORT. What a DONE, FAILED or STATE records of a crane outside the twin aisles (R93, R95, R98, R103 to R105). -/

namespace Sys2Proof.Machine

variable {s t : State} {k : Nat} {p : Point}

/-! ## The position of a telegram (R92, R93, R94) -/

/-- A crane record behind a valid telegram that reports position `p`. -/
def Crane.heardAt (p : Point) (c : Crane) : Crane := { c with bad := 0, silence := 0, pos := some p }

/-- Outside the twin aisles the arbiter has no part in a report of a position. -/
theorem State.railReport_single (single : s.inTwin k = false) (claim span : Option Span) (x : Nat) (outstanding : Bool) :
    s.railReport k claim span x outstanding = s := if_neg (by rw [single]; exact Bool.false_ne_true)

theorem State.inTwin_updCrane {j : Nat} {f : Crane → Crane} (same : (f (s.crane j)).cfg = (s.crane j).cfg) :
    (s.updCrane j f).inTwin k = s.inTwin k :=
  State.inTwin_congr (State.updCrane_aisles s j f) (State.crane_of_cranes_part Crane.cfg rfl same k)

theorem State.reportPosition_single (single : s.inTwin k = false) (p : Point) (outstanding : Bool) :
    s.reportPosition k p outstanding = s.updCrane k (fun c => { c with pos := some p }) :=
  State.railReport_single ((State.inTwin_updCrane (f := fun c => { c with pos := some p }) rfl).trans single) _ _ _ _

theorem State.hear_reportPosition (single : s.inTwin k = false) (p : Point) (outstanding : Bool) :
    (s.hear k).reportPosition k p outstanding = s.updCrane k (Crane.heardAt p) := by
  rw [State.hear, State.reportPosition_single, State.updCrane_updCrane]
  · rfl
  · exact (State.inTwin_updCrane (f := fun c => { c with bad := 0, silence := 0 }) rfl).trans single

/-! ## The first telegram from OFFLINE (R98) -/

theorem State.chan_heardAt (s : State) (k : Nat) (p : Point) :
    ((s.updCrane k (Crane.heardAt p)).crane k).chan = (s.crane k).chan :=
  State.crane_updCrane_part Crane.chan s k k (f := Crane.heardAt p) fun _ => rfl

theorem State.heard_online (online : (s.crane k).chan ≠ .offline) :
    (s.updCrane k (Crane.heardAt p)).heard k = s.updCrane k (Crane.heardAt p) :=
  if_neg (by rw [State.chan_heardAt]; exact online)

theorem State.enter_single {f : Crane → Crane} (number : 1 ≤ k ∧ k ≤ 12) (single : s.inTwin k = false)
    (cranes : t.cranes = (s.updCrane k f).cranes) (aisles : t.aisles = s.aisles)
    (cfg : (f (s.crane k)).cfg = (s.crane k).cfg) {st : ChanState} (other : st ≠ .ready) {r : ChanReason}
    (unassigned : r ≠ .assigned) : t.enter k st r = { t with
      cranes := (s.updCrane k (fun c => (f c).entering st r)).cranes
      readyOrder := t.readyOrder.filter (fun j => j != k)
      passRun := t.passWithout k
      link := t.link.report (.craneState k st r (f (s.crane k)).pos) } := by
  rw [State.enter_after number cranes aisles cfg (State.twinIdle_of_not_inTwin single),
    State.chanTriggers_other other unassigned, single, readyAfter, if_neg other]
  simp only [Bool.false_eq_true, and_false, decide_false, Bool.or_false]

theorem State.heard_offline (number : 1 ≤ k ∧ k ≤ 12) (single : s.inTwin k = false) (offline : (s.crane k).chan = .offline) :
    (s.updCrane k (Crane.heardAt p)).heard k = { s with
      cranes := (s.updCrane k (fun c => { c.heardAt p with chan := .listen })).cranes
      readyOrder := s.readyOrder.filter (fun j => j != k)
      passRun := s.passWithout k
      link := s.link.report (.craneState k .listen .heard (some p)) } := by
  have listens : (s.updCrane k (Crane.heardAt p)).heard k = (s.updCrane k (Crane.heardAt p)).enter k .listen .heard :=
    if_pos (by rw [State.chan_heardAt]; exact offline)
  rw [listens, State.enter_single (s := s) (t := s.updCrane k (Crane.heardAt p)) number single rfl
    (State.updCrane_aisles s k _) rfl (by decide) (by decide), State.updCrane_eq s k (Crane.heardAt p)]
  rfl

/-- A stale DONE or FAILED (R95). -/
theorem State.onStale_eq (single : s.inTwin k = false) (load : Nat) (midLeg : Bool) :
    (s.hear k).onStale k p load midLeg = ((s.updCrane k (Crane.heardAt p)).heard k).afterLeg k load midLeg := by
  rw [State.onStale, State.hear_reportPosition single]

/-! ## The end of the outstanding leg (R102, R105) -/

theorem Crane.outstandingLeg_busy {c : Crane} {g : Leg} {rest : List Leg} (current : c.curLeg ≠ 0) (busy : c.chan = .busy)
    (plan : c.plan = g :: rest) : c.outstandingLeg = some g := by
  rw [Crane.outstandingLeg, if_neg current, Crane.nextLeg_busy busy plan]

theorem Crane.outstandingLeg_parking {c : Crane} (current : c.curLeg ≠ 0) (parking : c.chan = .parking) :
    c.outstandingLeg = c.parkLeg := by
  rw [Crane.outstandingLeg, if_neg current, Crane.nextLeg, if_pos parking]

/-- The record of a crane whose plan goes on behind the leg that a telegram at `p` has ended. -/
def Crane.endedAt (p : Point) (rest : List Leg) (c : Crane) : Crane :=
  { c with bad := 0, silence := 0, pos := some p, plan := rest, curLeg := 0, legEst := 0, takenTimer := none, legTimer := none }

/-- The record of a crane whose park leg a telegram at `p` has ended. -/
def Crane.parkedAt (p : Point) (c : Crane) : Crane :=
  { c with
    bad := 0, silence := 0, pos := some p, parkLeg := none, curLeg := 0, legEst := 0, takenTimer := none, legTimer := none }

theorem Crane.cfg_legEnded (c : Crane) : c.legEnded.cfg = c.cfg := by
  unfold Crane.legEnded
  dsimp only
  split <;> rfl

theorem State.legEnded_reported (single : s.inTwin k = false) (p : Point) :
    ((s.hear k).updCrane k Crane.legEnded).reportPosition k p false =
      s.updCrane k (fun c => { Crane.legEnded { c with bad := 0, silence := 0 } with pos := some p }) := by
  rw [State.hear, State.updCrane_updCrane, State.reportPosition_single, State.updCrane_updCrane]
  exact (State.inTwin_updCrane (f := fun c => Crane.legEnded { c with bad := 0, silence := 0 })
    (Crane.cfg_legEnded _)).trans single

theorem Crane.legEnded_plan {c : Crane} {g : Leg} {rest : List Leg} (going : c.chan ≠ .parking) (plan : c.plan = g :: rest) :
    c.legEnded = { c with takenTimer := none, legTimer := none, curLeg := 0, legEst := 0, plan := rest } := by
  unfold Crane.legEnded
  dsimp only
  rw [if_neg going, plan]
  rfl

theorem Crane.legEnded_parking {c : Crane} (parking : c.chan = .parking) :
    c.legEnded = { c with takenTimer := none, legTimer := none, curLeg := 0, legEst := 0, parkLeg := none } := if_pos parking

theorem State.legEnded_busy {g : Leg} {rest : List Leg} (single : s.inTwin k = false) (busy : (s.crane k).chan = .busy)
    (plan : (s.crane k).plan = g :: rest) (p : Point) :
    ((s.hear k).updCrane k Crane.legEnded).reportPosition k p false = s.updCrane k (Crane.endedAt p rest) := by
  rw [State.legEnded_reported single]
  refine State.updCrane_congr ?_
  rw [Crane.legEnded_plan (c := { s.crane k with bad := 0, silence := 0 }) (by rw [busy]; decide) plan]
  rfl

theorem State.legEnded_parking (single : s.inTwin k = false) (parking : (s.crane k).chan = .parking) (p : Point) :
    ((s.hear k).updCrane k Crane.legEnded).reportPosition k p false = s.updCrane k (Crane.parkedAt p) := by
  rw [State.legEnded_reported single]
  refine State.updCrane_congr ?_
  rw [Crane.legEnded_parking (c := { s.crane k with bad := 0, silence := 0 }) parking]
  rfl

/-! ## DONE (R95, R103 to R105) -/

theorem exec_done (configured : (s.crane k).cfg ≠ none) (id x y load : Nat) :
    exec (.done k id x y load) s = .next (s.onDone k id { x := x, y := y } load) :=
  congrArg Host.Outcome.next (State.onPort_configured (configured_iff.mpr configured) _)

/-- The telegram arrived while a leg was outstanding that it does not end. -/
theorem stale_midLeg {c : Crane} {id : Nat} (stale : id = 0 ∨ id ≠ c.curLeg) :
    (c.curLeg != 0) = decide (c.curLeg ≠ 0 ∧ id ≠ c.curLeg) := by
  by_cases leg : c.curLeg = 0
  · simp [leg]
  · have other : id ≠ c.curLeg := stale.elim (fun zero => zero ▸ Ne.symm leg) fun h => h
    simp [leg, other]

theorem State.onDone_stale (single : s.inTwin k = false) {id : Nat} (stale : id = 0 ∨ id ≠ (s.crane k).curLeg) (load : Nat) :
    s.onDone k id p load = ((s.updCrane k (Crane.heardAt p)).heard k).afterLeg k load
      (decide ((s.crane k).curLeg ≠ 0 ∧ id ≠ (s.crane k).curLeg)) := by
  rw [State.onDone]
  dsimp only
  rw [if_neg (by tauto), State.onStale_eq single, stale_midLeg stale]

theorem State.onDone_current {g : Leg} {id : Nat} (sent : id ≠ 0)
    (current : id = (s.crane k).curLeg) (leg : (s.crane k).outstandingLeg = some g) (load : Nat) :
    s.onDone k id p load =
      ((((s.hear k).updCrane k Crane.legEnded).reportPosition k p false).legDone k g).afterLeg k load false := by
  rw [State.onDone]
  dsimp only
  rw [if_pos ⟨sent, current⟩, leg]

/-! ## The effects of a leg's end (R103 to R105) -/

theorem State.legJob_eq {g : Leg} {n : Nat} {j : Job} (job : g.job = some n) (found : s.job n = some j) :
    s.legJob g = some j := by
  rw [State.legJob, job]
  exact found

theorem State.legJob_none {g : Leg} (gone : ∀ n, g.job = some n → s.job n = none) : s.legJob g = none := by
  unfold State.legJob
  cases job : g.job with
  | none => rfl
  | some n => exact gone n job

/-- A MOVE without the approach mark, and a leg whose job is gone, do nothing else (R105). -/
theorem State.legDone_plain {g : Leg} (going : (s.crane k).chan ≠ .parking)
    (plain : s.legJob g = none ∨ (g.kind = .move ∧ g.approach = false)) : s.legDone k g = s := by
  unfold State.legDone
  cases job : s.legJob g with
  | none => exact if_neg going
  | some j =>
    obtain ⟨move, direct⟩ := plain.resolve_left (by rw [job]; exact Option.some_ne_none j)
    dsimp only
    rw [move]
    exact if_neg (by rw [direct]; exact Bool.false_ne_true)

theorem State.legDone_fetch {g : Leg} {j : Job} (job : s.legJob g = some j) (fetch : g.kind = .fetch) :
    s.legDone k g = s.fetchDone k j g.target := by
  rw [State.legDone, job]
  dsimp only
  rw [fetch]

theorem State.legDone_put {g : Leg} {j : Job} (job : s.legJob g = some j) (put : g.kind = .put) :
    s.legDone k g = s.putMade k j false := by
  rw [State.legDone, job]
  dsimp only
  rw [put]

theorem State.legDone_parked {g : Leg} (jobless : g.job = none) (parking : (s.crane k).chan = .parking) :
    s.legDone k g = s.parkDone k := by
  have none : s.legJob g = none := State.legJob_none fun n job => by simp [jobless] at job
  rw [State.legDone, none]
  exact if_pos parking

/-- The source of a job becomes EMPTY as its reservation ends, a trigger (R103, R106). -/
theorem State.endSource_empty (s : State) (n : Nat) (l : Loc) : s.endSource n l .empty = { s.occupy l .empty none with
    pool := s.pool.map (fun i => if i.num = n then { i with srcRes := none } else i)
    passDue := s.passDue || decide (s.mode.run = .run) } := by
  rw [State.endSource]
  dsimp only
  rw [if_pos rfl, State.trigger_eq]
  rfl

/-- The source of a job becomes UNKNOWN as its reservation ends (R107). -/
theorem State.endSource_unknown (s : State) (n : Nat) (l : Loc) : s.endSource n l .unknown = { s.occupy l .unknown none with
    pool := s.pool.map (fun i => if i.num = n then { i with srcRes := none } else i) } := by
  rw [State.endSource]
  dsimp only
  rw [if_neg (by decide)]
  rfl

/-- A fetched job is CARRIED, and its pallet the load of record, resolved (R103). -/
theorem State.carry_after (cranes : t.cranes = s.cranes) (k : Nat) (j : Job) (inspect : Bool) :
    t.carry k j inspect = { t with
      cranes := (s.updCrane k (fun c => { c with load := some { id := j.pallet, resolved := true } })).cranes
      pool := t.pool.map (fun i => if i.num = j.num then { i with state := .carried, inspect := inspect } else i) } := by
  rw [State.carry, State.updCrane_eq, State.cranes_updCrane_congr (s := s) (t := t.updJob j.num _) cranes]
  rfl

/-- The head of an infeed queue leaves it, and the next is READY (R33). -/
theorem State.leaveQueue_head {st n : Nat} {t : Station} (here : s.station st = some t) (head : t.queue.head? = some n) :
    s.leaveQueue st n = { s with
      stations := tableMod st (Station.closedUp n) s.stations
      pool := s.pool.map (fun i => if (t.closedUp n).queue.head? = some i.num then { i with state := .ready } else i)
      passDue := s.passDue || decide ((t.closedUp n).queue ≠ [] ∧ s.mode.run = .run) } := by
  unfold State.leaveQueue
  rw [here]
  dsimp only
  rw [if_pos (List.contains_iff_mem.mpr (List.mem_of_head? head)), if_pos head]
  exact State.readyHead_eq _ _

/-- A FETCH at a location for a job that is no relocation (R103). -/
theorem State.fetchDone_location {j : Job} (host : j.kind ≠ .relocate) (l : Loc) :
    s.fetchDone k j (.location l) = { s.occupy l .empty none with
      cranes := (s.updCrane k (fun c => { c with load := some { id := j.pallet, resolved := true } })).cranes
      pool := s.pool.map (fun i => if i.num = j.num then
        { i with srcRes := none, state := .carried, inspect := (s.loc l).attrs.inspect } else i)
      passDue := s.passDue || decide (s.mode.run = .run) } := by
  have both : (s.pool.map (fun i => if i.num = j.num then { i with srcRes := none } else i)).map (fun i =>
      if i.num = j.num then { i with state := .carried, inspect := (s.loc l).attrs.inspect } else i) =
      s.pool.map (fun i => if i.num = j.num then
        { i with srcRes := none, state := .carried, inspect := (s.loc l).attrs.inspect } else i) := by
    rw [List.map_map]
    refine List.map_congr_left fun i _ => ?_
    simp only [Function.comp]
    split <;> simp_all
  rw [State.fetchDone, if_neg host, State.endSource_empty, ← both]
  refine State.carry_after (s := s) ?_ k j _
  rfl

/-- A FETCH at a location for a relocation: its retrieves are evaluated before it is CARRIED (R42, R103). -/
theorem State.fetchDone_relocated {j : Job} (relocation : j.kind = .relocate) (l : Loc) :
    s.fetchDone k j (.location l) =
      ((s.endSource j.num l .empty).evaluateLinked j.num).carry k j (s.loc l).attrs.inspect := by
  rw [State.fetchDone, if_pos relocation]

/-- A FETCH at an infeed station (R33, R103). -/
theorem State.fetchDone_station {j : Job} {st : Nat} {t : Station} (here : s.station st = some t)
    (head : t.queue.head? = some j.num) : s.fetchDone k j (.station st) = { s with
      stations := tableMod st (Station.closedUp j.num) s.stations
      cranes := (s.updCrane k (fun c => { c with load := some { id := j.pallet, resolved := true } })).cranes
      pool := s.pool.map (fun i => if i.num = j.num then { i with state := .carried, inspect := j.inspect }
        else if (t.closedUp j.num).queue.head? = some i.num then { i with state := .ready } else i)
      passDue := s.passDue || decide ((t.closedUp j.num).queue ≠ [] ∧ s.mode.run = .run) } := by
  have both : (s.pool.map (fun i => if (t.closedUp j.num).queue.head? = some i.num then { i with state := .ready } else i)).map
      (fun i => if i.num = j.num then { i with state := .carried, inspect := j.inspect } else i) =
      s.pool.map (fun i => if i.num = j.num then { i with state := .carried, inspect := j.inspect }
        else if (t.closedUp j.num).queue.head? = some i.num then { i with state := .ready } else i) := by
    rw [List.map_map]
    refine List.map_congr_left fun i _ => ?_
    simp only [Function.comp]
    split <;> simp_all
  rw [State.fetchDone, State.leaveQueue_head here head, ← both]
  refine State.carry_after (s := s) ?_ k j _
  rfl

/-- Settles O42: the records by `updCrane`, the effects of the leg by `legDone`. -/
theorem fetchAndMoveAreDone : Obligations.FetchAndMoveAreDone := by
  intro k id x y load s quiet configured single c at_ midLeg gives
  have number := State.crane_number (configured_iff.mpr configured)
  have telegram := exec_done configured id x y load
  refine ⟨fun stale => ?_, fun sent current g rest busy plan => ?_, fun sent current g parking leg jobless => ?_⟩
  · have ends := telegram.trans (congrArg Host.Outcome.next (State.onDone_stale single stale load))
    refine ⟨fun online => ?_, fun offline => ?_⟩
    · rw [State.heard_online online] at ends
      obtain ⟨own, other, frame⟩ := State.updCrane_frame (s := s) number (Crane.heardAt { x := x, y := y })
      exact ⟨_, ⟨ends, own, other⟩, frame⟩
    · rw [State.heard_offline number single offline] at ends
      exact ⟨_, ⟨ends, State.crane_of_cranes (s := s) (f := fun c => { c.heardAt { x := x, y := y } with chan := .listen })
        rfl number, State.crane_of_cranes_other rfl⟩, rfl⟩
  · intro ended
    have mid : midLeg = false := by simp [midLeg, current]
    have ends := telegram.trans (congrArg Host.Outcome.next (State.onDone_current sent current
      (Crane.outstandingLeg_busy (current ▸ sent) busy plan) load))
    obtain ⟨own, other, frame⟩ := State.updCrane_frame (s := s) number (Crane.endedAt { x := x, y := y } rest)
    have going : ((s.updCrane k (Crane.endedAt { x := x, y := y } rest)).crane k).chan = .busy := by rw [own]; exact busy
    rw [State.legEnded_busy single busy plan, ← mid] at ends
    obtain ⟨cs, whole⟩ : ∃ cs, s.updCrane k (Crane.endedAt { x := x, y := y } rest) = { s with cranes := cs } := ⟨_, frame⟩
    have cranes : cs = (s.updCrane k (Crane.endedAt { x := x, y := y } rest)).cranes := by rw [whole]
    rw [whole] at ends own other going
    refine ⟨fun plain => ?_, fun n j fetch job found => ?_⟩
    · rw [State.legDone_plain (s := { s with cranes := cs }) (by rw [going]; decide) (plain.imp_left State.legJob_none)] at ends
      exact ⟨_, ⟨ends, own, other⟩, rfl⟩
    · intro carried
      obtain rfl := State.num_of_job found
      rw [State.legDone_fetch (State.legJob_eq (s := { s with cranes := cs }) job found) fetch] at ends
      have loaded {v : State} (h : v.cranes = (State.updCrane { s with cranes := cs } k
          (fun c => { c with load := some { id := j.pallet, resolved := true } })).cranes) :
          v.crane k = carried ∧ ∀ i, i ≠ k → v.crane i = s.crane i := by
        rw [State.cranes_updCrane_after (s := s) cranes] at h
        exact ⟨State.crane_of_cranes h number, State.crane_of_cranes_other h⟩
      refine ⟨fun l target inside => ⟨fun host => ?_, fun relocation => ?_⟩, fun st t target here head => ?_⟩
      · rw [target, State.fetchDone_location host, State.occupy_quiet (s := { s with cranes := cs }) quiet] at ends
        obtain ⟨own', other'⟩ := loaded rfl
        exact ⟨_, ⟨ends, own', other'⟩, fun m hm => s.loc_occupy_in inside hm .empty none, rfl⟩
      · rw [target, State.fetchDone_relocated relocation, State.endSource_empty, State.occupy_quiet (s := { s with cranes := cs }) quiet] at ends
        exact ⟨_, ⟨ends, own, other⟩, fun m hm => s.loc_occupy_in inside hm .empty none, rfl⟩
      · intro q
        rw [target, State.fetchDone_station (s := { s with cranes := cs }) here head] at ends
        obtain ⟨own', other'⟩ := loaded rfl
        exact ⟨_, ⟨ends, own', other'⟩, fun m => State.station_changed here (Station.closedUp j.num) m, rfl⟩
  · intro ended
    have mid : midLeg = false := by simp [midLeg, current]
    have outstanding : (s.crane k).outstandingLeg = some g :=
      (Crane.outstandingLeg_parking (current ▸ sent) parking).trans leg
    have ends := telegram.trans (congrArg Host.Outcome.next (State.onDone_current sent current outstanding load))
    obtain ⟨own, other, frame⟩ := State.updCrane_frame (s := s) number (Crane.parkedAt { x := x, y := y })
    rw [State.legEnded_parking single parking, ← mid, State.legDone_parked jobless (by rw [own]; exact parking),
      State.parkDone, State.updCrane_policy] at ends
    refine ⟨fun waits => ?_, fun atOnce => ?_⟩
    · rw [if_neg (by omega), State.updCrane_updCrane] at ends
      obtain ⟨own', other', frame'⟩ := State.updCrane_frame (s := s) number
        (fun c => { c.parkedAt { x := x, y := y } with parkHold := some (s.policy.parkHold * 1000) })
      exact ⟨_, ⟨ends, own', other'⟩, frame'⟩
    · rw [if_pos atOnce] at ends
      exact ⟨_, ⟨ends, own, other⟩, frame⟩

end Sys2Proof.Machine
end

section
/-! SUPPORT. A PUT that is done, and the leaving of a host job (R39, R47, R104, R139). -/

namespace Sys2Proof.Machine

variable {s t : State} {k : Nat}

/-! ## Room at an outfeed (R139) -/

theorem State.roomWaiter_none_iff {n : Nat} : s.roomWaiter n = none ↔ ∀ i ∈ craneNumbers, (s.crane i).roomWait = true →
    ∀ g, (s.crane i).plan.head? = some g → g.target ≠ .station n := by
  rw [State.roomWaiter, List.find?_eq_none]
  refine forall_congr' fun i => forall_congr' fun _ => ?_
  cases (s.crane i).plan.head? <;> simp

theorem State.roomWaiter_congr (cranes : t.cranes = s.cranes) (n : Nat) : t.roomWaiter n = s.roomWaiter n := by
  unfold State.roomWaiter State.crane
  rw [cranes]

/-- A crane that waits for no room is none that a change of its record alone makes wait. -/
theorem State.roomWaiter_none {n : Nat} {f : Crane → Crane} (cranes : t.cranes = (s.updCrane k f).cranes)
    (number : 1 ≤ k ∧ k ≤ 12) (off : (f (s.crane k)).roomWait = false) (idle : s.roomWaiter n = none) :
    t.roomWaiter n = none := by
  rw [State.roomWaiter_none_iff] at idle ⊢
  intro i hi waits
  by_cases own : i = k
  · subst own
    rw [State.crane_of_cranes cranes number, off] at waits
    exact absurd waits Bool.false_ne_true
  · rw [State.crane_of_cranes_other cranes i own] at waits ⊢
    exact idle i hi waits

theorem State.retryPut_none {n : Nat} (idle : s.roomWaiter n = none) : s.retryPut n = s := by
  unfold State.retryPut
  rw [idle]
  cases s.station n <;> rfl

/-- A station where a pending delivery has been made. -/
def Station.delivered (t : Station) : Station := { t with pend := t.pend - 1, occ := t.occ + 1 }

/-- A station where a pending delivery has been given up. -/
def Station.givenUp (t : Station) : Station := { t with pend := t.pend - 1 }

theorem State.deliver_eq {n : Nat} (idle : s.roomWaiter n = none) : s.deliver n = { s with
    stations := tableMod n Station.delivered s.stations
    passDue := s.passDue || decide (s.mode.run = .run) } := by
  rw [State.deliver, State.retryPut_none, State.trigger_eq]
  · rfl
  · rw [State.roomWaiter_congr (s := s) (by rw [State.trigger_eq]; rfl)]
    exact idle

theorem State.lowerPend_eq {n : Nat} (idle : s.roomWaiter n = none) : s.lowerPend n = { s with
    stations := tableMod n Station.givenUp s.stations
    passDue := s.passDue || decide (s.mode.run = .run) } := by
  rw [State.lowerPend, State.retryPut_none, State.trigger_eq]
  · rfl
  · rw [State.roomWaiter_congr (s := s) (by rw [State.trigger_eq]; rfl)]
    exact idle

/-! ## A put counts as made (R104) -/

/-- The record of a crane whose forks are empty. -/
def Crane.emptied (c : Crane) : Crane := { c with load := none }

theorem State.dropLoad_after (cranes : t.cranes = s.cranes) (k : Nat) :
    t.dropLoad k = { t with cranes := (s.updCrane k Crane.emptied).cranes } := by
  rw [State.dropLoad, State.updCrane_eq]
  exact congrArg (fun cs => { t with cranes := cs }) (State.cranes_updCrane_congr cranes k Crane.emptied)

/-- A retrieve of a relocated pallet takes the relocation's destination as its source (R39). -/
theorem State.followPallet_if (s : State) (j : Job) (l : Loc) :
    (if j.kind = JobKind.relocate then s.followPallet j.pallet l else s) = { s with pool := s.pool.map (fun i =>
      if j.kind = .relocate ∧ i.kind = .retrieve ∧ i.pallet = j.pallet then { i with source := some l } else i) } := by
  by_cases relocation : j.kind = .relocate
  · simp only [relocation, if_true, true_and]
    rfl
  · simp [relocation]

theorem State.putMade_location {j : Job} {l : Loc} {o : Origin} (dest : j.dest = some l)
    (reserved : j.dstRes = some { kind := .location, origin := o }) (late : Bool) :
    s.putMade k j late = State.leave { s.occupy l .full (some j.pallet) with
      cranes := (s.updCrane k Crane.emptied).cranes
      pool := (s.pool.map (fun i => if i.num = j.num then { i with dstRes := none } else i)).map (fun i =>
        if j.kind = .relocate ∧ i.kind = .retrieve ∧ i.pallet = j.pallet then { i with source := some l } else i) }
      j.num (.done late) := by
  unfold State.putMade
  rw [reserved, dest]
  dsimp only
  rw [State.followPallet_if]
  refine congrArg (fun u => State.leave u j.num (.done late)) (State.dropLoad_after (s := s) ?_ k)
  rfl

theorem State.putMade_delivery {j : Job} {o : Origin} (reserved : j.dstRes = some { kind := .delivery, origin := o })
    (idle : s.roomWaiter j.station = none) (late : Bool) :
    s.putMade k j late = State.leave { s with
      stations := tableMod j.station Station.delivered s.stations
      cranes := (s.updCrane k Crane.emptied).cranes
      pool := s.pool.map (fun i => if i.num = j.num then { i with dstRes := none } else i)
      passDue := s.passDue || decide (s.mode.run = .run) } j.num (.done late) := by
  unfold State.putMade
  rw [reserved]
  dsimp only
  rw [State.deliver_eq ((State.roomWaiter_congr (s := s) (t := s.updJob j.num _) rfl _).trans idle)]
  refine congrArg (fun u => State.leave u j.num (.done late)) (State.dropLoad_after (s := s) ?_ k)
  rfl

/-! ## The leaving of a host job without a group (R47) -/

/-- A job that stands in no queue leaves none. -/
theorem State.leaveQueue_absent {st n : Nat} (absent : ∀ t, s.station st = some t → n ∉ t.queue) : s.leaveQueue st n = s := by
  unfold State.leaveQueue
  cases here : s.station st with
  | none => rfl
  | some t => exact if_neg (mt List.contains_iff_mem.mp (absent t here))

theorem State.leave_unreserved {n : Nat} {j : Job} (found : s.job n = some j) (host : j.kind.isHost = true)
    (single : j.grouped = false) (src : j.srcRes = none) (dst : j.dstRes = none)
    (absent : j.kind = .store → ∀ t, s.station j.station = some t → n ∉ t.queue) (o : JobEnd) :
    s.leave n o = (((s.freeJob n).unlink n).reportMaybe (j.endReport o false)).trigger := by
  rw [State.leave_host found host, State.leaveCore_single found single, State.freeSource_none found src,
    State.freeDest_none found dst]
  by_cases store : j.kind = .store
  · rw [if_pos store, State.leaveQueue_absent (s := (s.freeJob n).unlink n) (absent store)]
  · rw [if_neg store]

/-- Settles O43: the destination by `putMade`, the leaving by `leave_unreserved`. -/
theorem putIsDone : Obligations.PutIsDone := by
  refine ⟨fun k id x y load s quiet configured single g rest n j busy plan sent current put job found => ?_,
    fun n j s found kind src dst absent => ?_⟩
  · intro after
    have number := State.crane_number (configured_iff.mpr configured)
    obtain rfl := State.num_of_job found
    have ends := (exec_done configured id x y load).trans (congrArg Host.Outcome.next (State.onDone_current sent current
      (Crane.outstandingLeg_busy (current ▸ sent) busy plan) load))
    obtain ⟨cs, whole⟩ : ∃ cs, s.updCrane k (Crane.endedAt { x := x, y := y } rest) = { s with cranes := cs } :=
      ⟨_, State.updCrane_eq s k _⟩
    have cranes : cs = (s.updCrane k (Crane.endedAt { x := x, y := y } rest)).cranes := by rw [whole]
    rw [State.legEnded_busy single busy plan, whole,
      State.legDone_put (State.legJob_eq (s := { s with cranes := cs }) job found) put] at ends
    have emptied : (State.updCrane { s with cranes := cs } k Crane.emptied).cranes =
        (s.updCrane k (fun c => (c.endedAt { x := x, y := y } rest).emptied)).cranes :=
      State.cranes_updCrane_after (s := s) (t := { s with cranes := cs }) cranes _
    refine ⟨fun l o dest inside reserved => ?_, fun t o reserved here idle off => ?_⟩
    · rw [State.putMade_location dest reserved, emptied, State.occupy_quiet (s := { s with cranes := cs }) quiet] at ends
      exact ⟨_, ⟨ends, State.crane_of_cranes (s := s) (f := fun c => (c.endedAt { x := x, y := y } rest).emptied) rfl number,
        State.crane_of_cranes_other rfl⟩, fun m hm => s.loc_occupy_in inside hm .full (some j.pallet), rfl⟩
    · have noWaiter : State.roomWaiter { s with cranes := cs } j.station = none :=
        State.roomWaiter_none (s := s) (t := { s with cranes := cs }) cranes number off idle
      rw [State.putMade_delivery reserved noWaiter, emptied] at ends
      exact ⟨_, ⟨ends, State.crane_of_cranes (s := s) (f := fun c => (c.endedAt { x := x, y := y } rest).emptied) rfl number,
        State.crane_of_cranes_other rfl⟩, fun m => State.station_changed here Station.delivered m, rfl⟩
  · intro left
    have host : j.kind.isHost = true := by rcases kind with store | ⟨retrieve, _⟩ <;> simp [*, JobKind.isHost]
    have ungrouped : j.grouped = false := kind.elim (fun store => Job.single_other (by simp [store]))
      fun retrieve => Job.single_retrieve retrieve.2
    obtain rfl := State.num_of_job found
    refine ⟨fun late => ?_, fun r => ?_⟩
    · rw [State.leave_unreserved found host ungrouped src dst absent, State.trigger_eq]
      rfl
    · rw [State.leave_unreserved found host ungrouped src dst absent, State.trigger_eq]
      rfl

end Sys2Proof.Machine
end

section
/-! SUPPORT. A FAILED of the outstanding leg (R106 to R109). -/

namespace Sys2Proof.Machine

variable {s t : State} {k : Nat} {p : Point} {g : Leg}

/-! ## What a FAILED is for its leg (R106) -/

theorem exec_failed (configured : (s.crane k).cfg ≠ none) (id reason x y load : Nat) :
    exec (.failed k id reason x y load) s = .next (s.onFailed k id reason { x := x, y := y } load) :=
  congrArg Host.Outcome.next (State.onPort_configured (configured_iff.mpr configured) _)

theorem State.onFailed_stale (single : s.inTwin k = false) {id : Nat} (stale : id = 0 ∨ id ≠ (s.crane k).curLeg)
    (reason load : Nat) : s.onFailed k id reason p load = ((s.updCrane k (Crane.heardAt p)).heard k).afterLeg k load
      (decide ((s.crane k).curLeg ≠ 0 ∧ id ≠ (s.crane k).curLeg)) := by
  rw [State.onFailed]
  rw [stale_midLeg stale, State.onStale_eq single]
  cases (s.crane k).outstandingLeg with
  | none => rfl
  | some g => exact if_neg (by tauto)

theorem State.onFailed_current {id : Nat} (sent : id ≠ 0) (current : id = (s.crane k).curLeg)
    (leg : (s.crane k).outstandingLeg = some g) (reason load : Nat) :
    s.onFailed k id reason p load = (s.hear k).currentFailed k g reason p load := by
  rw [State.onFailed]
  rw [leg]
  exact if_pos ⟨sent, current⟩

theorem failureOf_drive {kind : LegKind} {reason : Nat} (fetch : ¬ (kind = .fetch ∧ (reason = 1 ∨ reason = 3)))
    (put : ¬ (kind = .put ∧ reason = 2)) : failureOf kind reason = .inr () := by
  unfold failureOf
  split <;> simp_all

theorem Leg.jobless_iff : g.jobless = true ↔ g.job = none ∧ g.kind ≠ .move := by
  simp [Leg.jobless]

/-- A reason that does not belong to the leg's kind (R106). -/
theorem State.currentFailed_drive (single : s.inTwin k = false) {reason : Nat}
    (fetch : ¬ (g.kind = .fetch ∧ (reason = 1 ∨ reason = 3))) (put : ¬ (g.kind = .put ∧ reason = 2))
    (holds : g.kind = .move ∨ g.job ≠ none) (load : Nat) : (s.hear k).currentFailed k g reason p load =
      ((s.updCrane k (Crane.heardAt p)).enterFault k .drive (some load)).afterLeg k load false := by
  have held : g.jobless = false := by
    rw [← Bool.not_eq_true, Leg.jobless_iff]
    tauto
  rw [State.currentFailed, failureOf_drive fetch put, held]
  dsimp only
  rw [State.hear_reportPosition single]

/-- A reason that belongs to the leg's kind (R106). -/
theorem State.currentFailed_found {rest : List Leg} (single : s.inTwin k = false) (busy : (s.crane k).chan = .busy)
    (plan : (s.crane k).plan = g :: rest) {reason : Nat} {f : Finding} (found : failureOf g.kind reason = .inl f) (load : Nat) :
    (s.hear k).currentFailed k g reason p load =
      ((s.updCrane k (Crane.endedAt p rest)).legFailed k g f).afterLeg k load false := by
  rw [State.currentFailed, found]
  dsimp only
  rw [State.legEnded_busy single busy plan]

/-- A leg whose job was taken from it ends with its position alone (R112; entry 11). -/
theorem State.currentFailed_jobless {rest : List Leg} (single : s.inTwin k = false) (busy : (s.crane k).chan = .busy)
    (plan : (s.crane k).plan = g :: rest) (jobless : g.job = none) (kind : g.kind ≠ .move) (reason load : Nat) :
    (s.hear k).currentFailed k g reason p load = (s.updCrane k (Crane.endedAt p rest)).afterLeg k load false := by
  have stripped : g.jobless = true := Leg.jobless_iff.mpr ⟨jobless, kind⟩
  have noJob (u : State) : u.legJob g = none := State.legJob_none fun n job => by simp [jobless] at job
  cases found : failureOf g.kind reason with
  | inl f => rw [State.currentFailed_found single busy plan found, State.legFailed, noJob]
  | inr _ =>
    rw [State.currentFailed, found, stripped]
    dsimp only
    rw [State.legEnded_busy single busy plan]

/-! ## A FETCH that found nothing or another pallet (R106, R107) -/

theorem State.legFailed_fetch {j : Job} {reason : Nat} (job : s.legJob g = some j) (fetch : g.kind = .fetch)
    (belongs : reason = 1 ∨ reason = 3) : ∃ f, failureOf g.kind reason = .inl f ∧ s.legFailed k g f =
      s.fetchFailed k j g.target (if reason = 1 then .empty else .unknown)
        (if reason = 1 then .binEmpty else .loadMismatch) (if reason = 1 then .binEmpty else .loadMismatch) := by
  rw [fetch]
  rcases belongs with rfl | rfl
  · exact ⟨.binEmpty, rfl, by rw [State.legFailed, job]; rfl⟩
  · exact ⟨.loadMismatch, rfl, by rw [State.legFailed, job]; rfl⟩

theorem State.fetchFailed_location {j : Job} {reason : Nat} (quiet : s.quiet) (belongs : reason = 1 ∨ reason = 3) (l : Loc)
    (f : Finding) (r : FailReason) : s.fetchFailed k j (.location l) (if reason = 1 then .empty else .unknown) f r =
      State.failJob { s with
        locs := (s.occupy l (if reason = 1 then .empty else .unknown) none).locs
        pool := s.pool.map (fun i => if i.num = j.num then { i with srcRes := none } else i)
        work := { pairs := [locKey { l with depth := .front }], allBusy := false }
        passDue := s.passDue || decide (reason = 1 ∧ s.mode.run = .run)
        link := s.link.report (.locationConflict k l j.pallet f) } k j r := by
  rw [State.fetchFailed]
  rcases belongs with rfl | rfl
  · rw [if_pos rfl, State.endSource_empty, State.occupy_quiet quiet]
    simp only [true_and]
    rfl
  · rw [if_neg (by decide), State.endSource_unknown, State.occupy_quiet quiet]
    simp only [Nat.reduceEqDiff, false_and, decide_false, Bool.or_false]
    rfl

/-! ## A PUT that found its place taken (R108, R109) -/

theorem State.endDest_eq (s : State) (n : Nat) (l : Loc) (occ : Occupancy) (pallet : Option Nat) :
    s.endDest n l occ pallet = { s.occupy l occ pallet with
      pool := s.pool.map (fun i => if i.num = n then { i with dstRes := none } else i) } := rfl

/-- The state behind a BIN_OCCUPIED, its PUT not yet settled. -/
def State.binConflict (s : State) (k : Nat) (j : Job) (l : Loc) : State :=
  (s.endDest j.num l .unknown none).report (.locationConflict k l j.pallet .binOccupied)

theorem State.legFailed_binOccupied {j : Job} {l : Loc} (job : s.legJob g = some j) (target : g.target = .location l) :
    s.legFailed k g .binOccupied = s.binOccupied k j l := by
  rw [State.legFailed, job]
  dsimp only
  rw [target]

theorem State.legFailed_outfeedFull {j : Job} {n : Nat} (job : s.legJob g = some j) (target : g.target = .station n) :
    s.legFailed k g .binOccupied = s.outfeedFull k n g := by
  rw [State.legFailed, job]
  dsimp only
  rw [target]

/-- The job has no other place to go. -/
theorem State.binOccupied_gone {j : Job} {l : Loc} (gone : j.kind = .recover ∨
    (s.binConflict k j l).chooseDest k ((s.binConflict k j l).rechoiceWish k j l) = none) :
    s.binOccupied k j l = ((s.binConflict k j l).failJob k j .noLocation).unresolve k j.pallet := by
  unfold State.binConflict at gone ⊢
  by_cases recover : j.kind = .recover
  · rw [State.binOccupied, if_pos recover]
  · rw [State.binOccupied, if_neg recover, gone.resolve_left recover]

/-- The PUT of a job to a destination chosen anew, from where the crane stands (entry 21). -/
def State.rechosenLeg (s : State) (k : Nat) (j : Job) (m : Loc) : Leg :=
  s.mkLeg k .put (.location m) (some j.num) (some j.pallet) false (s.startPoint k)

theorem map_rechosen (pool : List Job) (n : Nat) (m : Loc) :
    (pool.map (fun i => if i.num = n then { i with dstRes := none } else i)).map (fun i => if i.num = n then
        { i with dest := some m, dstRes := some { kind := .location, origin := .assignment } } else i) =
      pool.map (fun i => if i.num = n then
        { i with dest := some m, dstRes := some { kind := .location, origin := .assignment } } else i) := by
  rw [List.map_map]
  refine List.map_congr_left fun i _ => ?_
  simp only [Function.comp]
  split <;> simp_all

/-- The PUT goes to the destination chosen anew (entry 21). -/
theorem State.binOccupied_rechosen {j : Job} {l m : Loc} (other : j.kind ≠ .recover)
    (chosen : (s.binConflict k j l).chooseDest k ((s.binConflict k j l).rechoiceWish k j l) = some m) :
    s.binOccupied k j l = { (s.binConflict k j l).occupy m .inbound (some j.pallet) with
      cranes := (s.updCrane k (fun c => { c with plan := s.rechosenLeg k j m :: c.plan })).cranes
      pool := s.pool.map (fun i => if i.num = j.num then
        { i with dest := some m, dstRes := some { kind := .location, origin := .assignment } } else i) } := by
  have rechosen : s.binOccupied k j l = ((s.binConflict k j l).reserveDest j.num m j.pallet .assignment).updCrane k
      (fun c => { c with plan := s.rechosenLeg k j m :: c.plan }) := by
    unfold State.binConflict at chosen ⊢
    rw [State.binOccupied, if_neg other, chosen]
    rfl
  rw [rechosen, ← map_rechosen, State.updCrane_eq,
    State.cranes_updCrane_congr (s := s) (t := (s.binConflict k j l).reserveDest j.num m j.pallet .assignment) rfl]
  rfl

/-- The destination that a failed PUT asks for (R108). -/
theorem State.rechoiceWish_eq (s : State) (k : Nat) (j : Job) (l : Loc) : s.rechoiceWish k j l =
    match j.kind, j.source with
    | .relocate, some o =>
      { aisle := o.aisle, zone := .anywhere, height := (s.loc o).height, clears := some o, start := s.startPoint k }
    | _, _ => { aisle := l.aisle, zone := j.zone.getD .anywhere, height := j.height, clears := none
                start := s.startPoint k } := by
  unfold State.rechoiceWish
  cases j.kind <;> cases j.source <;> rfl

/-- A PUT that found its outfeed full waits at the head of the plan (R109). -/
theorem State.outfeedFull_eq (s : State) (k n : Nat) (g : Leg) : s.outfeedFull k n g = { s with
    stations := tableMod n Station.corrected s.stations
    cranes := (s.updCrane k (fun c => { c with plan := g :: c.plan, roomWait := true })).cranes } := by
  rw [State.outfeedFull, State.updCrane_eq, State.cranes_updCrane_congr (s := s) (t := s.updStation n _) rfl]
  rfl

/-- Settles O44: the reason by `currentFailed`, the effects of each finding by `legFailed`. -/
theorem failedLegIsSettled : Obligations.FailedLegIsSettled := by
  intro k id reason x y load s quiet configured single c at_ midLeg gives
  have number := State.crane_number (configured_iff.mpr configured)
  have telegram := exec_failed configured id reason x y load
  obtain ⟨ownAt, otherAt, frameAt⟩ := State.updCrane_frame (s := s) number (Crane.heardAt { x := x, y := y })
  refine ⟨fun stale => ?_, fun g sent current parking leg move => ?_, fun g rest sent current busy plan => ?_⟩
  · have ends := telegram.trans (congrArg Host.Outcome.next (State.onFailed_stale single stale reason load))
    refine ⟨fun online => ?_, fun offline => ?_⟩
    · rw [State.heard_online online] at ends
      exact ⟨_, ⟨ends, ownAt, otherAt⟩, frameAt⟩
    · rw [State.heard_offline number single offline] at ends
      exact ⟨_, ⟨ends, State.crane_of_cranes (s := s) (f := fun c => { c.heardAt { x := x, y := y } with chan := .listen })
        rfl number, State.crane_of_cranes_other rfl⟩, rfl⟩
  · have mid : midLeg = false := by simp [midLeg, current]
    have outstanding : (s.crane k).outstandingLeg = some g :=
      (Crane.outstandingLeg_parking (current ▸ sent) parking).trans leg
    have ends := telegram.trans (congrArg Host.Outcome.next (State.onFailed_current sent current outstanding reason load))
    rw [State.currentFailed_drive single (by simp [move]) (by simp [move]) (.inl move), ← mid] at ends
    exact ⟨_, ⟨ends, ownAt, otherAt⟩, frameAt⟩
  have mid : midLeg = false := by simp [midLeg, current]
  have ends := telegram.trans (congrArg Host.Outcome.next (State.onFailed_current sent current
    (Crane.outstandingLeg_busy (current ▸ sent) busy plan) reason load))
  refine ⟨fun fetch put holds => ?_, ?_⟩
  · rw [State.currentFailed_drive single fetch put holds, ← mid] at ends
    exact ⟨_, ⟨ends, ownAt, otherAt⟩, frameAt⟩
  intro ended
  obtain ⟨own, other, frame⟩ := State.updCrane_frame (s := s) number (Crane.endedAt { x := x, y := y } rest)
  refine ⟨fun jobless kind => ?_, fun n j job found => ?_⟩
  · rw [State.currentFailed_jobless single busy plan jobless kind, ← mid] at ends
    exact ⟨_, ⟨ends, own, other⟩, frame⟩
  intro fails
  obtain rfl := State.num_of_job found
  obtain ⟨cs, whole⟩ : ∃ cs, s.updCrane k (Crane.endedAt { x := x, y := y } rest) = { s with cranes := cs } := ⟨_, frame⟩
  have cranes : cs = (s.updCrane k (Crane.endedAt { x := x, y := y } rest)).cranes := by rw [whole]
  have legJob : State.legJob { s with cranes := cs } g = some j := State.legJob_eq (s := { s with cranes := cs }) job found
  rw [whole] at own other
  refine ⟨fun l fetch target inside belongs => ?_, fun st fetch target belongs => ?_, fun l put target inside reason2 => ?_,
    fun st t put target here reason2 => ?_⟩
  · obtain ⟨f, finding, failed⟩ := State.legFailed_fetch (k := k) legJob fetch belongs
    rw [State.currentFailed_found single busy plan finding, ← mid, whole, failed, target,
      State.fetchFailed_location (s := { s with cranes := cs }) quiet belongs] at ends
    exact ⟨_, ⟨ends, own, other⟩,
      fun m hm => s.loc_occupy_in inside hm (if reason = 1 then .empty else .unknown) none, rfl⟩
  · obtain ⟨f, finding, failed⟩ := State.legFailed_fetch (k := k) legJob fetch belongs
    rw [State.currentFailed_found single busy plan finding, whole, failed, target, ← mid] at ends
    exact ⟨_, ⟨ends, own, other⟩, rfl⟩
  · have finding : failureOf g.kind reason = .inl .binOccupied := by rw [put, reason2]; rfl
    rw [State.currentFailed_found single busy plan finding, whole, State.legFailed_binOccupied legJob target] at ends
    let v := State.binConflict { s with cranes := cs } k j l
    refine ⟨v, own, other, fun m hm => s.loc_occupy_in inside hm .unknown none, ?_, ?_⟩
    · show State.binConflict { s with cranes := cs } k j l = _
      rw [State.binConflict, State.endDest_eq, State.occupy_quiet (s := { s with cranes := cs }) quiet]
      rfl
    have start : v.startPoint k = { x := x, y := y } := by
      show (((v.crane k).pos.getD _) : Point) = _
      rw [show v.crane k = _ from own]
      rfl
    have asked : v.rechoiceWish k j l = _ := State.rechoiceWish_eq v k j l
    rw [start] at asked
    intro wish gone
    replace asked : v.rechoiceWish k j l = wish := asked
    refine ⟨fun nowhere => ?_, fun m host chosen hm => ?_⟩
    · rw [State.binOccupied_gone (nowhere.imp_right (asked ▸ ·))] at ends
      exact ends
    · rw [State.binOccupied_rechosen host (asked ▸ chosen),
        State.cranes_updCrane_after (s := s) (t := { s with cranes := cs }) cranes] at ends
      have leg : State.rechosenLeg { s with cranes := cs } k j m = {
          kind := .put, target := .location m, job := some j.num, pallet := some j.pallet, approach := false
          start := { x := x, y := y }
          est := c.legEstimate .put (m.depth == .rear) { x := x, y := y } (s.locPoint m) } := by
        rw [State.rechosenLeg, show State.startPoint { s with cranes := cs } k = _ from start, State.mkLeg]
        rw [show State.crane { s with cranes := cs } k = _ from own]
        rfl
      rw [leg] at ends
      exact ⟨_, ends, State.crane_of_cranes (s := s) (f := fun c => { c.endedAt { x := x, y := y } rest with plan := _ :: rest })
        rfl number, State.crane_of_cranes_other rfl, fun o ho => v.loc_occupy_in hm ho .inbound (some j.pallet), rfl⟩
  · have finding : failureOf g.kind reason = .inl .binOccupied := by rw [put, reason2]; rfl
    rw [State.currentFailed_found single busy plan finding, whole, State.legFailed_outfeedFull legJob target,
      State.outfeedFull_eq, State.cranes_updCrane_after (s := s) (t := { s with cranes := cs }) cranes, ← mid] at ends
    exact ⟨_, ⟨ends, State.crane_of_cranes (s := s)
      (f := fun c => { c.endedAt { x := x, y := y } rest with plan := g :: rest, roomWait := true }) rfl number,
      State.crane_of_cranes_other rfl⟩, fun m => State.station_changed here Station.corrected m, rfl⟩

end Sys2Proof.Machine
end

section
/-! SUPPORT. The reported load against the load of record (R112, R113). -/

namespace Sys2Proof.Machine

variable {s t : State} {k load : Nat}

/-! ## Who has a pallet (R8) -/

/-- A number outside 1..12 has no load. -/
theorem State.number_of_load {i : Nat} (h : (s.crane i).load.map Load.id = some load) : 1 ≤ i ∧ i ≤ 12 := by
  by_contra out
  rw [State.crane_outside s out] at h
  exact nomatch h

theorem State.heldElsewhere_iff : s.heldElsewhere k load = true ↔ ∃ i, i ≠ k ∧ (s.crane i).load.map Load.id = some load := by
  have holds (i : Nat) : (match (s.crane i).load with | some l => l.id == load | none => false) = true ↔
      (s.crane i).load.map Load.id = some load := by
    cases (s.crane i).load <;> simp
  simp only [State.heldElsewhere, List.any_eq_true, Bool.and_eq_true, bne_iff_ne]
  constructor
  · rintro ⟨i, -, other, held⟩
    exact ⟨i, other, (holds i).mp held⟩
  · rintro ⟨i, other, held⟩
    have number := State.number_of_load held
    exact ⟨i, by simp [craneNumbers]; omega, other, (holds i).mpr held⟩

/-! ## Legs taken out of a plan (R45, R153) -/

theorem Crane.without_eq (c : Crane) (n : Nat) : c.without n = match c.plan with
    | [] => c
    | g :: rest =>
      if g.job = some n then
        if c.curLeg ≠ 0 then
          { c with plan := { g with job := none, pallet := none, approach := false } :: rest.filter (fun e => e.job != some n) }
        else { c with plan := rest.filter (fun e => e.job != some n), request := none, roomWait := false }
      else { c with plan := g :: rest.filter (fun e => e.job != some n) } := rfl

/-- A number outside 1..12 has no plan. -/
theorem State.crane_removeLegs (s : State) (i n : Nat) : (s.removeLegs i n).crane i = (s.crane i).without n := by
  have crane : (s.removeLegs i n).crane i = (s.updCrane i (fun c => c.without n)).crane i := rfl
  rw [crane, State.crane_updCrane]
  split
  · rfl
  · rename_i out
    rw [State.crane_outside s (fun number => out ⟨rfl, number⟩)]
    rfl

theorem State.crane_removeLegs_other (s : State) {i m : Nat} (other : m ≠ i) (n : Nat) :
    (s.removeLegs i n).crane m = s.crane m := State.crane_updCrane_other s other _

theorem State.removeLegs_eq (s : State) (i n : Nat) : s.removeLegs i n =
    { s with cranes := (s.removeLegs i n).cranes, holds := s.holds.filter (fun e => e.2.job != n) } := by
  conv_lhs => rw [State.removeLegs, State.updCrane_eq]
  rfl

/-! ## The recorded pallet is dropped (R112) -/

theorem State.dropRecorded_none {id : Nat} (free : s.pool.find? (fun j => j.carries k id) = none) :
    s.dropRecorded k id = s.dropLoad k := by
  rw [State.dropRecorded, State.dropLoad, State.updCrane_pool, free]

theorem State.dropRecorded_some {id : Nat} {j : Job} (held : s.pool.find? (fun j => j.carries k id) = some j) :
    s.dropRecorded k id = ((s.dropLoad k).removeLegs k j.num).leave j.num (.failed .interrupted) := by
  rw [State.dropRecorded, State.dropLoad, State.updCrane_pool, held]

/-! ## The other holders of a reported pallet (R112) -/

theorem State.stripFor_eq (s : State) (k : Nat) (j : Job) : s.stripFor k j = if j.crane = k ∨ j.crane = 0 then
    (s.removeLegs j.crane j.num).leave j.num (.failed .conflict)
    else ((s.removeLegs j.crane j.num).leave j.num (.failed .conflict)).continueCrane j.crane := rfl

/-- The state behind the loss of a location to crane `k` (R112). -/
def State.lost (s : State) (k id : Nat) (l : Loc) : State :=
  (s.occupy l .unknown none).report (.locationConflict k l id .foreignLoad)

theorem State.lost_eq (s : State) (k id : Nat) (l : Loc) : s.lost k id l = { s with
    locs := (s.lost k id l).locs, link := s.link.report (.locationConflict k l id .foreignLoad)
    work := { s.work with pairs := (s.lost k id l).work.pairs } } := by
  unfold State.lost State.occupy State.touchPair
  split <;> rfl

theorem State.pairs_lost (s : State) (k id : Nat) (l : Loc) (p : Nat) : p ∈ (s.lost k id l).work.pairs ↔
    p ∈ s.work.pairs ∨ p = locKey { l with depth := .front } :=
  (State.mem_touchPair (s.setLoc l { s.loc l with occ := .unknown, pallet := none }) l p).trans or_comm

theorem State.stripLocation_none {id : Nat} (free : s.findPallet id = none) : s.stripLocation k id = s := by
  rw [State.stripLocation, free]

theorem State.stripLocation_unreserved {id : Nat} {l : Loc} (stands : s.findPallet id = some l)
    (free : s.sourceHolder l = none) : s.stripLocation k id = s.lost k id l := by
  rw [State.stripLocation, stands]
  dsimp only
  rw [free]
  rfl

theorem State.stripLocation_reserved {id : Nat} {l : Loc} {j : Job} (stands : s.findPallet id = some l)
    (holder : s.sourceHolder l = some j) : s.stripLocation k id =
      ((s.lost k id l).updJob j.num (fun j => { j with srcRes := none })).stripFor k j := by
  rw [State.stripLocation, stands]
  dsimp only
  rw [holder]
  rfl

theorem State.stripStore_none {id : Nat} (free : s.pool.find? (fun j => j.storeHolds && j.pallet == id) = none) :
    s.stripStore k id = s := by
  rw [State.stripStore, free]

theorem State.stripStore_some {id : Nat} {j : Job}
    (held : s.pool.find? (fun j => j.storeHolds && j.pallet == id) = some j) : s.stripStore k id = s.stripFor k j := by
  rw [State.stripStore, held]

/-! ## The comparison (R112; entry 43) -/

theorem State.compareLoad_elsewhere (differs : (s.crane k).loadId ≠ load)
    (held : load ≠ 0 ∧ ∃ i, i ≠ k ∧ (s.crane i).load.map Load.id = some load) :
    s.compareLoad k load = s.enterFault k .doubleLoad none := by
  rw [State.compareLoad]
  dsimp only
  rw [if_neg differs, if_pos ⟨held.1, State.heldElsewhere_iff.mpr held.2⟩]

/-- The state behind the loss of a recorded pallet that is not reported. -/
def State.unrecorded (s : State) (k : Nat) : State :=
  if (s.crane k).loadId ≠ 0 then s.dropRecorded k (s.crane k).loadId else s

theorem State.compareLoad_differs (differs : (s.crane k).loadId ≠ load)
    (free : ¬ (load ≠ 0 ∧ ∃ i, i ≠ k ∧ (s.crane i).load.map Load.id = some load)) :
    s.compareLoad k load = if load ≠ 0 then (s.unrecorded k).acceptForeign k load else s.unrecorded k := by
  rw [State.compareLoad]
  dsimp only
  rw [if_neg differs, if_neg (fun h => free ⟨h.1, State.heldElsewhere_iff.mp h.2⟩)]
  rfl

/-- Settles O48: the comparison by its branches, each holder's loss by `stripLocation` and `stripStore`. -/
theorem foreignLoadsStripTheirHolders : Obligations.ForeignLoadsStripTheirHolders := by
  intro k load s k1 k12 record elsewhere loaded removed conflicted found
  have number : 1 ≤ k ∧ k ≤ 12 := ⟨k1, k12⟩
  have recorded : record = (s.crane k).loadId := (Crane.loadId_eq _).symm
  have loads (u : State) (w : Option Load) : loaded u w (u.updCrane k (fun c => { c with load := w })) :=
    State.updCrane_frame number _
  have removes (u : State) (i n : Nat) : removed u i n (u.removeLegs i n) :=
    ⟨fun m => u.crane_removeLegs_other (n := n), u.removeLegs_eq i n, (u.crane_removeLegs i n).trans (Crane.without_eq _ n)⟩
  have conflicts (u : State) (j : Job) : conflicted u j (u.stripFor k j) :=
    ⟨_, removes u j.crane j.num, State.stripFor_eq u k j⟩
  refine ⟨fun same => State.compareLoad_same (recorded.symm.trans same),
    fun differs held => State.compareLoad_elsewhere (recorded ▸ differs) held, fun differs free => ?_, fun l h => ?_⟩
  · have whole := State.compareLoad_differs (recorded ▸ differs) free
    refine ⟨s.unrecorded k, fun nothing => if_neg ?_, fun something => ⟨_, loads s none, ?_⟩, fun unloaded => ?_, fun reported => ?_⟩
    · rw [← recorded]
      exact not_not.mpr nothing
    · have drops : s.unrecorded k = s.dropRecorded k record := by
        rw [State.unrecorded, if_pos (recorded ▸ something), recorded]
      rw [drops]
      show (match s.pool.find? (fun j => j.carries k record) with | none => _ | some j => _)
      cases held : s.pool.find? (fun j => j.carries k record) with
      | none => exact State.dropRecorded_none held
      | some j => exact ⟨_, removes _ k j.num, State.dropRecorded_some held⟩
    · rw [whole, if_neg (not_not.mpr unloaded)]
    · let u := s.unrecorded k
      obtain ⟨cs, frame⟩ : ∃ cs, u.updCrane k (fun c => { c with load := some { id := load, resolved := false } }) =
          { u with cranes := cs } := ⟨_, State.updCrane_eq u k _⟩
      let v : State := { u with cranes := cs }
      have accepted_load : loaded u (some { id := load, resolved := false }) v := by
        have h := loads u (some { id := load, resolved := false })
        rwa [frame] at h
      have accepts : u.acceptForeign k load = ((v.stripLocation k load).stripStore k load).unresolve k load := by
        rw [State.acceptForeign, frame]
      have accepted : s.compareLoad k load = ((v.stripLocation k load).stripStore k load).unresolve k load :=
        whole.trans ((if_pos reported).trans accepts)
      refine ⟨v, v.stripLocation k load, (v.stripLocation k load).stripStore k load, accepted_load, fun nowhere => ?_,
        fun l stands inside => ⟨v.lost k load l, fun m hm => u.loc_occupy_in inside hm .unknown none, v.lost_eq k load l,
          v.pairs_lost k load l, ?_⟩, ?_, accepted⟩
      · exact State.stripLocation_none ((State.findPallet_none v load).mpr nowhere)
      · show (match u.sourceHolder l with | none => _ | some j => _)
        cases holder : u.sourceHolder l with
        | none => exact State.stripLocation_unreserved (s := v) stands holder
        | some j => exact State.stripLocation_reserved (s := v) (k := k) stands holder ▸ conflicts _ j
      · have strips : found (v.stripLocation k load) (fun j => j.storeHolds && j.pallet == load) (fun
            | none => (v.stripLocation k load).stripStore k load = v.stripLocation k load
            | some j => conflicted (v.stripLocation k load) j ((v.stripLocation k load).stripStore k load)) := by
          show (match (v.stripLocation k load).pool.find? _ with | none => _ | some j => _)
          cases holder : (v.stripLocation k load).pool.find? (fun j => j.storeHolds && j.pallet == load) with
          | none => exact State.stripStore_none holder
          | some j => exact State.stripStore_some (k := k) holder ▸ conflicts _ j
        rw [show (fun j : Job => j.storeHolds && j.pallet == load) = _ from
          funext fun j => Bool.and_right_comm (j.kind == .store) _ (j.pallet == load)] at strips
        exact strips
  · obtain ⟨e, mem, place, stands⟩ := State.findPallet_some h
    exact ⟨e, mem, stands.1, stands.2, place⟩

end Sys2Proof.Machine
end

section
/-! SUPPORT. A STATE on a crane port (R100, R165, R188). -/

namespace Sys2Proof.Machine

variable {s t : State} {k load : Nat} {p : Point} {manual powerUp : Bool}

/-! ## What a chain of moves leaves alone (R97) -/

theorem Move.crane_cfg (h : Move s t) (j : Nat) : (t.crane j).cfg = (s.crane j).cfg := by
  cases h with
  | other _ _ _ _ _ _ _ _ cranes => exact congrArg Prod.fst (cranes j)
  | discard n =>
    rw [State.crane_discardClaims]
    split <;> rfl
  | grant | shrink | free | discardOne => exact State.crane_updCrane_part Crane.cfg s _ j fun _ => rfl
  | setLoc | report | freeJob | admitHost | admitInternal | setGroups => rfl

theorem Moves.inTwin (h : Moves s t) (k : Nat) : t.inTwin k = s.inTwin k :=
  State.inTwin_congr (h.same State.aisles fun _ _ m => m.aisles)
    (h.same (fun s => (s.crane k).cfg) fun _ _ m => m.crane_cfg k)

/-! ## The channel state a STATE asks for (R100) -/

/-- The record of a crane behind a STATE that reports position `p`, its channel state not yet changed. -/
def Crane.stateAt (p : Point) (powerUp : Bool) (c : Crane) : Crane :=
  { c.heardAt p with powerReturn := c.powerReturn || powerUp }

/-- The channel state that a STATE takes a channel to, if it changes it. -/
def ChanState.told (chan : ChanState) (manual powerUp : Bool) : Option (ChanState × ChanReason) :=
  match manual, powerUp with
  | true, _ => if chan = .manual then none else some (.manual, .manual)
  | false, true => if chan = .listen then none else some (.listen, .powerUp)
  | false, false =>
    match chan with
    | .offline => some (.listen, .heard)
    | .manual => some (.listen, .auto)
    | .listen | .ready | .busy | .parking | .parked | .fault => none

theorem State.stateAt_eq (s : State) (k : Nat) (p : Point) (powerUp : Bool) :
    (if powerUp then ((s.hear k).recordPosition k p).updCrane k (fun c => { c with powerReturn := true })
      else (s.hear k).recordPosition k p) = s.updCrane k (Crane.stateAt p powerUp) := by
  rw [State.hear, State.recordPosition]
  cases powerUp with
  | true =>
    rw [if_pos rfl, State.updCrane_updCrane, State.updCrane_updCrane]
    refine State.updCrane_congr ?_
    rw [Crane.stateAt, Bool.or_true]
    rfl
  | false =>
    rw [if_neg Bool.false_ne_true, State.updCrane_updCrane]
    refine State.updCrane_congr ?_
    rw [Crane.stateAt, Bool.or_false]
    rfl

theorem State.chan_stateAt (s : State) (k : Nat) (p : Point) (powerUp : Bool) :
    ((s.updCrane k (Crane.stateAt p powerUp)).crane k).chan = (s.crane k).chan :=
  State.crane_updCrane_part Crane.chan s k k (f := Crane.stateAt p powerUp) fun _ => rfl

theorem State.stateChange_eq (s : State) (k : Nat) (p : Point) (manual powerUp : Bool) (load : Nat) :
    ((s.hear k).recordPosition k p).stateChange k manual powerUp load =
      match (s.crane k).chan.told manual powerUp with
      | none => s.updCrane k (Crane.stateAt p powerUp)
      | some (st, r) => ((s.updCrane k (Crane.stateAt p powerUp)).haltCrane k (some load)).enter k st r := by
  have chan := s.chan_stateAt k p powerUp
  unfold State.stateChange
  rw [State.stateAt_eq]
  cases manual with
  | true =>
    dsimp only [ChanState.told]
    rw [chan]
    split <;> rfl
  | false =>
    cases powerUp with
    | true =>
      dsimp only [ChanState.told]
      rw [chan]
      split <;> rfl
    | false =>
      dsimp only [ChanState.told, State.haltCrane]
      rw [chan]
      cases (s.crane k).chan <;> rfl

theorem ChanState.told_entering {chan st : ChanState} {r : ChanReason} (told : chan.told manual powerUp = some (st, r)) :
    (∀ c : Crane, c.entering st r = { c with chan := st }) ∧ st ≠ .ready ∧ st ≠ .busy ∧ r ≠ .assigned := by
  have listed : (st = .manual ∧ r = .manual) ∨ (st = .listen ∧ (r = .powerUp ∨ r = .heard ∨ r = .auto)) := by
    cases manual with
    | true =>
      dsimp only [ChanState.told] at told
      split at told <;> simp_all
    | false =>
      cases powerUp with
      | true =>
        dsimp only [ChanState.told] at told
        split at told <;> simp_all
      | false => cases chan <;> simp_all [ChanState.told]
  rcases listed with ⟨rfl, rfl⟩ | ⟨rfl, rfl | rfl | rfl⟩ <;> exact ⟨fun _ => rfl, by decide, by decide, by decide⟩

theorem ChanState.told_plain {chan : ChanState} (offline : chan ≠ .offline) (manual : chan ≠ .manual) :
    chan.told false false = none := by
  cases chan with
  | offline => exact absurd rfl offline
  | manual => exact absurd rfl manual
  | listen | ready | busy | parking | parked | fault => rfl

/-! ## The resume check (R165) -/

/-- The mode record behind a STATE of crane `k`. -/
def Mode.seen (m : Mode) (k : Nat) (manual powerUp : Bool) : Mode :=
  { m with check := m.check.map (fun e => { e with records := tableMod k (fun a => a.see manual powerUp) e.records }) }

theorem State.markCheck_eq (s : State) (k : Nat) (manual powerUp : Bool) :
    s.markCheck k manual powerUp = { s with mode := s.mode.seen k manual powerUp } := by
  unfold State.markCheck Mode.seen
  cases check : s.mode.check with
  | none =>
    dsimp only [Option.map]
    rw [← check]
  | some e => rfl

theorem Mode.seen_eq (m : Mode) (k flags : Nat) {mode : Nat} (known : mode ≤ 1) :
    m.seen k (decide (mode = 1)) (decide (flags = 1)) =
      { m with check := m.check.map (fun e => { e with records := e.records.map (fun r => if r.1 = k then (k, {
        auto := r.2.auto || decide (mode = 0), powerUp := r.2.powerUp || decide (flags = 1)
        manual := r.2.manual || decide (mode = 1) }) else r) }) } := by
  have auto : (!decide (mode = 1)) = decide (mode = 0) := by
    rw [← decide_not]
    exact decide_eq_decide.mpr (by omega)
  have sees (r : Nat × Marks) : (if r.1 = k then (r.1, r.2.see (decide (mode = 1)) (decide (flags = 1))) else r) =
      if r.1 = k then (k, {
        auto := r.2.auto || decide (mode = 0), powerUp := r.2.powerUp || decide (flags = 1)
        manual := r.2.manual || decide (mode = 1) }) else r := by
    split
    · rename_i own
      rw [own, Marks.see, auto]
    · rfl
  simp only [Mode.seen, tableMod, sees]

/-! ## What a STATE does on a crane outside the twin aisles (R100) -/

theorem exec_state_bad (configured : (s.crane k).cfg ≠ none) {mode flags : Nat} (bad : 1 < mode ∨ 1 < flags) (x y load : Nat) :
    exec (.state k mode flags x y load) s = .next (s.hear k) := by
  have unknown : stateOk mode flags = false := by
    simp only [stateOk, Bool.and_eq_false_iff, decide_eq_false_iff_not]
    omega
  refine congrArg Host.Outcome.next ((State.onPort_configured (configured_iff.mpr configured) _).trans ?_)
  exact if_neg (by rw [unknown]; exact Bool.false_ne_true)

theorem exec_state (configured : (s.crane k).cfg ≠ none) {mode flags : Nat} (known : mode ≤ 1) (flag : flags ≤ 1) (x y load : Nat) :
    exec (.state k mode flags x y load) s =
      .next (s.onState k (decide (mode = 1)) (decide (flags = 1)) { x := x, y := y } load) := by
  have ok : stateOk mode flags = true := by simp [stateOk, known, flag]
  exact congrArg Host.Outcome.next ((State.onPort_configured (configured_iff.mpr configured) _).trans (if_pos ok))

theorem State.onState_single (changed : ((s.hear k).recordPosition k p).stateChange k manual powerUp load = t)
    (single : t.inTwin k = false) : s.onState k manual powerUp p load =
      ((t.settleLoad k load ((t.crane k).curLeg != 0)).markCheck k manual powerUp).finish := by
  rw [State.onState, changed]
  rw [State.railReport_single single]

/-- Neither an UNCERTAIN job nor another load, and the channel has nothing to send. -/
theorem State.settleLoad_same {midLeg : Bool} (settled : t.resolveUncertain k load = t)
    (same : midLeg = true ∨ (t.crane k).loadId = load) (waits : t.continueCrane k = t) : t.settleLoad k load midLeg = t := by
  have compared : (if midLeg then t else t.compareLoad k load) = t := by
    rcases same with rfl | same
    · exact if_pos rfl
    · rw [State.compareLoad_same same]
      exact ite_self t
  rw [State.settleLoad, settled]
  rw [compared, waits]

/-- A channel goes on from neither an outstanding leg nor another state than BUSY. -/
theorem State.continueCrane_stateAt (waits : (s.crane k).chan ≠ .busy ∨ ((s.crane k).curLeg ≠ 0 ∧ (s.crane k).plan ≠ [])) :
    (s.updCrane k (Crane.stateAt p powerUp)).continueCrane k = s.updCrane k (Crane.stateAt p powerUp) := by
  have part {β : Type} (g : Crane → β) (same : ∀ c, g (Crane.stateAt p powerUp c) = g c) :
      g ((s.updCrane k (Crane.stateAt p powerUp)).crane k) = g (s.crane k) :=
    State.crane_updCrane_part g s k k same
  by_cases busy : (s.crane k).chan = .busy
  · obtain ⟨current, planned⟩ := waits.resolve_left (not_not.mpr busy)
    obtain ⟨g, rest, plan⟩ := List.exists_cons_of_ne_nil planned
    rw [State.continueCrane_plan ((s.chan_stateAt k p powerUp).trans busy) ((part Crane.plan fun _ => rfl).trans plan)]
    refine State.goOn_stays fun may => current ?_
    obtain ⟨-, -, legless, -⟩ := State.mayGoOn_iff.mp may
    exact (part Crane.curLeg fun _ => rfl).symm.trans legless
  · exact State.continueCrane_idle (by rw [State.chan_stateAt]; exact busy)

theorem State.onState_stays (quiet : s.quiet) (single : s.inTwin k = false)
    (told : (s.crane k).chan.told manual powerUp = none)
    (settled : ∀ j ∈ s.pool, j.crane = k → j.state.isUncertain = false)
    (same : (s.crane k).curLeg ≠ 0 ∨ (s.crane k).loadId = load)
    (waits : (s.updCrane k (Crane.stateAt p powerUp)).continueCrane k = s.updCrane k (Crane.stateAt p powerUp)) :
    s.onState k manual powerUp p load = { s with
      cranes := (s.updCrane k (Crane.stateAt p powerUp)).cranes, mode := s.mode.seen k manual powerUp } := by
  have changed : ((s.hear k).recordPosition k p).stateChange k manual powerUp load = s.updCrane k (Crane.stateAt p powerUp) := by
    rw [State.stateChange_eq, told]
  have part {β : Type} (g : Crane → β) (same : ∀ c, g (Crane.stateAt p powerUp c) = g c) :
      g ((s.updCrane k (Crane.stateAt p powerUp)).crane k) = g (s.crane k) :=
    State.crane_updCrane_part g s k k same
  rw [State.onState_single changed ((State.inTwin_updCrane (f := Crane.stateAt p powerUp) rfl).trans single),
    State.settleLoad_same (State.resolveUncertain_none (fun j hj => settled j (State.updCrane_pool s k _ ▸ hj)) load) ?_ waits,
    State.markCheck_eq, State.updCrane_eq, State.finish_quiet]
  · exact quiet
  · rw [part Crane.curLeg fun _ => rfl, part Crane.loadId fun _ => rfl, bne_iff_ne]
    exact same

/-- The record of a crane that is not BUSY behind a STATE that changes its channel state. -/
def Crane.toldTo (p : Point) (powerUp : Bool) (st : ChanState) (c : Crane) : Crane :=
  { (c.stateAt p powerUp).halted with chan := st }

theorem Crane.curLeg_toldTo (c : Crane) (p : Point) (powerUp : Bool) (st : ChanState) :
    (c.toldTo p powerUp st).curLeg = c.halted.curLeg := by
  rw [Crane.toldTo, Crane.halted, Crane.halted, show (c.stateAt p powerUp).chan = c.chan from rfl]
  split <;> rfl

theorem Crane.loadId_toldTo (c : Crane) (p : Point) (powerUp : Bool) (st : ChanState) :
    (c.toldTo p powerUp st).loadId = c.loadId := by
  rw [Crane.toldTo, Crane.halted]
  split <;> rfl

/-- The state behind a STATE that changes the channel state of a crane that is not BUSY. -/
def State.toldTo (s : State) (k : Nat) (p : Point) (powerUp : Bool) (st : ChanState) (r : ChanReason) : State :=
  { s with
    cranes := (s.updCrane k (Crane.toldTo p powerUp st)).cranes
    readyOrder := s.readyOrder.filter (fun j => j != k)
    passRun := s.passWithout k
    link := s.link.report (.craneState k st r (some p)) }

theorem State.stateChange_told (number : 1 ≤ k ∧ k ≤ 12) (single : s.inTwin k = false) {st : ChanState} {r : ChanReason}
    (told : (s.crane k).chan.told manual powerUp = some (st, r)) (idle : (s.crane k).chan ≠ .busy) :
    ((s.hear k).recordPosition k p).stateChange k manual powerUp load = s.toldTo k p powerUp st r := by
  obtain ⟨entering, unready, -, unassigned⟩ := ChanState.told_entering told
  let f : Crane → Crane := fun c => (c.stateAt p powerUp).halted
  have halts : (s.updCrane k (Crane.stateAt p powerUp)).haltCrane k (some load) = s.updCrane k f := by
    rw [State.haltCrane_idle (by rw [State.chan_stateAt]; exact idle), State.updCrane_updCrane]
  have enters : (fun c => (f c).entering st r) = Crane.toldTo p powerUp st := funext fun c => entering (f c)
  rw [State.stateChange_eq, told]
  dsimp only
  rw [halts, State.enter_single (s := s) (t := s.updCrane k f) number single rfl (State.updCrane_aisles s k f)
    (Crane.cfg_halted _) unready unassigned, enters, Crane.pos_halted, State.updCrane_eq s k f]
  rfl

theorem State.onState_enters (number : 1 ≤ k ∧ k ≤ 12) (quiet : s.quiet) (single : s.inTwin k = false) {st : ChanState}
    {r : ChanReason} (told : (s.crane k).chan.told manual powerUp = some (st, r)) (idle : (s.crane k).chan ≠ .busy)
    (settled : ∀ j ∈ s.pool, j.crane = k → j.state.isUncertain = false)
    (same : (s.crane k).halted.curLeg ≠ 0 ∨ (s.crane k).loadId = load) : s.onState k manual powerUp p load =
      { s.toldTo k p powerUp st r with mode := s.mode.seen k manual powerUp } := by
  obtain ⟨-, -, unbusy, -⟩ := ChanState.told_entering told
  have own : (s.toldTo k p powerUp st r).crane k = (s.crane k).toldTo p powerUp st := State.crane_of_cranes rfl number
  have cfg : ((s.toldTo k p powerUp st r).crane k).cfg = (s.crane k).cfg := by
    rw [own]
    exact Crane.cfg_halted _
  have alone : (s.toldTo k p powerUp st r).inTwin k = false := (State.inTwin_congr (s := s) (t := s.toldTo k p powerUp st r) rfl cfg).trans single
  rw [State.onState_single (State.stateChange_told number single told idle) alone,
    State.settleLoad_same (State.resolveUncertain_none (s := s.toldTo k p powerUp st r) settled load) ?_
      (State.continueCrane_idle ?_), State.markCheck_eq, State.finish_quiet]
  · rfl
  · exact quiet
  · rw [own, Crane.curLeg_toldTo, Crane.loadId_toldTo, bne_iff_ne]
    exact same
  · rw [own]
    exact unbusy

/-- A STATE that takes a BUSY channel out of its plan. -/
theorem State.onState_breaks (number : 1 ≤ k ∧ k ≤ 12) (single : s.inTwin k = false) {st : ChanState} {r : ChanReason}
    (told : (s.crane k).chan.told manual powerUp = some (st, r)) (busy : (s.crane k).chan = .busy) {v : State}
    (whole : v = ((s.updCrane k (Crane.stateAt p powerUp)).breakPlan k (some load)).enter k st r)
    (settled : v.uncertainJob k = none) (same : (v.crane k).loadId = load) :
    s.onState k manual powerUp p load = (v.markCheck k manual powerUp).finish := by
  obtain ⟨entering, unready, unbusy, unassigned⟩ := ChanState.told_entering told
  let b := (s.updCrane k (Crane.stateAt p powerUp)).breakPlan k (some load)
  have broken : b.inTwin k = false := ((Moves.refl _).breakPlan k (some load)).inTwin k |>.trans
    ((State.inTwin_updCrane (f := Crane.stateAt p powerUp) rfl).trans single)
  have alone : v.inTwin k = false := by
    rw [whole]
    exact (((Moves.refl b).enter k st r).inTwin k).trans broken
  have changed : ((s.hear k).recordPosition k p).stateChange k manual powerUp load = v := by
    rw [State.stateChange_eq, told, whole]
    dsimp only
    rw [State.haltCrane_busy ((s.chan_stateAt k p powerUp).trans busy)]
  have chan : (v.crane k).chan = st := by
    rw [whole, State.enter_single (s := b) (t := b) number broken (b.cranes_unchanged k) rfl rfl unready unassigned]
    exact congrArg Crane.chan ((State.crane_of_cranes (s := b) (f := fun c => c.entering st r) rfl number).trans (entering _))
  rw [State.onState_single changed alone, State.settleLoad_same ?_ (.inr same) (State.continueCrane_idle ?_)]
  · rw [State.resolveUncertain, settled]
  · rw [chan]
    exact unbusy

/-! ## A load without a record (R112) -/

theorem State.faultStop_idle (legless : (s.crane k).curLeg = 0) {r : FaultReason} : s.faultStop k r = s := by
  rw [State.faultStop, if_neg (fun h => h.1 legless), List.append_nil]

theorem State.haltCrane_still (chan : (s.crane k).chan = .ready ∨ (s.crane k).chan = .listen) {info : Option Nat} :
    s.haltCrane k info = s := by
  rcases chan with ready | listen
  · rw [State.haltCrane, ready]
  · rw [State.haltCrane, listen]

theorem State.onState_foreign (quiet : s.quiet) (single : s.inTwin k = false)
    (told : (s.crane k).chan.told manual powerUp = none)
    (settled : ∀ j ∈ s.pool, j.crane = k → j.state.isUncertain = false) (legless : (s.crane k).curLeg = 0)
    (compared : (s.updCrane k (Crane.stateAt p powerUp)).compareLoad k load = t) (work : t.work = s.work)
    (idle : (t.crane k).chan ≠ .busy) :
    s.onState k manual powerUp p load = { t with mode := t.mode.seen k manual powerUp } := by
  have changed : ((s.hear k).recordPosition k p).stateChange k manual powerUp load = s.updCrane k (Crane.stateAt p powerUp) := by
    rw [State.stateChange_eq, told]
  have current : ((s.updCrane k (Crane.stateAt p powerUp)).crane k).curLeg = 0 :=
    (State.crane_updCrane_part Crane.curLeg s k k (f := Crane.stateAt p powerUp) fun _ => rfl).trans legless
  rw [State.onState_single changed ((State.inTwin_updCrane (f := Crane.stateAt p powerUp) rfl).trans single), current,
    State.settleLoad,
    State.resolveUncertain_none (fun j hj => settled j (State.updCrane_pool s k _ ▸ hj)) load]
  rw [show ((0 : Nat) != 0) = false from rfl, if_neg Bool.false_ne_true, compared, State.continueCrane_idle idle,
    State.markCheck_eq, State.finish_quiet]
  exact work.trans quiet

/-- A reported load that another crane holds (R112). -/
theorem State.compareLoad_doubled (number : 1 ≤ k ∧ k ≤ 12) (single : s.inTwin k = false)
    (chan : (s.crane k).chan = .ready ∨ (s.crane k).chan = .listen) (legless : (s.crane k).curLeg = 0)
    (empty : (s.crane k).load = none) (loaded : load ≠ 0) (held : ∃ i, i ≠ k ∧ (s.crane i).load.map Load.id = some load) :
    (s.updCrane k (Crane.stateAt p powerUp)).compareLoad k load = { s with
      cranes := (s.updCrane k (fun c => { c.stateAt p powerUp with chan := .fault, lastFault := some .doubleLoad })).cranes
      readyOrder := s.readyOrder.filter (fun j => j != k)
      passRun := s.passWithout k
      link := s.link.report (.craneState k .fault (.fault .doubleLoad) (some p)) } := by
  have own : (s.updCrane k (Crane.stateAt p powerUp)).crane k = (s.crane k).stateAt p powerUp :=
    State.crane_updCrane_self s number _
  have differs : ((s.updCrane k (Crane.stateAt p powerUp)).crane k).loadId ≠ load := by
    rw [own, show ((s.crane k).stateAt p powerUp).loadId = (s.crane k).loadId from rfl, Crane.loadId, empty]
    exact loaded.symm
  obtain ⟨i, other, holds⟩ := held
  have new : ¬ (((s.updCrane k (Crane.stateAt p powerUp)).crane k).chan = .fault ∧
      ((s.updCrane k (Crane.stateAt p powerUp)).crane k).lastFault = some .doubleLoad) := by
    rw [State.chan_stateAt]
    rintro ⟨fault, -⟩
    rcases chan with ready | listen <;> simp_all
  rw [State.compareLoad_elsewhere differs ⟨loaded, i, other, by rwa [State.crane_updCrane_other s other]⟩,
    State.enterFault_eq new, State.faultStop_idle (by rw [own]; exact legless),
    State.haltCrane_still (by rw [State.chan_stateAt]; exact chan),
    State.enter_single (s := s) (t := s.updCrane k (Crane.stateAt p powerUp)) number single rfl
      (State.updCrane_aisles s k _) rfl (by decide) (by decide), State.updCrane_eq s k (Crane.stateAt p powerUp)]
  rfl

/-- A reported load that no holder is known for (R112, R113). -/
theorem State.compareLoad_unknown (number : 1 ≤ k ∧ k ≤ 12) (empty : (s.crane k).load = none) (loaded : load ≠ 0)
    (free : ∀ i, i ≠ k → (s.crane i).load.map Load.id ≠ some load) (absent : ∀ e ∈ s.locs, e.2.stands load = false)
    (unstored : ∀ j ∈ s.pool, j.storeHolds = true → j.pallet ≠ load) :
    (s.updCrane k (Crane.stateAt p powerUp)).compareLoad k load = { s with
      cranes := (s.updCrane k (fun c => { c.stateAt p powerUp with load := some { id := load, resolved := false } })).cranes
      link := s.link.report (.loadUnresolved k load (some p)) } := by
  have own : (s.updCrane k (Crane.stateAt p powerUp)).crane k = (s.crane k).stateAt p powerUp :=
    State.crane_updCrane_self s number _
  have nothing : ((s.updCrane k (Crane.stateAt p powerUp)).crane k).loadId = 0 := by
    rw [own, show ((s.crane k).stateAt p powerUp).loadId = (s.crane k).loadId from rfl, Crane.loadId, empty]
  have alone : ¬ (load ≠ 0 ∧ ∃ i, i ≠ k ∧
      ((s.updCrane k (Crane.stateAt p powerUp)).crane i).load.map Load.id = some load) := by
    rintro ⟨-, i, other, holds⟩
    rw [State.crane_updCrane_other s other] at holds
    exact free i other holds
  let b : State := { s with
    cranes := (s.updCrane k (fun c => { c.stateAt p powerUp with load := some { id := load, resolved := false } })).cranes }
  have accepted : (s.updCrane k (Crane.stateAt p powerUp)).updCrane k
      (fun c => { c with load := some { id := load, resolved := false } }) = b := by
    rw [State.updCrane_updCrane, State.updCrane_eq]
  have unplaced : b.stripLocation k load = b := State.stripLocation_none ((State.findPallet_none b load).mpr fun e he stands =>
    Bool.false_ne_true ((absent e he).symm.trans ((LocRec.stands_iff _ _).mpr stands)))
  have unstripped : b.stripStore k load = b := State.stripStore_none (List.find?_eq_none.mpr fun j hj holds => by
    rw [Bool.and_eq_true, beq_iff_eq] at holds
    exact unstored j hj holds.1 holds.2)
  have pos : (b.crane k).pos = some p := by
    rw [State.crane_of_cranes (s := s) (t := b)
      (f := fun c => { c.stateAt p powerUp with load := some { id := load, resolved := false } }) rfl number]
    rfl
  rw [State.compareLoad_differs (nothing ▸ loaded.symm) alone, if_pos loaded, State.unrecorded,
    if_neg (not_not.mpr nothing), State.acceptForeign, accepted]
  dsimp only
  rw [unplaced, unstripped, State.unresolve, pos, State.updCrane_after (s := s) (t := b)
    (f := fun c => { c.stateAt p powerUp with load := some { id := load, resolved := false } }) rfl]
  rfl

/-- Settles O46: the channel state by `told`, the resume check by `markCheck_eq`, the load by `compareLoad`. -/
theorem stateSetsTheChannel : Obligations.StateSetsTheChannel := by
  intro k mode flags x y load s quiet configured single c at_ marked next
  have number := State.crane_number (configured_iff.mpr configured)
  refine ⟨fun bad => ⟨_, exec_state_bad configured bad x y load, State.updCrane_frame number _⟩, fun known flag settled => ?_⟩
  intro stays enters
  have telegram := exec_state configured known flag x y load
  have seen : s.mode.seen k (decide (mode = 1)) (decide (flags = 1)) = marked := Mode.seen_eq s.mode k flags known
  have record : c.loadId = (c.load.map Load.id).getD 0 := Crane.loadId_eq c
  have staysIf (told : c.chan.told (decide (mode = 1)) (decide (flags = 1)) = none)
      (same : c.curLeg ≠ 0 ∨ load = (c.load.map Load.id).getD 0)
      (waits : c.chan ≠ .busy ∨ (c.curLeg ≠ 0 ∧ c.plan ≠ [])) : stays := by
    have whole := State.onState_stays (p := { x := x, y := y }) quiet single told settled (record ▸ same.imp_right Eq.symm)
      (State.continueCrane_stateAt waits)
    rw [whole, seen] at telegram
    exact ⟨_, telegram, State.crane_of_cranes (s := s) (f := Crane.stateAt { x := x, y := y } (decide (flags = 1))) rfl number,
      State.crane_of_cranes_other rfl, rfl⟩
  have entersIf {st : ChanState} {r : ChanReason} (told : c.chan.told (decide (mode = 1)) (decide (flags = 1)) = some (st, r))
      (idle : c.chan ≠ .busy) (same : c.halted.curLeg ≠ 0 ∨ load = (c.load.map Load.id).getD 0) : enters st r := by
    have whole := State.onState_enters (p := { x := x, y := y }) number quiet single told idle settled (record ▸ same.imp_right Eq.symm)
    rw [whole, seen] at telegram
    exact ⟨_, telegram, State.crane_of_cranes (s := s) (f := Crane.toldTo { x := x, y := y } (decide (flags = 1)) st) rfl number,
      State.crane_of_cranes_other rfl, rfl⟩
  have untold (auto : mode = 0) (unpowered : flags = 0) (waiting : c.chan = .ready ∨ c.chan = .listen) :
      c.chan.told (decide (mode = 1)) (decide (flags = 1)) = none := by
    rw [auto, unpowered]
    rcases waiting with ready | listen
    · rw [ready]
      rfl
    · rw [listen]
      rfl
  have foreign {f : Crane → Crane} {u : State} (auto : mode = 0) (unpowered : flags = 0)
      (waiting : c.chan = .ready ∨ c.chan = .listen) (legless : c.curLeg = 0)
      (compared : (s.updCrane k (Crane.stateAt { x := x, y := y } (decide (flags = 1)))).compareLoad k load = u)
      (same : u = { s with
        cranes := (s.updCrane k f).cranes, readyOrder := u.readyOrder, passRun := u.passRun, link := u.link })
      (idle : (f c).chan ≠ .busy) : ∃ v : State, next = .next v ∧ v.crane k = f c ∧ (∀ j, j ≠ k → v.crane j = s.crane j) ∧
        v = { u with cranes := v.cranes, mode := marked } := by
    have cranes : u.cranes = (s.updCrane k f).cranes := by rw [same]
    have own := State.crane_of_cranes cranes number
    have whole := State.onState_foreign quiet single (untold auto unpowered waiting) settled legless compared
      (by rw [same]) (by rw [own]; exact idle)
    rw [whole, show u.mode = s.mode by rw [same], seen] at telegram
    exact ⟨_, telegram, own, State.crane_of_cranes_other cranes, rfl⟩
  refine ⟨fun busy => ⟨fun auto unpowered current plan => ?_, fun told => ?_⟩, fun idle same parking held => ⟨?_, ?_, ?_⟩,
    fun idle unparked same => ?_, fun auto unpowered waiting legless empty loaded => ⟨?_, ?_⟩⟩
  · exact staysIf (by simp [ChanState.told, auto, unpowered, busy]) (.inl current) (.inr ⟨current, plan⟩)
  · have told : c.chan.told (decide (mode = 1)) (decide (flags = 1)) =
        some (if mode = 1 then .manual else .listen, if mode = 1 then .manual else .powerUp) := by
      by_cases manual : mode = 1
      · simp [ChanState.told, manual, busy]
      · simp [ChanState.told, manual, told.resolve_left manual, busy]
    obtain ⟨own, other, frame⟩ := State.updCrane_frame (s := s) number (Crane.stateAt { x := x, y := y } (decide (flags = 1)))
    refine ⟨_, _, own, other, frame, rfl, fun settled same => telegram.trans (congrArg Host.Outcome.next ?_)⟩
    exact State.onState_breaks number single told busy rfl settled ((Crane.loadId_eq _).trans same.symm)
  · intro manual
    exact entersIf (by simp [ChanState.told, manual, parking]) idle (.inr (held.resolve_left (by omega)))
  · intro auto powered
    exact entersIf (by simp [ChanState.told, auto, powered, parking]) idle (.inr (held.resolve_left (by omega)))
  · intro auto unpowered
    exact staysIf (by simp [ChanState.told, auto, unpowered, parking]) same (.inl idle)
  · have unhalted : c.halted.curLeg ≠ 0 ∨ load = (c.load.map Load.id).getD 0 := by
      rw [Crane.halted, if_neg unparked]
      exact same
    refine ⟨fun manual chan => staysIf ?_ same (.inl idle), fun manual chan => entersIf ?_ idle unhalted,
      fun auto powered chan => staysIf ?_ same (.inl idle), fun auto powered chan => entersIf ?_ idle unhalted,
      fun auto unpowered chan => entersIf ?_ idle unhalted, fun auto unpowered chan => entersIf ?_ idle unhalted,
      fun auto unpowered offline chan => staysIf ?_ same (.inl idle)⟩
    case refine_7 =>
      rw [auto, unpowered]
      exact ChanState.told_plain offline chan
    all_goals simp [ChanState.told, *]
  · exact fun held => foreign auto unpowered waiting legless
      (State.compareLoad_doubled number single waiting legless empty loaded held) rfl nofun
  · exact fun free absent unstored => foreign auto unpowered waiting legless
      (State.compareLoad_unknown number empty loaded free absent unstored) rfl
      (fun busy => waiting.elim (nomatch busy.symm.trans ·) (nomatch busy.symm.trans ·))

end Sys2Proof.Machine
end

section
/-! SUPPORT. The resolution of an UNCERTAIN job and the return to READY (R46, R111, R113). -/

namespace Sys2Proof.Machine

variable {s t : State} {k load n : Nat} {j : Job}

/-! ## The outcome of a leg from the reported load (R111) -/

theorem State.resolveUncertain_some {kind : LegKind} (found : s.uncertainJob k = some j) (state : j.state = .uncertain kind) :
    s.resolveUncertain k load = s.resolveLeg k j kind load := by
  rw [State.resolveUncertain, found]
  dsimp only
  rw [state]

theorem State.resolveLeg_unfetched (other : load ≠ j.pallet) : s.resolveLeg k j .fetch load = s.returnReady j.num :=
  if_neg other

/-- The FETCH was made: the source it names is left EMPTY. -/
theorem State.resolveLeg_fetched (own : load = j.pallet) : s.resolveLeg k j .fetch load =
    (State.leave (match j.source with | some l => s.endSource j.num l .empty | none => s) j.num
      (.failed .interrupted)).unresolve k j.pallet :=
  if_pos own

theorem State.resolveLeg_put (other : load ≠ j.pallet) : s.resolveLeg k j .put load = s.putMade k j true := if_neg other

theorem State.resolveLeg_unput (own : load = j.pallet) :
    s.resolveLeg k j .put load = (s.leave j.num (.failed .interrupted)).unresolve k j.pallet := if_pos own

/-! ## A STATE in FAULT (R100, R111) -/

theorem State.updCrane_stateAt_auto (s : State) (k : Nat) (p : Point) :
    s.updCrane k (Crane.stateAt p false) = s.updCrane k (Crane.heardAt p) := by
  refine State.updCrane_congr ?_
  rw [Crane.stateAt, Bool.or_false]
  rfl

theorem State.onState_fault {p : Point} (single : s.inTwin k = false) (fault : (s.crane k).chan = .fault) :
    s.onState k false false p load = (((s.updCrane k (Crane.heardAt p)).settleLoad k load
      (decide ((s.crane k).curLeg ≠ 0))).markCheck k false false).finish := by
  have changed : ((s.hear k).recordPosition k p).stateChange k false false load = s.updCrane k (Crane.heardAt p) := by
    rw [State.stateChange_eq, fault, ← State.updCrane_stateAt_auto]
    rfl
  have current : ((s.updCrane k (Crane.heardAt p)).crane k).curLeg = (s.crane k).curLeg :=
    State.crane_updCrane_part Crane.curLeg s k k (f := Crane.heardAt p) fun _ => rfl
  rw [State.onState_single changed ((State.inTwin_updCrane (f := Crane.heardAt p) rfl).trans single), current,
    show ((s.crane k).curLeg != 0) = decide ((s.crane k).curLeg ≠ 0) from
      Bool.eq_iff_iff.mpr (by rw [bne_iff_ne, decide_eq_true_iff])]

/-! ## An unresolved load (R113) -/

theorem State.unresolve_eq (s : State) (k pallet : Nat) : s.unresolve k pallet = { s with
    cranes := (s.updCrane k (fun c => { c with load := some { id := pallet, resolved := false } })).cranes
    link := s.link.report (.loadUnresolved k pallet (s.crane k).pos) } := by
  rw [State.unresolve, State.updCrane_eq]
  rfl

/-! ## The return to READY (R46) -/

/-- A job record back at READY, its destination kept. -/
def Job.back (j : Job) : Job :=
  { j with
    state := .ready
    crane := if j.kind = .recover then j.crane else 0
    station := if j.kind = .retrieve ∧ j.stationNamed = false then 0 else j.station }

theorem State.returnReady_keeps (found : s.job n = some j) (kept : j.assignedDest = false) : s.returnReady n = { s with
    pool := s.pool.map (fun i => if i.num = n then i.back else i)
    passDue := s.passDue || decide (s.mode.run = .run) } := by
  rw [State.returnReady, found]
  dsimp only
  rw [kept, State.trigger_eq, if_neg Bool.false_ne_true]
  rfl

theorem State.map_returned (pool : List Job) (n : Nat) :
    (pool.map (fun i => if i.num = n then i.destFreed else i)).map (fun i => if i.num = n then i.returned true else i) =
      pool.map (fun i => if i.num = n then Job.back { i with dest := none, dstRes := none } else i) := by
  rw [List.map_map]
  refine List.map_congr_left fun i _ => ?_
  simp only [Function.comp]
  by_cases own : i.num = n
  · rw [if_pos own, if_pos own, if_pos (i.destFreed_num.trans own)]
    rfl
  · rw [if_neg own, if_neg own, if_neg own]

theorem State.returnReady_gives (found : s.job n = some j) (given : j.assignedDest = true) :
    s.returnReady n = { s.freeDest n with
      pool := (s.freeDest n).pool.map (fun i => if i.num = n then i.returned true else i)
      passDue := (s.freeDest n).passDue || decide ((s.freeDest n).mode.run = .run) } := by
  rw [State.returnReady, found]
  dsimp only
  rw [given, State.trigger_eq, if_pos rfl]
  rfl

/-- A destination location taken at assignment is EMPTY again. -/
theorem State.returnReady_location {l : Loc} (found : s.job n = some j) (dest : j.dest = some l)
    (reserved : j.dstRes = some { kind := .location, origin := .assignment }) : s.returnReady n = { s.occupy l .empty none with
      pool := s.pool.map (fun i => if i.num = n then Job.back { i with dest := none, dstRes := none } else i)
      passDue := s.passDue || decide (s.mode.run = .run) } := by
  have given : j.assignedDest = true := by rw [Job.assignedDest, reserved]; rfl
  rw [State.returnReady_gives found given, State.freeDest_location found dest reserved, State.trigger_eq, ← State.map_returned]
  dsimp only
  rw [Bool.or_assoc, show ((s.updJob n Job.destFreed).occupy l .empty none).mode = s.mode from rfl, Bool.or_self]
  rfl

/-- A delivery taken at assignment is pending no more. -/
theorem State.returnReady_delivery (found : s.job n = some j)
    (reserved : j.dstRes = some { kind := .delivery, origin := .assignment }) (idle : s.roomWaiter j.station = none) :
    s.returnReady n = { s with
      stations := tableMod j.station Station.givenUp s.stations
      pool := s.pool.map (fun i => if i.num = n then Job.back { i with dest := none, dstRes := none } else i)
      passDue := s.passDue || decide (s.mode.run = .run) } := by
  have given : j.assignedDest = true := by rw [Job.assignedDest, reserved]; rfl
  have freed : s.freeDest n = (s.updJob n Job.destFreed).lowerPend j.station := by
    rw [State.freeDest, found]
    dsimp only
    rw [reserved]
    rfl
  have waiter : (s.updJob n Job.destFreed).roomWaiter j.station = none := (State.roomWaiter_congr rfl _).trans idle
  rw [State.returnReady_gives found given, freed, State.lowerPend_eq waiter, ← State.map_returned]
  dsimp only
  rw [Bool.or_assoc, show (s.updJob n Job.destFreed).mode = s.mode from rfl, Bool.or_self]
  rfl

/-- Settles O47: the outcome by `resolveLeg`, the return to READY by its destination reservation. -/
theorem uncertainJobIsResolved : Obligations.UncertainJobIsResolved := by
  refine ⟨fun k load s => ?_, fun k load s => ?_, fun k pallet s k1 k12 => ?_, fun n j s found quiet => ?_⟩
  · intro settles
    refine ⟨fun _ => rfl, fun x y configured single fault => ?_⟩
    have number := State.crane_number (configured_iff.mpr configured)
    obtain ⟨own, other, frame⟩ := State.updCrane_frame (s := s) number (Crane.heardAt { x := x, y := y })
    refine ⟨_, own, other, frame, ?_⟩
    rw [exec_state configured (by omega) (by omega)]
    exact congrArg Host.Outcome.next (State.onState_fault single fault)
  · refine ⟨fun settled => State.resolveUncertain_none settled load, fun j kind found state => ?_⟩
    intro v
    have resolved : v = s.resolveLeg k j kind load := State.resolveUncertain_some found state
    refine ⟨fun fetch other => ?_, fun fetch own => ⟨fun unplaced => ?_, fun l placed inside quiet => ?_⟩,
      fun put other => ?_, fun put own => ?_⟩
    · rw [resolved, fetch, State.resolveLeg_unfetched other]
    · rw [resolved, fetch, State.resolveLeg_fetched own, unplaced]
    · rw [resolved, fetch, State.resolveLeg_fetched own, placed]
      dsimp only
      rw [State.endSource_empty, State.occupy_quiet quiet]
      exact ⟨_, rfl, fun m hm => s.loc_occupy_in inside hm .empty none, rfl⟩
    · rw [resolved, put, State.resolveLeg_put other]
    · rw [resolved, put, State.resolveLeg_unput own]
  · have whole := s.unresolve_eq k pallet
    have cranes := congrArg State.cranes whole
    exact ⟨State.crane_of_cranes cranes ⟨k1, k12⟩, State.crane_of_cranes_other cranes, by rw [cranes]; exact whole⟩
  · intro back due only
    refine ⟨fun kept => State.returnReady_keeps found ?_, fun l reserved dest inside => ?_, fun reserved idle => ?_⟩
    · rcases kept with free | ⟨kind, early⟩
      · rw [Job.assignedDest, free]
      · rw [Job.assignedDest, early]
        rfl
    · rw [State.returnReady_location found dest reserved, State.occupy_quiet quiet]
      exact ⟨_, rfl, fun m hm => s.loc_occupy_in inside hm .empty none, rfl⟩
    · rw [State.returnReady_delivery found reserved idle]
      refine ⟨_, rfl, fun m => (tableGet_tableMod m j.station Station.givenUp s.stations).trans ?_, rfl⟩
      refine ite_congr rfl (fun own => ?_) fun _ => rfl
      rw [own]
      rfl

end Sys2Proof.Machine
end

section
/-! SUPPORT. The rail arbiter's operations one by one: what a run of them does, a grant, the test of a waiting request and a
release (R127, R129, R130). -/

namespace Sys2Proof.Machine

variable {s u : State} {k t n : Nat} {g : Leg} {v w : Span} {ops : List RailOp}

/-! ## A run of the arbiter -/

theorem State.railRun_nil (n : Nat) (s : State) : State.railRun n [] s = s := by cases n <;> rfl

theorem State.railRun_cons (n : Nat) (op : RailOp) (ops : List RailOp) (s : State) : State.railRun (n + 1) (op :: ops) s =
    State.railRun n ((s.railStep op).2 ++ ops) (s.railStep op).1 := rfl

/-- Operations that find nothing to do leave the state. -/
theorem State.railRun_still (still : ∀ op ∈ ops, s.railStep op = (s, [])) : State.railRun n ops s = s := by
  induction ops generalizing n with
  | nil => exact State.railRun_nil n s
  | cons op ops ih =>
    obtain ⟨now, later⟩ := List.forall_mem_cons.mp still
    cases n with
    | zero => rfl
    | succ n =>
      rw [State.railRun_cons, now]
      exact ih later

theorem State.railStep_ask (commands : s.commands = true) : s.railStep (.ask k) = s.askRail k := if_pos commands

theorem State.railStep_retest (commands : s.commands = true) : s.railStep (.retest k) = s.retestRail k := if_pos commands

theorem State.not_commands (idle : s.mode.run = .config ∨ s.mode.run = .safe) : ¬ s.commands = true := by
  rw [State.commands_iff]
  rcases idle with run | run <;> rw [run] <;> decide

/-- In CONFIG and SAFE nothing is tested again (entry 9). -/
theorem State.railStep_idle (idle : ¬ s.commands = true) : s.railStep (.retest k) = (s, []) := if_neg idle

/-! ## The twin of a crane -/

theorem State.number_of_twinOf (twin : s.twinOf k = some t) : 1 ≤ k ∧ k ≤ 12 :=
  State.crane_number (configured_iff.mpr (State.configured_of_twinOf twin))

/-- The grant test reads of the two cranes their configurations and the twin's rail span. -/
theorem State.grantTest_congr (aisles : u.aisles = s.aisles) (cfg : ∀ j, (u.crane j).cfg = (s.crane j).cfg)
    (span : ∀ t, s.twinOf k = some t → (u.crane t).railSpan = (s.crane t).railSpan) (v : Span) :
    u.grantTest k v = s.grantTest k v := by
  have role : (u.crane k).role = (s.crane k).role := by rw [Crane.role, cfg, Crane.role]
  unfold State.grantTest
  rw [State.twinOf_congr aisles cfg]
  cases twin : s.twinOf k with
  | none => rfl
  | some t =>
    dsimp only
    rw [span t twin, role, State.gaps_congr (cfg k) (cfg t)]

/-! ## A request that is refused again (R130) -/

theorem State.retestRail_none (quiet : (s.crane k).request = none) : s.retestRail k = (s, []) := by
  rw [State.retestRail, quiet]

theorem State.retestRail_refused (waits : (s.crane k).request = some v) (fails : ¬ s.grantTest k v = true) :
    s.retestRail k = s.refuse k := by
  rw [State.retestRail, waits]
  exact if_neg fails

/-- A twin that cannot evade and asks for nothing lets a refused request wait. -/
theorem State.refuse_waits (twin : s.twinOf k = some t) (stays : (s.crane t).canEvade = false)
    (quiet : (s.crane t).request = none) : s.refuse k = (s, []) := by
  rw [State.refuse, twin]
  dsimp only
  rw [stays, quiet]
  rfl

theorem State.railStep_quiet (quiet : (s.crane k).request = none) : s.railStep (.retest k) = (s, []) := by
  rw [State.railStep, State.retestRail_none quiet, ite_self]

theorem State.railStep_refused (waits : (s.crane k).request = some v) (fails : ¬ s.grantTest k v = true)
    (twin : s.twinOf k = some t) (stays : (s.crane t).canEvade = false) (quiet : (s.crane t).request = none) :
    s.railStep (.retest k) = (s, []) := by
  rw [State.railStep, State.retestRail_refused waits fails, State.refuse_waits twin stays quiet, ite_self]

/-! ## A grant (R101, R127, R129) -/

theorem State.crane_legSent (number : 1 ≤ k ∧ k ≤ 12) (g : Leg) (claim : Option Span) : (s.legSent k g claim).crane k =
    { (s.crane k).sent (nextLegId (s.crane k).lastLeg) ((s.crane k).legEstimate g.kind g.target.rear
      ((s.crane k).pos.getD g.start) (s.targetPoint k g.target)) with claim := claim } :=
  State.crane_of_cranes (s.legSent_cranes k g claim) number

theorem State.crane_legSent_other {j : Nat} (other : j ≠ k) (g : Leg) (claim : Option Span) :
    (s.legSent k g claim).crane j = s.crane j :=
  State.crane_of_cranes_other (s.legSent_cranes k g claim) j other

theorem State.cfg_legSent (k : Nat) (g : Leg) (claim : Option Span) (j : Nat) :
    ((s.legSent k g claim).crane j).cfg = (s.crane j).cfg :=
  State.crane_of_cranes_part Crane.cfg (s.legSent_cranes k g claim) rfl j

theorem State.twinOf_legSent (k : Nat) (g : Leg) (claim : Option Span) (j : Nat) :
    (s.legSent k g claim).twinOf j = s.twinOf j :=
  State.twinOf_congr rfl (State.cfg_legSent k g claim)

theorem State.grant_eq (number : 1 ≤ k ∧ k ≤ 12) (next : (s.crane k).nextLeg = some g) (v : Span) : s.grant k v =
    if leavesOut (s.crane k).railSpan ((s.legSent k g (some v)).crane k).railSpan = true then
      ((s.legSent k g (some v)).trigger, (s.legSent k g (some v)).retestTwin k)
    else (s.legSent k g (some v), []) := by
  rw [State.grant, State.sendLeg_granted number next]

/-- Where a pass is due already, a grant sends the leg, and at most the twin's request is to be tested again. -/
theorem State.grant_due (next : (s.crane k).nextLeg = some g) (twin : s.twinOf k = some t)
    (due : s.mode.run = .run → s.passDue = true) (v : Span) :
    (s.grant k v).1 = s.legSent k g (some v) ∧ ∀ op ∈ (s.grant k v).2, op = .retest t := by
  rw [State.grant_eq (State.number_of_twinOf twin) next]
  split
  · refine ⟨State.trigger_due (s := s.legSent k g (some v)) due, fun op mem => ?_⟩
    rw [State.retestTwin, State.twinOf_legSent, twin] at mem
    exact List.mem_singleton.mp mem
  · exact ⟨rfl, nofun⟩

/-- A grant, with what is left to do behind it, where the twin's request finds nothing to do. -/
theorem State.railRun_grant (next : (s.crane k).nextLeg = some g) (twin : s.twinOf k = some t)
    (due : s.mode.run = .run → s.passDue = true) (rest : ∀ op ∈ ops, op = .retest t)
    (still : (s.legSent k g (some v)).railStep (.retest t) = (s.legSent k g (some v), [])) :
    State.railRun n ((s.grant k v).2 ++ ops) (s.grant k v).1 = s.legSent k g (some v) := by
  obtain ⟨sent, retests⟩ := State.grant_due next twin due v
  rw [sent]
  refine State.railRun_still fun op mem => ?_
  rw [(List.mem_append.mp mem).elim (retests op) (rest op)]
  exact still

/-! ## A release (R129) -/

/-- The state with a pass made due by a trigger (R68). -/
def State.madeDue (s : State) : State := { s with passDue := s.passDue || decide (s.mode.run = .run) }

theorem State.madeDue_due (s : State) (run : s.madeDue.mode.run = .run) : s.madeDue.passDue = true := by
  have due : decide (s.mode.run = .run) = true := decide_eq_true run
  simp [State.madeDue, due]

/-- A release makes a pass due, and the arbiter begins with the twin's request. -/
theorem State.release_eq (twin : s.twinOf k = some t) : s.release k = State.railRun 32 [.retest t] s.madeDue := by
  rw [State.release, State.rail, State.retestTwin, twin, State.trigger_eq]
  rfl

/-- A release that the twin's request does not use. -/
theorem State.release_still (twin : s.twinOf k = some t) (still : s.madeDue.railStep (.retest t) = (s.madeDue, [])) :
    s.release k = s.madeDue := by
  rw [State.release_eq twin]
  exact State.railRun_still fun op mem => by rw [List.mem_singleton.mp mem]; exact still

theorem State.release_retests (commands : s.commands = true) (twin : s.twinOf k = some t) : s.release k =
    State.railRun 31 ((s.madeDue.retestRail t).2) (s.madeDue.retestRail t).1 := by
  have tests : s.madeDue.railStep (.retest t) = s.madeDue.retestRail t := State.railStep_retest (s := s.madeDue) commands
  rw [State.release_eq twin, State.railRun_cons, tests, List.append_nil]

/-- The waiting request of a crane whose twin asks for nothing, granted. -/
theorem State.retestRail_granted (twin : s.twinOf k = some t) (waits : (s.crane k).request = some v)
    (passes : s.grantTest k v = true) (quiet : (s.crane t).request = none) : s.retestRail k = s.grant k v := by
  have alone : s.twinPasses k = none := by
    rw [State.twinPasses, twin]
    dsimp only
    rw [quiet]
  rw [State.retestRail, waits]
  dsimp only
  rw [if_pos passes, alone]

end Sys2Proof.Machine
end

section
/-! SUPPORT. A report of a position in a twin aisle (R128), and the release that a change of claim or rail span is (R129,
R130). -/

namespace Sys2Proof.Machine

variable {s : State} {k t load : Nat} {p : Point} {o : Bool} {e : Crane}

/-! ## The claim behind a report (R128) -/

/-- The grant test of the place a crane reports. -/
theorem State.grantTest_place (x : Nat) : s.grantTest k { lo := x, hi := x } = true ↔
    ∃ t w, s.twinOf k = some t ∧ (s.crane t).railSpan = some w ∧
      ((s.crane k).role = .a → x + ((s.crane k).gap + (s.crane t).gap) ≤ w.lo) ∧
      ((s.crane k).role = .b → w.hi + ((s.crane k).gap + (s.crane t).gap) ≤ x) := by
  rw [State.grantTest_iff]
  simp only [keepsClear_iff, State.gaps]

theorem State.twinUnknown_iff : s.twinUnknown k = true ↔ ∀ t, s.twinOf k = some t → (s.crane t).railSpan = none := by
  unfold State.twinUnknown
  cases s.twinOf k with
  | none => simp
  | some t => simp

theorem State.claimAfter_some (k : Nat) (v : Span) (x : Nat) : s.claimAfter k (some v) x =
    if (v.lo ≤ x ∧ x ≤ v.hi) ∨ s.grantTest k { lo := x, hi := x } = true then some { lo := x, hi := x } else some v := by
  by_cases inside : v.lo ≤ x ∧ x ≤ v.hi <;> simp [State.claimAfter, inside]

theorem State.claimAfter_none (k x : Nat) : s.claimAfter k none x =
    if s.grantTest k { lo := x, hi := x } = true ∨ s.twinUnknown k = true then some { lo := x, hi := x } else none := by
  simp [State.claimAfter]

/-- The claim behind a report reads of the cranes their configurations and the twin's rail span. -/
theorem State.claimAfter_updCrane (cfg : e.cfg = (s.crane k).cfg) (claim : Option Span) (x : Nat) :
    (s.updCrane k (fun _ => e)).claimAfter k claim x = s.claimAfter k claim x := by
  have same (j : Nat) : ((s.updCrane k (fun _ => e)).crane j).cfg = (s.crane j).cfg :=
    State.crane_of_cranes_part Crane.cfg rfl cfg j
  have twins : (s.updCrane k (fun _ => e)).twinOf k = s.twinOf k := State.twinOf_congr (State.updCrane_aisles s k _) same
  have tests (v : Span) : (s.updCrane k (fun _ => e)).grantTest k v = s.grantTest k v :=
    State.grantTest_congr (State.updCrane_aisles s k _) same
      (fun t twin => by rw [State.crane_updCrane_other s (State.twinOf_ne twin)]) v
  have unknown : (s.updCrane k (fun _ => e)).twinUnknown k = s.twinUnknown k := by
    rw [Bool.eq_iff_iff, State.twinUnknown_iff, State.twinUnknown_iff, twins]
    refine forall₂_congr fun t twin => ?_
    rw [State.crane_updCrane_other s (State.twinOf_ne twin)]
  cases claim with
  | none => rw [State.claimAfter_none, State.claimAfter_none, tests, unknown]
  | some v => rw [State.claimAfter_some, State.claimAfter_some, tests]

/-! ## The report handed to the arbiter (R128, R129) -/

/-- The claim of crane `k` behind its report of rail position `x`. -/
def State.claimReported (s : State) (k x : Nat) (outstanding : Bool) : Option Span :=
  if outstanding then (s.crane k).claim else s.claimAfter k (s.crane k).claim x

/-- The state with crane `k`'s record `e`, whose report of rail position `x` has been handed to the arbiter. -/
def State.reported (s : State) (k : Nat) (e : Crane) (x : Nat) (outstanding : Bool) : State :=
  (s.updCrane k (fun _ => e)).railReport k (s.crane k).claim (s.crane k).railSpan x outstanding

/-- What a report with no leg outstanding makes of the claim, where `clear` says that the place passes the grant test. -/
theorem State.claimReported_free {x : Nat} {clear : Prop} (test : s.grantTest k { lo := x, hi := x } = true ↔ clear)
    (free : o = false) :
    (∀ v, (s.crane k).claim = some v → (v.lo ≤ x ∧ x ≤ v.hi) ∨ clear →
      s.claimReported k x o = some { lo := x, hi := x }) ∧
    (∀ v, (s.crane k).claim = some v → ¬ (v.lo ≤ x ∧ x ≤ v.hi) → ¬ clear → s.claimReported k x o = some v) ∧
    ((s.crane k).claim = none → clear ∨ (∀ t, s.twinOf k = some t → (s.crane t).railSpan = none) →
      s.claimReported k x o = some { lo := x, hi := x }) ∧
    ((s.crane k).claim = none → ¬ clear → (∃ t w, s.twinOf k = some t ∧ (s.crane t).railSpan = some w) →
      s.claimReported k x o = none) := by
  have after : s.claimReported k x o = s.claimAfter k (s.crane k).claim x := if_neg (by rw [free]; exact Bool.false_ne_true)
  rw [after]
  refine ⟨fun v own near => ?_, fun v own out blocked => ?_, fun first free => ?_, fun first blocked known => ?_⟩
  · rw [own, State.claimAfter_some]
    exact if_pos (near.imp_right test.mpr)
  · rw [own, State.claimAfter_some]
    exact if_neg (not_or.mpr ⟨out, blocked ∘ test.mp⟩)
  · rw [first, State.claimAfter_none]
    exact if_pos (free.imp test.mpr State.twinUnknown_iff.mpr)
  · obtain ⟨t, w, twin, span⟩ := known
    have seen : ¬ s.twinUnknown k = true := fun unknown => by
      simp [State.twinUnknown_iff.mp unknown t twin] at span
    rw [first, State.claimAfter_none]
    exact if_neg (not_or.mpr ⟨blocked ∘ test.mp, seen⟩)

theorem State.reported_eq (pair : s.inTwin k = true) (cfg : e.cfg = (s.crane k).cfg) (claim : e.claim = (s.crane k).claim)
    (x : Nat) : s.reported k e x o =
      let d : Crane := { e with claim := s.claimReported k x o }
      if d.claim = (s.crane k).claim ∧ d.railSpan = (s.crane k).railSpan then s.updCrane k (fun _ => d)
      else (s.updCrane k (fun _ => d)).release k := by
  have number := State.crane_number (configured_iff.mpr (State.configured_of_inTwin pair))
  have own : (s.updCrane k (fun _ => e)).crane k = e := State.crane_updCrane_self s number _
  have twin : (s.updCrane k (fun _ => e)).inTwin k = true :=
    (State.inTwin_congr (State.updCrane_aisles s k _) (by rw [own, cfg])).trans pair
  rw [State.reported, State.railReport, if_pos twin, State.claimAfter_updCrane cfg, own, claim]
  dsimp only
  rw [State.updCrane_updCrane, State.crane_updCrane_self s number]
  rfl

/-- A position recorded in a record that has kept its claim and rail span. -/
theorem State.reportPosition_reported {f : Crane → Crane} (claim : (f (s.crane k)).claim = (s.crane k).claim)
    (span : (f (s.crane k)).railSpan = (s.crane k).railSpan) : (s.updCrane k f).reportPosition k p o =
      s.reported k { f (s.crane k) with pos := some p } p.x o := by
  rw [State.reportPosition, State.recordPosition, State.updCrane_updCrane,
    State.crane_of_cranes_part Crane.claim rfl claim k, State.crane_of_cranes_part Crane.railSpan rfl span k, State.reported,
    State.updCrane_const]

/-- The record of a crane whose outstanding leg a telegram at `p` has ended. -/
def Crane.legEndedAt (p : Point) (c : Crane) : Crane :=
  { Crane.legEnded { c with bad := 0, silence := 0 } with pos := some p }

theorem Crane.legEndedAt_eq (p : Point) (c : Crane) : c.legEndedAt p = if c.chan = .parking then
      { c.heardAt p with parkLeg := none, curLeg := 0, legEst := 0, takenTimer := none, legTimer := none }
    else { c.heardAt p with plan := c.plan.tail, curLeg := 0, legEst := 0, takenTimer := none, legTimer := none } := by
  unfold Crane.legEndedAt Crane.legEnded
  by_cases parking : c.chan = .parking <;> simp [parking, Crane.heardAt]

theorem Crane.legEnded_claim (c : Crane) : c.legEnded.claim = c.claim := by
  unfold Crane.legEnded
  dsimp only
  split <;> rfl

theorem Crane.legEnded_railSpan (c : Crane) : c.legEnded.railSpan = c.railSpan := by
  unfold Crane.legEnded
  dsimp only
  split <;> rfl

theorem State.hear_reported : (s.hear k).reportPosition k p o = s.reported k ((s.crane k).heardAt p) p.x o :=
  State.reportPosition_reported (f := fun c => { c with bad := 0, silence := 0 }) rfl rfl

theorem State.legEnded_reportedTwin : ((s.hear k).updCrane k Crane.legEnded).reportPosition k p o =
    s.reported k ((s.crane k).legEndedAt p) p.x o := by
  rw [State.hear, State.updCrane_updCrane]
  exact State.reportPosition_reported (f := fun c => Crane.legEnded { c with bad := 0, silence := 0 })
    (Crane.legEnded_claim _) (Crane.legEnded_railSpan _)

/-! ## DONE, FAILED and STATE (R95, R100, R106) -/

/-- The outstanding leg: the park leg of a PARKING crane, else the head of the plan. -/
theorem Crane.nextLeg_of {c : Crane} {g : Leg}
    (leg : (c.chan = .parking ∧ c.parkLeg = some g) ∨ (c.chan ≠ .parking ∧ ∃ rest, c.plan = g :: rest)) :
    c.nextLeg = some g := by
  rcases leg with ⟨parking, leg⟩ | ⟨going, rest, plan⟩
  · rw [Crane.nextLeg, if_pos parking, leg]
  · rw [Crane.nextLeg, if_neg going, plan]
    rfl

theorem Crane.outstandingLeg_of {c : Crane} {g : Leg} {id : Nat} (sent : id ≠ 0) (current : id = c.curLeg)
    (next : c.nextLeg = some g) : c.outstandingLeg = some g := by
  rw [Crane.outstandingLeg, if_neg (current ▸ sent), next]

/-- A leg that keeps its job, or needs none (R112). -/
theorem Leg.jobless_of_held {g : Leg} (held : g.job ≠ none ∨ g.kind = .move) : g.jobless = false := by
  rw [← Bool.not_eq_true, Leg.jobless_iff]
  tauto

theorem bne_zero_eq (n : Nat) : (n != 0) = decide (n ≠ 0) := by
  by_cases zero : n = 0 <;> simp [zero]

/-- A stale DONE, the arbiter's part not yet taken apart (R95). -/
theorem State.onDone_staleTwin {id : Nat} (stale : id = 0 ∨ id ≠ (s.crane k).curLeg) (p : Point) (load : Nat) :
    s.onDone k id p load = ((s.reported k ((s.crane k).heardAt p) p.x (decide ((s.crane k).curLeg ≠ 0))).heard k).afterLeg k
      load (decide ((s.crane k).curLeg ≠ 0)) := by
  rw [State.onDone]
  dsimp only
  rw [if_neg (by tauto), State.onStale, State.hear_reported, bne_zero_eq]

theorem State.onFailed_staleTwin {id : Nat} (stale : id = 0 ∨ id ≠ (s.crane k).curLeg) (reason : Nat) (p : Point)
    (load : Nat) : s.onFailed k id reason p load = s.onDone k id p load := by
  rw [State.onDone, State.onFailed, if_neg (by tauto)]
  cases (s.crane k).outstandingLeg with
  | none => rfl
  | some g => exact if_neg (by tauto)

/-- The reasons that belong to a leg's kind (R106). -/
theorem failureOf_found {kind : LegKind} {reason : Nat} {f : Finding}
    (found : (kind = .fetch ∧ reason = 1 ∧ f = .binEmpty) ∨ (kind = .put ∧ reason = 2 ∧ f = .binOccupied) ∨
      (kind = .fetch ∧ reason = 3 ∧ f = .loadMismatch)) :
    failureOf kind reason = .inl f := by
  rcases found with ⟨rfl, rfl, rfl⟩ | ⟨rfl, rfl, rfl⟩ | ⟨rfl, rfl, rfl⟩ <;> rfl

theorem State.settleLoad_arrived (k load leg : Nat) : s.settleLoad k load (decide (leg ≠ 0)) =
    (if leg = 0 then (s.resolveUncertain k load).compareLoad k load else s.resolveUncertain k load).continueCrane k := by
  by_cases free : leg = 0 <;> simp [State.settleLoad, free]

/-- A STATE in AUTO without power-up that leaves the channel state (R100). -/
theorem State.onState_twin (offline : (s.crane k).chan ≠ .offline) (manual : (s.crane k).chan ≠ .manual) (p : Point)
    (load : Nat) : s.onState k false false p load = (State.markCheck (State.settleLoad
      (s.reported k ((s.crane k).heardAt p) p.x (decide ((s.crane k).curLeg ≠ 0))) k load (decide ((s.crane k).curLeg ≠ 0)))
      k false false).finish := by
  have record : s.updCrane k (Crane.stateAt p false) = s.updCrane k (fun _ => (s.crane k).heardAt p) := by
    refine State.updCrane_congr ?_
    rw [Crane.stateAt, Bool.or_false]
    rfl
  have leg : ((s.updCrane k (fun _ => (s.crane k).heardAt p)).crane k).curLeg = (s.crane k).curLeg :=
    State.crane_of_cranes_part Crane.curLeg rfl rfl k
  rw [State.onState, State.stateChange_eq, ChanState.told_plain offline manual]
  dsimp only
  rw [record, leg, bne_zero_eq]
  rfl

/-- Settles O49: the report by `reported_eq` and the claim by `claimAfter_some` and `claimAfter_none`; the release by
`release_still`, and by `railRun_grant` where the twin's request is granted. -/
theorem twinReportMovesTheClaim : Obligations.TwinReportMovesTheClaim := by
  refine ⟨fun k id x y load s configured pair => ?_, fun k t s twin => ?_⟩
  · intro c at_ clear place handed ended heard
    have hands (e : Crane) (cfg : e.cfg = c.cfg) (claim : e.claim = c.claim) (o : Bool) :
        handed e o (s.reported k e x o) := by
      have number := State.crane_number (configured_iff.mpr configured)
      refine ⟨s.claimReported k x o, s.updCrane k (fun _ => { e with claim := s.claimReported k x o }),
        fun leg => if_pos leg, fun free => State.claimReported_free (State.grantTest_place x) free,
        State.crane_updCrane_self s number _, fun j other => State.crane_updCrane_other s other _, State.updCrane_eq s k _, ?_⟩
      rw [State.reported_eq pair cfg claim, State.crane_updCrane_self s number]
      exact ⟨fun same span => if_pos ⟨same, span⟩, fun moved => if_neg moved⟩
    have hearing := hands at_ rfl rfl
    have ends : handed ended false (s.reported k (c.legEndedAt { x := x, y := y }) x false) := by
      have record : ended = c.legEndedAt { x := x, y := y } := (Crane.legEndedAt_eq _ c).symm
      rw [record]
      exact hands (c.legEndedAt _) (Crane.cfg_legEnded _) (Crane.legEnded_claim _) false
    refine ⟨fun stale => ⟨_, hearing _, ?_, fun reason => ?_⟩, fun g sent current leg => ?_,
      fun offline manual => ⟨_, hearing _, ?_⟩⟩
    · rw [exec_done configured, State.onDone_staleTwin stale]
      rfl
    · rw [exec_done configured, exec_failed configured, State.onFailed_staleTwin stale]
    · have leg := Crane.outstandingLeg_of sent current (Crane.nextLeg_of leg)
      have failed (reason : Nat) : exec (.failed k id reason x y load) s =
          .next ((s.hear k).currentFailed k g reason { x := x, y := y } load) := by
        rw [exec_failed configured, State.onFailed_current sent current leg]
      refine ⟨⟨_, ends, ?_, fun _ busy move direct => ?_⟩, fun reason f found => ⟨_, ends, ?_⟩,
        fun reason fetch put holds => ⟨_, hearing false, ?_⟩⟩
      · rw [exec_done configured, State.onDone_current sent current leg, State.legEnded_reportedTwin]
      · exact State.legDone_plain (by rw [busy]; decide) (.inr ⟨move, direct⟩)
      · rw [failed, State.currentFailed, failureOf_found found]
        dsimp only
        rw [State.legEnded_reportedTwin]
      · rw [failed, State.currentFailed, failureOf_drive fetch put, Leg.jobless_of_held holds]
        dsimp only
        rw [State.hear_reported]
        rfl
    · rw [exec_state configured (by decide) (by decide)]
      show Host.Outcome.next (s.onState k false false { x := x, y := y } load) = _
      rw [State.onState_twin offline manual, State.settleLoad_arrived]
      rfl
  · intro e due
    refine ⟨fun idle => ?_, fun w g waits run quiet back leg => ?_⟩
    · refine State.release_still twin ?_
      rcases idle with quiet | idle
      · exact State.railStep_quiet (s := s.madeDue) quiet
      · exact State.railStep_idle (s := s.madeDue) (State.not_commands idle)
    · intro clear start p next
      have commands := State.commands_iff.mpr run
      have test : s.grantTest t w = true ↔ clear := State.grantTest_twin back w
      refine ⟨fun way => ⟨_, ?_, State.crane_legSent (s := s.madeDue) (State.number_of_twinOf back) g (some w),
        fun j other => State.crane_legSent_other (s := s.madeDue) other g (some w), ?_⟩, fun blocked stays => ?_⟩
      · rw [State.release_retests commands twin,
          State.retestRail_granted (s := s.madeDue) back waits (test.mpr way) quiet, ← List.append_nil (State.grant _ _ _).2]
        refine State.railRun_grant (s := s.madeDue) (Crane.nextLeg_of leg) back s.madeDue_due nofun ?_
        refine State.railStep_quiet ?_
        rw [State.crane_legSent_other (s := s.madeDue) (State.twinOf_ne back)]
        exact quiet
      · rw [← Crane.expected_eq]
        rfl
      · exact State.release_still twin (State.railStep_refused (s := s.madeDue) waits (blocked ∘ test.mp) back stays quiet)

end Sys2Proof.Machine
end

section
/-! SUPPORT. The twin arbiter beyond the grant test (R131 to R133): evasion, mutual wait, and two requests that pass. -/

namespace Sys2Proof.Machine

variable {s : State} {i j k t n : Nat} {g h : Leg} {v w : Span} {p : Point}

/-! ## A MOVE to the end position (R126, R131, R132) -/

/-- The interval from `p` to the end position. -/
def Crane.homePath (c : Crane) (p : Point) : Span := { lo := min p.x c.endPoint.x, hi := max p.x c.endPoint.x }

/-- The MOVE of a crane from `p` to its end position. -/
def Crane.homeMove (c : Crane) (p : Point) : Leg where
  kind := .move
  target := .endPos
  job := none
  pallet := none
  approach := false
  start := p
  est := c.legEstimate .move false p c.endPoint

/-- A crane record behind the sending of its MOVE to its end position. -/
def Crane.sentHome (p : Point) (c : Crane) : Crane :=
  { c with
    claim := some (c.homePath p), request := none, lastLeg := nextLegId c.lastLeg, curLeg := nextLegId c.lastLeg
    legEst := (c.homeMove p).est, takenTimer := some 1000, legTimer := none }

/-- The telegram of crane `k`'s MOVE to its end position. -/
def Crane.homeTelegram (k : Nat) (c : Crane) : Nat × List Byte :=
  (k, legTelegram (nextLegId c.lastLeg) .move .endPos c.endPoint c.speed (c.load.map Load.id))

theorem State.askSpan_homeMove (pos : (s.crane k).pos = some p) :
    s.askSpan k ((s.crane k).homeMove p) = (s.crane k).homePath p := by
  rw [State.askSpan, pos]
  rfl

theorem State.legSent_homeMove (pos : (s.crane k).pos = some p) :
    s.legSent k ((s.crane k).homeMove p) (some ((s.crane k).homePath p)) = { s with
      cranes := (s.updCrane k (Crane.sentHome p)).cranes
      portOut := s.portOut ++ [(s.crane k).homeTelegram k] } := by
  have pool : s.pool.map (fun j => if ((s.crane k).homeMove p).job = some j.num ∧ (((s.crane k).homeMove p).kind = .fetch ∨
      (((s.crane k).homeMove p).kind = .put ∧ j.kind = .recover)) then { j with state := .active } else j) = s.pool := by
    simp [Crane.homeMove]
  rw [State.legSent, pos, pool, State.updCrane_congr (f := Crane.sentHome p) (g := fun d => { d.sent
    (nextLegId (s.crane k).lastLeg) _ with claim := some ((s.crane k).homePath p) }) rfl]
  rfl

/-! ## A leg asks (R126, R127) -/

theorem State.askRail_granted (next : (s.crane k).nextLeg = some g) (passes : s.grantTest k (s.askSpan k g) = true) :
    s.askRail k = s.grant k (s.askSpan k g) := by
  rw [State.askRail, next]
  exact if_pos passes

/-- The state with crane `k`'s request waiting. -/
def State.asking (s : State) (k : Nat) (v : Span) : State := s.updCrane k (fun c => { c with request := some v })

theorem State.askRail_refused (next : (s.crane k).nextLeg = some g) (fails : ¬ s.grantTest k (s.askSpan k g) = true) :
    s.askRail k = (s.asking k (s.askSpan k g)).refuse k := by
  rw [State.askRail, next]
  exact if_neg fails

/-- A crane whose claim is its standing point gives up nothing for a path that begins there. -/
theorem State.grant_standing (number : 1 ≤ k ∧ k ≤ 12) (next : (s.crane k).nextLeg = some g) (pos : (s.crane k).pos = some p)
    (standing : (s.crane k).claim = some { lo := p.x, hi := p.x }) :
    s.grant k (s.askSpan k g) = (s.legSent k g (some (s.askSpan k g)), []) := by
  have begins := State.askSpan_pos g p pos
  have span : ((s.legSent k g (some (s.askSpan k g))).crane k).railSpan = some (s.askSpan k g) := by
    rw [State.crane_legSent number]
    refine Crane.railSpan_asked rfl fun q place => ?_
    rwa [Option.some.inj (place.symm.trans pos)]
  have keeps : leavesOut (s.crane k).railSpan (some (s.askSpan k g)) = false := by
    refine Crane.leavesOut_asked (fun b own => ?_) fun q place => ?_
    · rwa [← Option.some.inj (standing.symm.trans own)]
    · rwa [Option.some.inj (place.symm.trans pos)]
  rw [State.grant_eq number next, span, keeps]
  exact if_neg Bool.false_ne_true

/-- The MOVE to the end position of a crane that stands in its claim is sent where the way is clear. -/
theorem State.askRail_home (number : 1 ≤ k ∧ k ≤ 12) (next : (s.crane k).nextLeg = some ((s.crane k).homeMove p))
    (pos : (s.crane k).pos = some p) (standing : (s.crane k).claim = some { lo := p.x, hi := p.x })
    (passes : s.grantTest k ((s.crane k).homePath p) = true) : s.askRail k = ({ s with
      cranes := (s.updCrane k (Crane.sentHome p)).cranes
      portOut := s.portOut ++ [(s.crane k).homeTelegram k] }, []) := by
  rw [← State.askSpan_homeMove pos] at passes
  rw [State.askRail_granted next passes, State.grant_standing number next pos standing, State.askSpan_homeMove pos,
    State.legSent_homeMove pos]

/-! ## A refused request (R130) -/

section Asking

variable (s : State) (k : Nat) (v : Span)

theorem State.asking_eq : s.asking k v = { s with cranes := (s.asking k v).cranes } := s.updCrane_eq k _

/-- Nothing but the request is read differently behind the request. -/
theorem State.crane_asking_part {β : Type} (f : Crane → β) (same : ∀ c : Crane, f { c with request := some v } = f c)
    (j : Nat) : f ((s.asking k v).crane j) = f (s.crane j) := State.crane_updCrane_part f s k j same

theorem State.twinOf_asking (j : Nat) : (s.asking k v).twinOf j = s.twinOf j :=
  State.twinOf_updCrane (f := fun c => { c with request := some v }) fun _ => rfl

theorem State.grantTest_asking (j : Nat) (w : Span) : (s.asking k v).grantTest j w = s.grantTest j w :=
  State.grantTest_congr (State.updCrane_aisles s k _) (s.crane_asking_part k v Crane.cfg fun _ => rfl)
    (fun t _ => s.crane_asking_part k v Crane.railSpan (fun _ => rfl) t) w

theorem State.commands_asking : (s.asking k v).commands = s.commands := by
  rw [State.asking_eq]
  rfl

theorem State.waitingJob_asking (j : Nat) : (s.asking k v).waitingJob j = s.waitingJob j := by
  rw [State.waitingJob, s.crane_asking_part k v Crane.nextLeg fun _ => rfl, State.asking_eq]
  rfl

theorem State.ranksBefore_asking (i j : Nat) : (s.asking k v).ranksBefore i j = s.ranksBefore i j := by
  rw [State.ranksBefore, State.waitingJob_asking, State.waitingJob_asking, s.crane_asking_part k v Crane.role fun _ => rfl]
  rfl

end Asking

/-- The next leg of BUSY crane `k` has asked for `v` and is refused; its twin is crane `t`. -/
structure State.Refused (s : State) (k t : Nat) (v : Span) : Prop where
  twin : s.twinOf k = some t
  back : s.twinOf t = some k
  commands : s.commands = true
  fails : ¬ s.grantTest k v = true
  refused : s.continueCrane k = State.railRun 31 ((s.asking k v).refuse k).2 ((s.asking k v).refuse k).1

/-- A BUSY crane's next leg asks in vain. -/
theorem State.continueCrane_refused {rest : List Leg} (twin : s.twinOf k = some t) (back : s.twinOf t = some k)
    (may : s.mayGoOn k = true) (busy : (s.crane k).chan = .busy) (plan : (s.crane k).plan = g :: rest)
    (asked : s.askSpan k g = v) (fails : ¬ s.grantTest k v = true) : s.Refused k t v := by
  have commands := State.commands_iff.mpr (State.mayGoOn_iff.mp may).1
  refine ⟨twin, back, commands, fails, ?_⟩
  rw [State.continueCrane_plan busy plan, State.goOn_asks may (State.inTwin_of_twinOf twin), State.rail_ask commands,
    State.askRail_refused (Crane.nextLeg_busy busy plan) (by rw [asked]; exact fails), asked]

theorem State.refuse_evades (twin : s.twinOf k = some t) (evades : (s.crane t).canEvade = true) :
    s.refuse k = (s.evade t, [.ask t, .retest k]) := by
  rw [State.refuse, twin]
  exact if_pos evades

theorem State.refuse_mutual (twin : s.twinOf k = some t) (stays : (s.crane t).canEvade = false)
    (waits : (s.crane t).request = some w) (fails : ¬ s.grantTest t w = true) : s.refuse k = s.mutualWait k t := by
  rw [State.refuse, twin]
  dsimp only
  rw [stays, waits]
  exact if_neg fails

/-! ## Evasion (R131) -/

/-- Only a READY crane evades. -/
theorem Crane.canEvade_busy {c : Crane} (busy : c.chan = .busy) : c.canEvade = false := by
  rw [Crane.canEvade, busy]
  rfl

theorem Crane.canEvade_iff {c : Crane} (configured : c.cfg ≠ none) : c.canEvade = true ↔
    c.chan = .ready ∧ ∃ p f, c.pos = some p ∧ c.cfg = some f ∧ p.x ≠ f.endPos.x := by
  obtain ⟨f, cfg⟩ := Option.ne_none_iff_exists'.mp configured
  cases pos : c.pos <;> simp [Crane.canEvade, Crane.endPoint, cfg, pos]

/-- A crane record with an evasion plan. -/
def Crane.planHome (p : Point) (c : Crane) : Crane :=
  { c with plan := [c.homeMove p], cycle := some .evasion, estimate := (c.homeMove p).est }

/-- The state with an evasion plan in READY crane `t`. -/
def State.evading (s : State) (t : Nat) (p : Point) : State :=
  { s with
    cranes := (s.updCrane t (fun c => { c.planHome p with chan := .busy })).cranes
    readyOrder := s.readyOrder.filter (fun j => j != t)
    passRun := s.passWithout t
    passDue := s.passDue || decide (s.mode.run = .run)
    link := s.link.report (.craneState t .busy .evasion (some p)) }

theorem State.cranes_evading (s : State) (t : Nat) (p : Point) : (s.evading t p).cranes =
    (s.updCrane t (fun c => { c.planHome p with chan := .busy })).cranes := rfl

theorem State.evade_eq (pair : s.inTwin t = true) (pos : (s.crane t).pos = some p) : s.evade t = s.evading t p := by
  have planned : s.evade t = (s.updCrane t (Crane.planHome p)).chanTo t .busy .evasion := by
    rw [State.evade, pos]
    exact congrArg (fun u => State.chanTo u t .busy .evasion) (State.updCrane_congr rfl)
  have place : ((s.updCrane t (Crane.planHome p)).crane t).pos = some p :=
    (State.crane_of_cranes_part Crane.pos (f := Crane.planHome p) rfl rfl t).trans pos
  have twin : (s.updCrane t (Crane.planHome p)).inTwin t = true := (State.inTwin_updCrane (f := Crane.planHome p) rfl).trans pair
  rw [planned, State.chanTo_eq, State.chanTriggers_other (by decide) (by decide), twin, place, State.updCrane_updCrane,
    State.updCrane_eq s t (Crane.planHome p)]
  simp only [and_true]
  rfl

/-- A span that holds a point keeps clear of nothing that the point alone does not keep clear of. -/
theorem State.grantTest_point (twin : s.twinOf k = some t) {u : State} (again : u.twinOf k = some t)
    (cfg : ∀ j, (u.crane j).cfg = (s.crane j).cfg) (before : (s.crane t).railSpan = some { lo := p.x, hi := p.x })
    (now : (u.crane t).railSpan = some w) (holds : w.lo ≤ p.x ∧ p.x ≤ w.hi) (fails : ¬ s.grantTest k v = true) :
    ¬ u.grantTest k v = true := by
  have role : (u.crane k).role = (s.crane k).role := by rw [Crane.role, cfg, Crane.role]
  refine fun passes => fails ?_
  obtain ⟨j, z, found, span, clear⟩ := State.grantTest_iff.mp passes
  obtain rfl : t = j := Option.some.inj (again.symm.trans found)
  obtain rfl : w = z := Option.some.inj (now.symm.trans span)
  rw [role, State.gaps_congr (cfg k) (cfg t)] at clear
  exact State.grantTest_iff.mpr ⟨t, _, twin, before, keepsClear_within holds clear⟩

/-- The state with the evasion MOVE of crane `t` sent. -/
def State.evaded (s : State) (t : Nat) (p : Point) : State :=
  { s.evading t p with
    cranes := (s.updCrane t (fun c => Crane.sentHome p { c.planHome p with chan := .busy })).cranes
    portOut := s.portOut ++ [(s.crane t).homeTelegram t] }

theorem State.cranes_evaded (s : State) (t : Nat) (p : Point) : (s.evaded t p).cranes =
    (s.updCrane t (fun c => Crane.sentHome p { c.planHome p with chan := .busy })).cranes := rfl

theorem State.askRail_evading (number : 1 ≤ t ∧ t ≤ 12) (pos : (s.crane t).pos = some p)
    (standing : (s.crane t).claim = some { lo := p.x, hi := p.x }) (passes : s.grantTest t ((s.crane t).homePath p) = true) :
    (s.evading t p).askRail t = (s.evaded t p, []) := by
  have cranes := s.cranes_evading t p
  have own : (s.evading t p).crane t = { (s.crane t).planHome p with chan := .busy } := State.crane_of_cranes cranes number
  have test : (s.evading t p).grantTest t (((s.evading t p).crane t).homePath p) = true := by
    rw [own]
    refine (State.grantTest_congr (s := s) (u := s.evading t p) rfl (State.crane_of_cranes_part Crane.cfg cranes rfl)
      (fun j found => ?_) _).trans passes
    rw [State.crane_of_cranes_other cranes j (State.twinOf_ne found)]
  rw [State.askRail_home number (by rw [own]; rfl) (by rw [own]; exact pos) (by rw [own]; exact standing) test, own,
    State.cranes_updCrane_after cranes]
  rfl

/-- A request that failed against a twin on its standing point fails against the twin's way from there. -/
theorem State.railStep_evaded (twin : s.twinOf k = some t) (waits : (s.crane k).request = some v)
    (fails : ¬ s.grantTest k v = true) (number : 1 ≤ t ∧ t ≤ 12) (pos : (s.crane t).pos = some p)
    (standing : (s.crane t).claim = some { lo := p.x, hi := p.x }) :
    (s.evaded t p).railStep (.retest k) = (s.evaded t p, []) := by
  have cranes := s.cranes_evaded t p
  have own := State.crane_of_cranes cranes number
  have cfg := State.crane_of_cranes_part Crane.cfg cranes rfl
  have again : (s.evaded t p).twinOf k = some t := (State.twinOf_congr (s := s) (t := s.evaded t p) rfl cfg).trans twin
  have place (q : Point) (at_ : (s.crane t).pos = some q) : q = p := Option.some.inj (at_.symm.trans pos)
  have before : (s.crane t).railSpan = some { lo := p.x, hi := p.x } :=
    Crane.railSpan_asked standing fun q at_ => by rw [place q at_]; exact ⟨le_rfl, le_rfl⟩
  have holds : ((s.crane t).homePath p).lo ≤ p.x ∧ p.x ≤ ((s.crane t).homePath p).hi := ⟨min_le_left _ _, le_max_left _ _⟩
  have now : ((s.evaded t p).crane t).railSpan = some ((s.crane t).homePath p) := by
    rw [own]
    exact Crane.railSpan_asked rfl fun q at_ => by rw [place q at_]; exact holds
  refine State.railStep_refused (v := v) ?_ (State.grantTest_point twin again cfg before now holds fails) again ?_ ?_
  · rw [State.crane_of_cranes_other cranes k (State.twinOf_ne twin).symm]
    exact waits
  · exact Crane.canEvade_busy (by rw [own]; rfl)
  · rw [own]
    rfl

/-- A READY twin that stands in its claim evades on a clear way, and the request that made it evade waits on. -/
theorem State.railRun_evades (twin : s.twinOf k = some t) (back : s.twinOf t = some k) (commands : s.commands = true)
    (waits : (s.crane k).request = some v) (fails : ¬ s.grantTest k v = true) (evades : (s.crane t).canEvade = true)
    (pos : (s.crane t).pos = some p) (standing : (s.crane t).claim = some { lo := p.x, hi := p.x })
    (passes : s.grantTest t ((s.crane t).homePath p) = true) :
    State.railRun 31 (s.refuse k).2 (s.refuse k).1 = s.evaded t p := by
  have number := State.number_of_twinOf back
  rw [State.refuse_evades twin evades, State.evade_eq (State.inTwin_of_twinOf back) pos, State.railRun_cons,
    State.railStep_ask (s := s.evading t p) commands, State.askRail_evading number pos standing passes]
  refine State.railRun_still fun op mem => ?_
  obtain rfl := List.mem_singleton.mp mem
  exact State.railStep_evaded twin waits fails number pos standing

theorem State.Refused.evades (r : s.Refused k t v) (evades : (s.crane t).canEvade = true) (pos : (s.crane t).pos = some p)
    (standing : (s.crane t).claim = some { lo := p.x, hi := p.x }) (passes : s.grantTest t ((s.crane t).homePath p) = true) :
    s.continueCrane k = (s.asking k v).evaded t p := by
  have other : (s.asking k v).crane t = s.crane t := State.crane_updCrane_other s (State.twinOf_ne r.twin) _
  have waits : ((s.asking k v).crane k).request = some v := by
    rw [State.asking, State.crane_updCrane_self s (State.number_of_twinOf r.twin)]
  rw [r.refused]
  refine State.railRun_evades ((s.twinOf_asking k v k).trans r.twin) ((s.twinOf_asking k v t).trans r.back)
    ((s.commands_asking k v).trans r.commands) waits ?_ ?_ ?_ ?_ ?_
  · rw [State.grantTest_asking]
    exact r.fails
  · rw [other]
    exact evades
  · rw [other]
    exact pos
  · rw [other]
    exact standing
  · rw [other, State.grantTest_asking]
    exact passes

/-! ## Mutual wait (R132, R133) -/

/-- The crane that a mutual wait sends away (R133). -/
def State.loser (s : State) (k t : Nat) : Nat := if s.ranksBefore k t then t else k

theorem State.mutualWait_eq (next : (s.crane (s.loser k t)).nextLeg = some g) : s.mutualWait k t =
    if g.target = .endPos then (s, []) else (s.insertEvasion (s.loser k t) g, [.ask (s.loser k t)]) := by
  rw [State.loser] at next
  rw [State.mutualWait, next]
  rfl

/-- A crane record with an evasion MOVE before its plan. -/
def Crane.diverted (p : Point) (c : Crane) : Crane :=
  { c with plan := c.homeMove p :: c.plan, estimate := c.estimate + (c.homeMove p).est, request := none }

theorem State.insertEvasion_eq (pos : (s.crane k).pos = some p) (g : Leg) :
    s.insertEvasion k g = s.updCrane k (Crane.diverted p) := by
  rw [State.insertEvasion, pos]
  exact State.updCrane_congr rfl

/-- The state with an evasion MOVE put before the plan of crane `k` and sent. -/
def State.divertedHome (s : State) (k : Nat) (p : Point) : State :=
  { s with
    cranes := (s.updCrane k (fun c => (c.diverted p).sentHome p)).cranes
    portOut := s.portOut ++ [(s.crane k).homeTelegram k] }

theorem State.cranes_divertedHome (s : State) (k : Nat) (p : Point) : (s.divertedHome k p).cranes =
    (s.updCrane k (fun c => (c.diverted p).sentHome p)).cranes := rfl

theorem State.railRun_diverts (twin : s.twinOf k = some t) (commands : s.commands = true) (busy : (s.crane k).chan = .busy)
    (pos : (s.crane k).pos = some p) (standing : (s.crane k).claim = some { lo := p.x, hi := p.x })
    (passes : s.grantTest k ((s.crane k).homePath p) = true) (g : Leg) (n : Nat) :
    State.railRun (n + 1) [.ask k] (s.insertEvasion k g) = s.divertedHome k p := by
  have number := State.number_of_twinOf twin
  have own : (s.updCrane k (Crane.diverted p)).crane k = (s.crane k).diverted p := State.crane_updCrane_self s number _
  have test : (s.updCrane k (Crane.diverted p)).grantTest k (((s.updCrane k (Crane.diverted p)).crane k).homePath p) = true := by
    rw [own]
    refine (State.grantTest_congr (State.updCrane_aisles s k _) (State.crane_of_cranes_part Crane.cfg rfl rfl)
      (fun j found => ?_) _).trans passes
    rw [State.crane_updCrane_other s (State.twinOf_ne found)]
  rw [State.insertEvasion_eq pos, State.railRun_cons, State.railStep_ask (by rw [State.updCrane_eq]; exact commands),
    State.askRail_home number (Crane.nextLeg_busy (by rw [own]; exact busy) (by rw [own]; rfl)) (by rw [own]; exact pos)
      (by rw [own]; exact standing) test, own]
  dsimp only
  rw [State.updCrane_updCrane, State.updCrane_eq s k (Crane.diverted p), List.append_nil, State.railRun_nil]
  rfl

/-- The twins wait for one another: the request of crane `t` fails too. -/
theorem State.Refused.mutual (r : s.Refused k t v) (busy : (s.crane t).chan = .busy) (waits : (s.crane t).request = some w)
    (fails : ¬ s.grantTest t w = true) (next : (s.crane (s.loser k t)).nextLeg = some g) : s.continueCrane k =
      if g.target = .endPos then s.asking k v
      else State.railRun 31 [.ask (s.loser k t)] ((s.asking k v).insertEvasion (s.loser k t) g) := by
  have other : (s.asking k v).crane t = s.crane t := State.crane_updCrane_other s (State.twinOf_ne r.twin) _
  have same : (s.asking k v).loser k t = s.loser k t := by rw [State.loser, State.ranksBefore_asking, State.loser]
  have leg : ((s.asking k v).crane ((s.asking k v).loser k t)).nextLeg = some g := by
    rw [same, s.crane_asking_part k v Crane.nextLeg fun _ => rfl]
    exact next
  rw [r.refused, State.refuse_mutual ((s.twinOf_asking k v k).trans r.twin) (Crane.canEvade_busy (by rw [other]; exact busy))
    (by rw [other]; exact waits) (by rw [State.grantTest_asking]; exact fails), State.mutualWait_eq leg, same]
  split
  · exact State.railRun_nil _ _
  · rfl

/-- The loser's leg is not one to its end position: its evasion MOVE comes before that leg. -/
theorem State.Refused.diverts (r : s.Refused k t v) (busyT : (s.crane t).chan = .busy) (waits : (s.crane t).request = some w)
    (fails : ¬ s.grantTest t w = true) {i j : Nat} (loser : s.loser k t = i) (next : (s.crane i).nextLeg = some g)
    (away : g.target ≠ .endPos) (twin : s.twinOf i = some j) (busy : (s.crane i).chan = .busy)
    (pos : (s.crane i).pos = some p) (standing : (s.crane i).claim = some { lo := p.x, hi := p.x })
    (passes : s.grantTest i ((s.crane i).homePath p) = true) : s.continueCrane k = (s.asking k v).divertedHome i p := by
  have part {β : Type} (f : Crane → β) (same : ∀ c : Crane, f { c with request := some v } = f c) :
      f ((s.asking k v).crane i) = f (s.crane i) := s.crane_asking_part k v f same i
  rw [r.mutual busyT waits fails (g := g) (by rw [loser]; exact next), if_neg away, loser]
  refine State.railRun_diverts ((s.twinOf_asking k v i).trans twin) ((s.commands_asking k v).trans r.commands)
    ((part Crane.chan fun _ => rfl).trans busy) ((part Crane.pos fun _ => rfl).trans pos)
    ((part Crane.claim fun _ => rfl).trans standing) ?_ g 30
  rw [State.grantTest_asking, part (fun c => c.homePath p) fun _ => rfl]
  exact passes

/-- The arbiter order by the jobs of the two waiting legs (R133). -/
theorem State.ranksBefore_iff (first : (s.crane k).nextLeg = some g) (second : (s.crane t).nextLeg = some h) :
    s.ranksBefore k t = true ↔ match g.job.bind s.job, h.job.bind s.job with
      | some a, some b => a.cls < b.cls ∨ (a.cls = b.cls ∧ a.adm < b.adm)
      | some _, none => True
      | none, some _ => False
      | none, none => (s.crane k).role = .a := by
  have job {i : Nat} {g : Leg} (next : (s.crane i).nextLeg = some g) : s.waitingJob i = g.job.bind s.job := by
    rw [State.waitingJob, next]
    dsimp only
    cases g.job <;> rfl
  rw [State.ranksBefore, job first, job second]
  cases g.job.bind s.job <;> cases h.job.bind s.job <;> simp

/-! ## Two requests that pass (R133) -/

theorem State.twinPasses_eq (twin : s.twinOf k = some t) (waits : (s.crane t).request = some w)
    (passes : s.grantTest t w = true) : s.twinPasses k = some (t, w) := by
  rw [State.twinPasses, twin]
  dsimp only
  rw [waits]
  exact if_pos passes

theorem State.retestRail_both (twin : s.twinOf k = some t) (waits : (s.crane k).request = some v)
    (passes : s.grantTest k v = true) (others : (s.crane t).request = some w) (both : s.grantTest t w = true) :
    s.retestRail k = if s.ranksBefore k t = true then ((s.grant k v).1, (s.grant k v).2 ++ [.retest t])
      else ((s.grant t w).1, (s.grant t w).2 ++ [.retest k]) := by
  rw [State.retestRail, waits]
  dsimp only
  rw [if_pos passes, State.twinPasses_eq twin others both]

theorem State.grantTest_legSent (back : s.twinOf t = some k) (claim : Option Span) (w : Span) :
    (s.legSent k g claim).grantTest t w = true ↔ ∃ z, ((s.legSent k g claim).crane k).railSpan = some z ∧
      ((s.crane t).role = .a → w.hi + ((s.crane t).gap + (s.crane k).gap) ≤ z.lo) ∧
      ((s.crane t).role = .b → z.hi + ((s.crane t).gap + (s.crane k).gap) ≤ w.lo) := by
  have gap : ((s.legSent k g claim).crane k).gap = (s.crane k).gap := by
    rw [Crane.gap, State.cfg_legSent, Crane.gap]
  rw [State.grantTest_twin ((State.twinOf_legSent k g claim t).trans back), gap,
    State.crane_legSent_other (State.twinOf_ne back).symm]

/-- The first of two requests is granted, and the other, failing against the new claim, waits. -/
theorem State.railRun_first (twin : s.twinOf k = some t) (back : s.twinOf t = some k) (busy : (s.crane k).chan = .busy)
    (next : (s.crane k).nextLeg = some g) (due : s.mode.run = .run → s.passDue = true)
    (waits : (s.crane t).request = some w) (fails : ¬ (s.legSent k g (some v)).grantTest t w = true) :
    State.railRun n ((s.grant k v).2 ++ [.retest t]) (s.grant k v).1 = s.legSent k g (some v) := by
  have record := State.crane_legSent (s := s) (State.number_of_twinOf twin) g (some v)
  refine State.railRun_grant next twin due (fun op mem => List.mem_singleton.mp mem) ?_
  refine State.railStep_refused (v := w) ?_ fails ((State.twinOf_legSent k g _ t).trans back) ?_ ?_
  · rw [State.crane_legSent_other (State.twinOf_ne twin)]
    exact waits
  · exact Crane.canEvade_busy (by rw [record]; exact busy)
  · rw [record]
    rfl

/-- Both requests pass at a release of crane `k`, and that of crane `t` is the first in the arbiter order. -/
theorem State.release_first (twin : s.twinOf k = some t) (back : s.twinOf t = some k) (commands : s.commands = true)
    (waits : (s.crane k).request = some v) (passes : s.grantTest k v = true) (others : (s.crane t).request = some w)
    (both : s.grantTest t w = true) (busy : (s.crane t).chan = .busy) (next : (s.crane t).nextLeg = some h)
    (order : s.ranksBefore t k = true) (fails : ¬ (s.madeDue.legSent t h (some w)).grantTest k v = true) :
    s.release k = s.madeDue.legSent t h (some w) := by
  have tested := State.retestRail_both (s := s.madeDue) back others both waits passes
  rw [State.release_retests commands twin, tested, if_pos (show s.madeDue.ranksBefore t k = true from order)]
  exact State.railRun_first (s := s.madeDue) back twin busy next s.madeDue_due waits fails

/-- Both requests pass at a release of crane `k`, and its own is the first in the arbiter order. -/
theorem State.release_second (twin : s.twinOf k = some t) (back : s.twinOf t = some k) (commands : s.commands = true)
    (waits : (s.crane k).request = some v) (passes : s.grantTest k v = true) (others : (s.crane t).request = some w)
    (both : s.grantTest t w = true) (busy : (s.crane k).chan = .busy) (next : (s.crane k).nextLeg = some g)
    (order : ¬ s.ranksBefore t k = true) (fails : ¬ (s.madeDue.legSent k g (some v)).grantTest t w = true) :
    s.release k = s.madeDue.legSent k g (some v) := by
  have tested := State.retestRail_both (s := s.madeDue) back others both waits passes
  rw [State.release_retests commands twin, tested, if_neg (show ¬ s.madeDue.ranksBefore t k = true from order)]
  exact State.railRun_first (s := s.madeDue) twin back busy next s.madeDue_due others fails

end Sys2Proof.Machine
end

section
/-! SUPPORT. The range a crane is offered work in (R72, R123, R134), and the twin arbiter whole. -/

namespace Sys2Proof.Machine

variable {s : State} {k t x gaps : Nat} {role : Role} {v w : Span}

/-! ## Ranges (R123, R134) -/

/-- A rail position lies in a range; none lies in no range. -/
def inSpan (x : Nat) : Option Span → Prop
  | some v => v.lo ≤ x ∧ x ≤ v.hi
  | none => False

theorem inSpan_spanOf {lo hi : Nat} : inSpan x (spanOf lo hi) ↔ lo ≤ x ∧ x ≤ hi := by
  unfold spanOf
  split
  · exact Iff.rfl
  · exact ⟨False.elim, fun inside => by omega⟩

theorem State.inRange_iff (pair : s.inTwin k = true) : s.inRange k x = true ↔ inSpan x (s.effectiveRange k) := by
  rw [State.inRange, if_pos pair]
  cases s.effectiveRange k <;> simp [inSpan]

/-- The two cranes of a twin aisle have role A or B. -/
theorem State.role_of_twinOf (twin : s.twinOf k = some t) : (s.crane k).role = .a ∨ (s.crane k).role = .b := by
  obtain ⟨f, cfg, _, two, _⟩ := State.twinOf_some twin
  have own : (s.crane k).role = f.role := by rw [Crane.role, cfg]
  rw [own]
  cases role : f.role with
  | single => exact absurd role two
  | a => exact .inl rfl
  | b => exact .inr rfl

theorem State.inSpan_configuredRange (twin : s.twinOf k = some t) : inSpan x (s.configuredRange k) ↔
    ((s.crane k).role = .a → x + s.gaps k t ≤ (s.crane t).endPoint.x) ∧
    ((s.crane k).role = .b → (s.crane t).endPoint.x + s.gaps k t ≤ x ∧ x ≤ 200000) := by
  rw [State.configuredRange, if_pos (State.inTwin_of_twinOf twin), twin]
  dsimp only
  rcases State.role_of_twinOf twin with role | role <;> rw [role]
  · dsimp only
    split
    · rw [inSpan_spanOf]
      simp only [forall_const, reduceCtorEq, IsEmpty.forall_iff, and_true]
      omega
    · simp only [inSpan, forall_const, reduceCtorEq, IsEmpty.forall_iff, and_true, false_iff]
      omega
  · dsimp only
    rw [inSpan_spanOf]
    simp

theorem inSpan_limitRange : inSpan x (limitRange role gaps v w) ↔ inSpan x (some v) ∧
    (role = .a → x + gaps ≤ w.lo) ∧ (role = .b → w.hi + gaps ≤ x) := by
  cases role with
  | single => simp [limitRange]
  | a =>
    dsimp only [limitRange]
    split
    · rw [inSpan_spanOf]
      simp only [inSpan, forall_const, reduceCtorEq, IsEmpty.forall_iff, and_true]
      omega
    · simp only [inSpan, forall_const, reduceCtorEq, IsEmpty.forall_iff, and_true, false_iff]
      omega
  | b =>
    dsimp only [limitRange]
    rw [inSpan_spanOf]
    simp only [inSpan, forall_const, reduceCtorEq, IsEmpty.forall_iff, true_and]
    omega

theorem ChanState.movable_iff {c : ChanState} :
    c.movable = true ↔ c = .ready ∨ c = .busy ∨ c = .parking ∨ c = .parked := by
  cases c <;> simp [ChanState.movable]

theorem State.inSpan_effectiveRange (twin : s.twinOf k = some t) : inSpan x (s.effectiveRange k) ↔
    inSpan x (s.configuredRange k) ∧ (¬ (s.crane t).chan.movable = true → ∃ w, (s.crane t).railSpan = some w ∧
      ((s.crane k).role = .a → x + s.gaps k t ≤ w.lo) ∧ ((s.crane k).role = .b → w.hi + s.gaps k t ≤ x)) := by
  rw [State.effectiveRange, twin]
  cases s.configuredRange k with
  | none => simp [inSpan]
  | some v =>
    dsimp only
    by_cases moves : (s.crane t).chan.movable = true
    · simp [moves]
    · rw [if_neg moves]
      cases span : (s.crane t).railSpan with
      | none => simp [moves, inSpan]
      | some w =>
        dsimp only
        rw [inSpan_limitRange]
        simp [moves]

/-- Settles O50: evasion by `railRun_evades`, mutual wait by `mutualWait_eq` and `railRun_diverts`, two passing requests by
`railRun_first`, and the range by `inSpan_effectiveRange`. -/
theorem twinArbiterEvadesAndLimits : Obligations.TwinArbiterEvadesAndLimits := by
  refine ⟨fun k t s twin back => ?_, fun k x s => ⟨fun single => ?_, fun pair alone => ?_, fun t f twin cfg => ?_⟩⟩
  · intro span clearOf clear next job before e
    have numberK := State.number_of_twinOf twin
    have numberT := State.number_of_twinOf back
    have apart := State.twinOf_ne twin
    have test (v : Span) : s.grantTest k v = true ↔ clear k t v := State.grantTest_twin twin v
    have testBack (v : Span) : s.grantTest t v = true ↔ clear t k v := State.grantTest_twin back v
    refine ⟨Crane.canEvade_iff (State.configured_of_twinOf back), ?_, ?_⟩
    · intro g rest start run busy plan free room hold quiet unassigned pos v blocked waits leg sends telegram
      have may : s.mayGoOn k = true := State.mayGoOn_iff.mpr ⟨run, .inl busy, free, room, hold, quiet, unassigned⟩
      have asked : s.askSpan k g = v := by
        rw [State.askSpan, pos]
        rfl
      have refused := State.continueCrane_refused twin back may busy plan asked (blocked ∘ (test v).mp)
      have own : (s.asking k v).crane k = waits := State.crane_updCrane_self s numberK _
      have others (j : Nat) (other : j ≠ k) : (s.asking k v).crane j = s.crane j := State.crane_updCrane_other s other _
      refine ⟨fun p evades place standing silent way => ?_, fun h more w p busyT planT waitsT blockedT place => ?_⟩
      · have cranes := (s.asking k v).cranes_evaded t p
        refine ⟨_, refused.evades evades place standing ((testBack _).mpr way),
          (State.crane_of_cranes_other cranes k apart.symm).trans own, ?_,
          fun j notK notT => (State.crane_of_cranes_other cranes j notT).trans (others j notK), ?_⟩
        · rw [State.crane_of_cranes cranes numberT, others t apart]
          rfl
        · unfold State.evaded State.evading
          rw [others t apart, State.asking_eq]
          rfl
      · intro both
        have nextK := Crane.nextLeg_busy busy plan
        have nextT := Crane.nextLeg_busy busyT planT
        have order : s.ranksBefore k t = true ↔ before k g h := State.ranksBefore_iff nextK nextT
        have loserT (first : before k g h) : s.loser k t = t := if_pos (order.mpr first)
        have loserK (second : ¬ before k g h) : s.loser k t = k := if_neg (second ∘ order.mp)
        have failsT : ¬ s.grantTest t w = true := blockedT ∘ (testBack w).mp
        have waiting (still : s.continueCrane k = s.asking k v) : both waits e [] :=
          ⟨_, still, own, others t apart, fun j notK _ => others j notK, by
            rw [List.append_nil]
            exact s.asking_eq k v⟩
        refine ⟨fun first home => waiting ?_, fun second home => waiting ?_, fun first away standing way => ?_,
          fun second away standing way => ?_⟩
        · rw [refused.mutual busyT waitsT failsT (by rw [loserT first]; exact nextT), if_pos home]
        · rw [refused.mutual busyT waitsT failsT (by rw [loserK second]; exact nextK), if_pos home]
        · have cranes := (s.asking k v).cranes_divertedHome t p
          refine ⟨_, refused.diverts busyT waitsT failsT (loserT first) nextT away back busyT place standing
            ((testBack _).mpr way), (State.crane_of_cranes_other cranes k apart.symm).trans own, ?_,
            fun j notK notT => (State.crane_of_cranes_other cranes j notT).trans (others j notK), ?_⟩
          · rw [State.crane_of_cranes cranes numberT, others t apart, Crane.diverted, planT]
            rfl
          · unfold State.divertedHome
            rw [others t apart, State.asking_eq]
            rfl
        · have cranes := (s.asking k v).cranes_divertedHome k start
          refine ⟨_, refused.diverts busyT waitsT failsT (loserK second) nextK away twin busy pos standing
            ((test _).mpr way), ?_, (State.crane_of_cranes_other cranes t apart).trans (others t apart),
            fun j notK _ => (State.crane_of_cranes_other cranes j notK).trans (others j notK), ?_⟩
          · rw [State.crane_of_cranes cranes numberK, own, Crane.diverted, plan]
            rfl
          · unfold State.divertedHome
            rw [own, State.asking_eq]
            rfl
    · intro v w g h more rest run busyK busyT waitsK waitsT planK planT clearK clearT granted grants
      have commands := State.commands_iff.mpr run
      have nextK := Crane.nextLeg_busy busyK planK
      have nextT := Crane.nextLeg_busy busyT planT
      have order : s.ranksBefore t k = true ↔ before t h g := State.ranksBefore_iff nextT nextK
      have sent (i : Nat) (g : Leg) (v : Span) (number : 1 ≤ i ∧ i ≤ 12)
          (whole : s.release k = s.madeDue.legSent i g (some v)) : grants i g v := by
        refine ⟨_, whole, State.crane_legSent (s := s.madeDue) number g (some v),
          fun j other => State.crane_legSent_other (s := s.madeDue) other g (some v), ?_⟩
        rw [← Crane.expected_eq]
        rfl
      refine ⟨fun first fails => sent t h w numberT ?_, fun second fails => sent k g v numberK ?_⟩
      · refine State.release_first twin back commands waitsK ((test v).mpr clearK) waitsT ((testBack w).mpr clearT) busyT nextT
          (order.mpr first) fun passes => fails ?_
        have found := (State.grantTest_legSent (s := s.madeDue) twin (some w) v).mp passes
        rw [State.crane_legSent (s := s.madeDue) numberT] at found
        exact found
      · refine State.release_second twin back commands waitsK ((test v).mpr clearK) waitsT ((testBack w).mpr clearT) busyK nextK
          (second ∘ order.mp) fun passes => fails ?_
        have found := (State.grantTest_legSent (s := s.madeDue) back (some v) w).mp passes
        rw [State.crane_legSent (s := s.madeDue) numberK] at found
        exact found
  · rw [State.inRange, if_neg (by rw [single]; exact Bool.false_ne_true)]
  · rw [← Bool.not_eq_true, State.inRange_iff pair, State.effectiveRange, State.configuredRange, if_pos pair, alone]
    exact id
  · intro e gaps movable
    have gap : s.gaps k t = gaps := congrArg ((s.crane k).gap + ·) (by rw [Crane.gap, cfg])
    have home : (s.crane t).endPoint = f.endPos := by rw [Crane.endPoint, cfg]
    rw [State.inRange_iff (State.inTwin_of_twinOf twin), State.inSpan_effectiveRange twin, State.inSpan_configuredRange twin,
      gap, home, ChanState.movable_iff, and_assoc]

end Sys2Proof.Machine
end

section
/-! SUPPORT. What the going on of a crane leaves: neither the sending of a leg nor the rail arbiter touches the station
unit. -/

namespace Sys2Proof.Machine

variable {s t : State} {k : Nat}

/-! ## The station unit (chapter 07) -/

/-- What the station unit owns: the stations, the groups and the hold list. -/
def State.unit (s : State) : Assoc Station × Assoc Group × Assoc Hold := (s.stations, s.groups, s.holds)

@[simp] theorem State.unit_trigger (s : State) : s.trigger.unit = s.unit := by simp [State.unit]

@[simp] theorem State.unit_updCrane (s : State) (k : Nat) (f : Crane → Crane) : (s.updCrane k f).unit = s.unit := by
  simp [State.unit]

@[simp] theorem State.unit_chanTo (s : State) (k : Nat) (st : ChanState) (r : ChanReason) :
    (s.chanTo k st r).unit = s.unit := by
  rw [State.chanTo_eq]
  rfl

@[simp] theorem State.unit_sendLeg (s : State) (k : Nat) : (s.sendLeg k).unit = s.unit := by
  cases next : (s.crane k).nextLeg with
  | none => rw [State.sendLeg, next]
  | some g =>
    rw [State.sendLeg_eq next]
    rfl

/-! ## The rail arbiter (R126 to R133) -/

@[simp] theorem State.unit_grant (s : State) (k : Nat) (v : Span) : (s.grant k v).1.unit = s.unit := by
  unfold State.grant
  dsimp only
  split <;> simp

@[simp] theorem State.unit_evade (s : State) (k : Nat) : (s.evade k).unit = s.unit := by simp [State.evade]

@[simp] theorem State.unit_insertEvasion (s : State) (k : Nat) (g : Leg) : (s.insertEvasion k g).unit = s.unit :=
  s.unit_updCrane k _

@[simp] theorem State.unit_mutualWait (s : State) (k j : Nat) : (s.mutualWait k j).1.unit = s.unit := by
  unfold State.mutualWait
  dsimp only
  split
  · rfl
  · split <;> simp

@[simp] theorem State.unit_refuse (s : State) (k : Nat) : (s.refuse k).1.unit = s.unit := by
  unfold State.refuse
  split
  · rfl
  · split
    · exact s.unit_evade _
    · split
      · rfl
      · split <;> simp

@[simp] theorem State.unit_askRail (s : State) (k : Nat) : (s.askRail k).1.unit = s.unit := by
  unfold State.askRail
  split
  · rfl
  · dsimp only
    split <;> simp

@[simp] theorem State.unit_retestRail (s : State) (k : Nat) : (s.retestRail k).1.unit = s.unit := by
  unfold State.retestRail
  split
  · rfl
  · split
    · split
      · exact s.unit_grant k _
      · dsimp only
        split <;> simp
    · exact s.unit_refuse k

@[simp] theorem State.unit_railStep (s : State) (op : RailOp) : (s.railStep op).1.unit = s.unit := by
  cases op <;> unfold State.railStep <;> dsimp only <;> split <;> simp

theorem State.unit_railRun (n : Nat) (ops : List RailOp) (s : State) : (State.railRun n ops s).unit = s.unit := by
  induction n generalizing ops s with
  | zero => rfl
  | succ n ih =>
    cases ops with
    | nil => rw [State.railRun_nil]
    | cons op ops => rw [State.railRun_cons, ih, State.unit_railStep]

@[simp] theorem State.unit_goOn (s : State) (k : Nat) : (s.goOn k).unit = s.unit := by
  unfold State.goOn
  split
  · split
    · exact State.unit_railRun 32 _ s
    · exact s.unit_sendLeg k
  · rfl

/-! ## The unit's tables behind a crane that goes on -/

@[simp] theorem State.stations_goOn (s : State) (k : Nat) : (s.goOn k).stations = s.stations :=
  congrArg (·.1) (s.unit_goOn k)

@[simp] theorem State.groups_goOn (s : State) (k : Nat) : (s.goOn k).groups = s.groups :=
  congrArg (·.2.1) (s.unit_goOn k)

@[simp] theorem State.holds_goOn (s : State) (k : Nat) : (s.goOn k).holds = s.holds :=
  congrArg (·.2.2) (s.unit_goOn k)

end Sys2Proof.Machine
end


section
/-! SUPPORT. SET_STATION (R138) and SET_ORIGINATOR (R16). -/

namespace Sys2Proof.Machine

variable {s : State}

/-! ## Reading a table behind a write -/

theorem tableGet_tablePut_if {α : Type} (k n : Nat) (v : α) (t : Assoc α) :
    tableGet n (tablePut k v t) = if n = k then some v else tableGet n t := by
  split
  · subst n
    exact tableGet_tablePut _ _ _
  · exact tableGet_tablePut_other ‹_› _ _

theorem tableGet_tableDrop_if {α : Type} (k n : Nat) (t : Assoc α) :
    tableGet n (tableDrop k t) = if n = k then none else tableGet n t := by
  split
  · subst n
    exact tableGet_tableDrop _ _
  · exact tableGet_tableDrop_other ‹_› _

/-! ## Requests without data -/

theorem State.judged_refused {r : Result} (h : r ≠ .ok) (c tag : Nat) (effect : State → State) :
    s.judged c tag r effect = s.conclude c tag r [] := if_neg h

theorem State.judged_ok {r : Result} (h : r = .ok) (c tag : Nat) (effect : State → State) :
    s.judged c tag r effect = (effect s).conclude c tag .ok [] := if_pos h

theorem not_eq_true_iff_not {b : Bool} {P : Prop} (h : b = true ↔ P) : (!b) = true ↔ ¬ P := by
  rw [Bool.not_eq_true', ← Bool.not_eq_true, h]

/-! ## SET_STATION (R138) -/

theorem railEndOf_eq (n : Nat) : railEndOf n = if n ≤ 1 then some (if n = 0 then .front else .rear) else none := by
  rcases n with _ | _ | n <;> simp [railEndOf]

theorem stationKindOf_eq (n : Nat) :
    stationKindOf n = if n ≤ 1 then some (if n = 0 then .infeed else .outfeed) else none := by
  rcases n with _ | _ | n <;> simp [stationKindOf]

/-- The fields of SET_STATION lie in their ranges (R138 check 2). -/
def stationFits (q : StationFields) : Prop :=
  1 ≤ q.station ∧ q.station ≤ 16 ∧ 1 ≤ q.aisle ∧ q.aisle ≤ 8 ∧ q.railEnd ≤ 1 ∧ q.kind ≤ 1 ∧ q.x ≤ 200000 ∧
    q.y ≤ 50000 ∧ 1 ≤ q.capacity ∧ q.capacity ≤ 6

/-- The station that fitting fields define, with empty counts and an empty queue (R138). -/
def definedStation (q : StationFields) : Station :=
  { aisle := q.aisle, railEnd := (if q.railEnd = 0 then .front else .rear)
    kind := (if q.kind = 0 then .infeed else .outfeed), point := { x := q.x, y := q.y }
    capacity := q.capacity, occ := 0, pend := 0, queue := [] }

theorem stationOf_fit {q : StationFields} (fit : stationFits q) : stationOf q = some (definedStation q) := by
  obtain ⟨station, last, aisle, aisles, railEnd, kind, x, y, capacity, most⟩ := fit
  rw [stationOf, if_pos ⟨station, last, aisle, aisles, x, y, capacity, most⟩, railEndOf_eq, if_pos railEnd,
    stationKindOf_eq, if_pos kind]
  rfl

theorem stationOf_misfit {q : StationFields} (misfit : ¬ stationFits q) : stationOf q = none := by
  unfold stationOf
  split
  · rename_i ranges
    obtain ⟨station, last, aisle, aisles, x, y, capacity, most⟩ := ranges
    by_cases railEnd : q.railEnd ≤ 1
    · have kind : ¬ q.kind ≤ 1 := fun kind =>
        misfit ⟨station, last, aisle, aisles, railEnd, kind, x, y, capacity, most⟩
      rw [stationKindOf_eq, if_neg kind]
      cases railEndOf q.railEnd <;> rfl
    · rw [railEndOf_eq, if_neg railEnd]
  · rfl

theorem stationOf_isNone_iff (q : StationFields) : (stationOf q).isNone = true ↔ ¬ stationFits q := by
  by_cases fit : stationFits q
  · simp [stationOf_fit fit, fit]
  · simp [stationOf_misfit fit, fit]

theorem State.checkStation_eq (s : State) (q : StationFields) [Decidable (stationFits q)] : s.checkStation q =
    if s.mode.run ≠ .config then .wrongMode
    else if ¬ stationFits q then .badField
    else if s.aisle q.aisle = none then .notConfigured else .ok := by
  rw [State.checkStation, ← Result.orElse_ok_right (firstFail _)]
  exact firstFail_orElse (by simp [State.inConfig]) (fun _ => nofun) <|
    firstFail_orElse (stationOf_isNone_iff q) (fun _ => nofun) <|
    firstFail_orElse Option.isNone_iff_eq_none (fun _ => nofun) rfl

/-! ## SET_ORIGINATOR (R16) -/

/-- One value written under several keys. -/
theorem tableGet_foldl_tablePut {α : Type} (key : Nat → Nat) (v : α) (k : Nat) (ns : List Nat) (t : Assoc α) :
    tableGet k (ns.foldl (fun t n => tablePut (key n) v t) t) =
      if ∃ n ∈ ns, key n = k then some v else tableGet k t := by
  induction ns generalizing t with
  | nil => simp
  | cons n ns ih =>
    rw [List.foldl_cons, ih]
    by_cases own : key n = k
    · subst own
      simp
    · simp [own, tableGet_tablePut_other (Ne.symm own)]

/-- The keys of the originator table are apart for aisles of at most 8. -/
theorem originKey_inj {o n p m : Nat} (hn : n ≤ 8) (hm : m ≤ 8) : p * 16 + m = o * 16 + n ↔ o = p ∧ m = n := by omega

/-- An entry reads as SET_ORIGINATOR wrote it: the aisle's, or with aisle 0 that of each of the eight (R16). -/
theorem State.origin_defineOriginator (s : State) (p : Nat) {aisle : Nat} (number : aisle ≤ 8) (e : OrigEntry) (o : Nat)
    {n : Nat} (hn : n ≤ 8) : (s.defineOriginator p aisle e).origin o n =
      if o = p ∧ 1 ≤ n ∧ (aisle = 0 ∨ n = aisle) then e else s.origin o n := by
  have listed : (∃ m ∈ if aisle = 0 then aisleNumbers else [aisle], p * 16 + m = o * 16 + n) ↔
      o = p ∧ 1 ≤ n ∧ (aisle = 0 ∨ n = aisle) := by
    split
    · simp [aisleNumbers]
      omega
    · simp
      omega
  rw [State.origin, State.defineOriginator, tableGet_foldl_tablePut (fun m => p * 16 + m)]
  simp only [listed]
  split <;> rfl

theorem State.checkOriginator_eq (s : State) (originator aisle mask preset : Nat) :
    s.checkOriginator originator aisle mask preset =
      if ¬ (s.mode.run = .config ∨ s.mode.run = .hold) then .wrongMode
      else if ¬ (1 ≤ originator ∧ originator ≤ 7 ∧ aisle ≤ 8 ∧ mask ≤ 15 ∧ preset ≤ 15) then .badField else .ok := by
  have attrs (n : Nat) : (attrsOf n).isSome = true ↔ n ≤ 15 := by
    unfold attrsOf
    split <;> simp <;> omega
  rw [State.checkOriginator, ← Result.orElse_ok_right (firstFail _)]
  have fields : (originatorOk originator && decide (aisle ≤ 8) && (attrsOf mask).isSome &&
      (attrsOf preset).isSome) = true ↔ 1 ≤ originator ∧ originator ≤ 7 ∧ aisle ≤ 8 ∧ mask ≤ 15 ∧ preset ≤ 15 := by
    simp only [Bool.and_eq_true, originatorOk_iff, decide_eq_true_eq, attrs, and_assoc]
  exact firstFail_orElse (not_eq_true_iff_not s.inConfigHold_iff) (fun _ => nofun) <|
    firstFail_orElse (not_eq_true_iff_not fields) (fun _ => nofun) rfl

theorem attrsOf_le {n : Nat} {a : Attrs} (h : attrsOf n = some a) : n ≤ 15 := by
  by_contra long
  rw [attrsOf_none (by omega)] at h
  cases h

/-- Settles O17: the station by `stationOf_fit`, the entries by `origin_defineOriginator`. -/
theorem stationsAndOriginatorsAreSet : Obligations.StationsAndOriginatorsAreSet := by
  refine ⟨fun tag q s takes quiet => ?_, fun tag originator aisle mask preset s takes quiet => ?_⟩
  · have refuses {r : Result} (no : r ≠ .ok) (h : s.checkStation q = r) :
        exec (.setStation tag q) s = .next (s.replied 0x92 tag r []) :=
      exec_refused rfl takes quiet (by rw [runRequest, runSetStation, h, State.judged_refused no])
    classical
    have check := s.checkStation_eq q
    refine ⟨fun run => refuses nofun (check.trans (if_pos run)), fun config => ?_⟩
    rw [if_neg (not_not.mpr config)] at check
    refine ite_of_iff (c := ¬ ¬ stationFits q) not_not.symm (check.trans (ite_not ..).symm) (fun fit ok => ?_)
      fun misfit bad => refuses nofun bad
    refine ite_of_eq ok (fun _ => refuses nofun) fun _ ok => ?_
    have defined : s.defineStation q = { s with stations := tablePut q.station (definedStation q) s.stations } := by
      rw [State.defineStation, stationOf_fit fit]
    refine ⟨(s.defineStation q).replied 0x92 tag .ok [], ?_, fun n => ?_, ?_⟩
    · rw [exec_taken rfl takes, runRequest, runSetStation, State.judged_ok ok, State.conclude_replied]
      rw [defined]
      exact quiet
    all_goals rw [defined]
    · exact tableGet_tablePut_if q.station n _ _
  · have refuses {r : Result} (no : r ≠ .ok) (h : s.checkOriginator originator aisle mask preset = r) :
        exec (.setOriginator tag originator aisle mask preset) s = .next (s.replied 0x94 tag r []) :=
      exec_refused rfl takes quiet (by rw [runRequest, runSetOriginator, h, State.judged_refused no])
    have check := s.checkOriginator_eq originator aisle mask preset
    refine ⟨fun run => ?_, fun run bad => ?_, fun m p run low high number maskIs presetIs => ?_⟩
    · exact refuses nofun (check.trans (if_pos (by rcases run with run | run <;> simp [run])))
    · rw [if_neg (not_not.mpr run), if_pos (by omega)] at check
      exact refuses nofun check
    · have fit : 1 ≤ originator ∧ originator ≤ 7 ∧ aisle ≤ 8 ∧ mask ≤ 15 ∧ preset ≤ 15 :=
        ⟨low, high, number, attrsOf_le maskIs, attrsOf_le presetIs⟩
      rw [if_neg (not_not.mpr run), if_neg (not_not.mpr fit)] at check
      have entry : entryOf mask preset = { mask := m, preset := p } := by rw [entryOf, maskIs, presetIs]; rfl
      refine ⟨(s.defineOriginator originator aisle { mask := m, preset := p }).replied 0x94 tag .ok [], ?_, fun o n hn =>
        s.origin_defineOriginator originator number { mask := m, preset := p } o hn, rfl⟩
      rw [exec_taken rfl takes, runRequest, runSetOriginator, State.judged_ok check, entry]
      exact congrArg _ (State.conclude_replied (s := s.defineOriginator originator aisle _) quiet ..)

end Sys2Proof.Machine
end

section
/-! SUPPORT. The groups: GROUP_OPEN (R141), GROUP_CLOSE (R145), the settling of a position (R143, R151) and GROUP_SKIP
(R144). -/

namespace Sys2Proof.Machine

variable {s : State} {gid p n k : Nat} {g : Group}

/-! ## Group ids and positions (R141) -/

theorem groupOk_iff : groupOk gid = true ↔ 1 ≤ gid ∧ gid ≤ 65535 := by simp [groupOk]

theorem groupOk_positionOk_iff : (groupOk gid && positionOk p) = true ↔
    1 ≤ gid ∧ gid ≤ 65535 ∧ 1 ≤ p ∧ p ≤ 255 := by
  simp [groupOk, positionOk, and_assoc]

/-! ## GROUP_OPEN (R141) -/

theorem State.checkGroupOpen_eq (s : State) (gid first : Nat) : s.checkGroupOpen gid first =
    if s.mode.run = .config then .wrongMode
    else if ¬ (1 ≤ gid ∧ gid ≤ 65535 ∧ 1 ≤ first ∧ first ≤ 255) then .badField
    else if s.group gid ≠ none then .duplicateJob
    else if 32 ≤ s.groups.length then .groupTableFull else .ok := by
  rw [State.checkGroupOpen, ← Result.orElse_ok_right (firstFail _)]
  exact firstFail_orElse s.notConfig_false_iff (fun _ => nofun) <|
    firstFail_orElse (not_eq_true_iff_not groupOk_positionOk_iff) (fun _ => nofun) <|
    firstFail_orElse Option.isSome_iff_ne_none (fun _ => nofun) <|
    firstFail_orElse decide_eq_true_iff (fun _ => nofun) rfl

/-! ## GROUP_CLOSE (R145) -/

/-- A group as GROUP_CLOSE leaves it: gone when no job holds a position of it, else CLOSING (R145). -/
def Group.closed (g : Group) : Option Group := if g.held = [] then none else some { g with status := .closing }

theorem State.closeGroup_eq (s : State) (gid : Nat) : s.closeGroup gid = { s with groups := (s.closeGroup gid).groups } := by
  unfold State.closeGroup
  split
  · rfl
  · split <;> rfl

theorem State.group_closeGroup (here : s.group gid = some g) (n : Nat) :
    (s.closeGroup gid).group n = if n = gid then g.closed else s.group n := by
  rw [State.closeGroup, here, Group.closed]
  dsimp only
  by_cases empty : g.held = []
  · rw [if_pos (List.isEmpty_iff.mpr empty), if_pos empty]
    exact tableGet_tableDrop_if gid n _
  · rw [if_neg (mt List.isEmpty_iff.mp empty), if_neg empty]
    exact tableGet_tablePut_if gid n _ _

theorem State.checkGroupClose_eq (s : State) (gid : Nat) : s.checkGroupClose gid =
    if s.mode.run = .config then .wrongMode
    else if ¬ (1 ≤ gid ∧ gid ≤ 65535) then .badField
    else if s.group gid = none then .noGroup
    else if s.groupClosing gid = true then .groupClosing else .ok := by
  rw [State.checkGroupClose, ← Result.orElse_ok_right (firstFail _)]
  exact firstFail_orElse s.notConfig_false_iff (fun _ => nofun) <|
    firstFail_orElse (not_eq_true_iff_not groupOk_iff) (fun _ => nofun) <|
    firstFail_orElse Option.isNone_iff_eq_none (fun _ => nofun) <|
    firstFail_orElse Iff.rfl (fun _ => nofun) rfl

theorem State.groupClosing_iff (here : s.group gid = some g) : s.groupClosing gid = true ↔ g.status = .closing := by
  rw [State.groupClosing, here]
  exact beq_iff_eq

/-! ## The settling of a position (R143) -/

theorem mem_setPut_iff {x : Nat} {l : List Nat} : x ∈ setPut n l ↔ x = n ∨ x ∈ l := by
  refine ⟨mem_setPut, fun h => ?_⟩
  induction l with
  | nil => simpa [setPut] using h
  | cons m t ih =>
    unfold setPut
    split
    · exact List.mem_cons.mpr h
    · split
      · rename_i same
        exact h.elim (fun own => own ▸ same ▸ List.mem_cons_self) id
      · rcases h with own | old
        · exact List.mem_cons_of_mem m (ih (.inl own))
        · rcases List.mem_cons.mp old with rfl | later
          · exact List.mem_cons_self
          · exact List.mem_cons_of_mem m (ih (.inr later))

/-- The counter goes on from `d` to the first number that is not of the rising set, and the set keeps what lies above. -/
theorem advance_spec (d : Nat) {l : List Nat} (rising : l.Pairwise (· < ·)) (above : ∀ x ∈ l, d ≤ x) :
    d ≤ (advance d l).1 ∧ (advance d l).1 ∉ l ∧ (∀ x, d ≤ x → x < (advance d l).1 → x ∈ l) ∧
      ∀ x, x ∈ (advance d l).2 ↔ x ∈ l ∧ (advance d l).1 < x := by
  induction l generalizing d with
  | nil => simp [advance]
  | cons q t ih =>
    obtain ⟨first, rest⟩ := List.pairwise_cons.mp rising
    have low := above q List.mem_cons_self
    by_cases next : q = d
    · subst next
      obtain ⟨le, fresh, between, left⟩ := ih (q + 1) rest first
      rw [advance, if_pos rfl]
      refine ⟨by omega, ?_, fun x least below => ?_, fun x => ?_⟩
      · exact fun own => (List.mem_cons.mp own).elim (fun same => by omega) fresh
      · rcases Nat.eq_or_lt_of_le least with rfl | later
        · exact List.mem_cons_self
        · exact List.mem_cons_of_mem q (between x later below)
      · rw [left, List.mem_cons]
        refine and_congr_left fun past => (or_iff_right ?_).symm
        omega
    · have beyond (x : Nat) (hx : x ∈ q :: t) : d < x := by
        rcases List.mem_cons.mp hx with rfl | later
        · omega
        · have := first x later
          omega
      rw [advance, if_neg next]
      exact ⟨le_rfl, fun own => absurd (beyond d own) (lt_irrefl d), fun x low high => by omega,
        fun x => (and_iff_left_of_imp (beyond x)).symm⟩

@[simp] theorem Group.settle_status (g : Group) (p : Nat) : (g.settle p).status = g.status := by
  unfold Group.settle
  dsimp only
  split
  · rfl
  · split <;> rfl

@[simp] theorem Group.settle_held (g : Group) (p : Nat) : (g.settle p).held = g.held.filter (fun e => e.1 != p) := by
  unfold Group.settle
  dsimp only
  split
  · rfl
  · split <;> rfl

/-- A position before its turn joins the settled set. -/
theorem Group.settle_early (early : g.d < p) :
    g.settle p = { g with held := g.held.filter (fun e => e.1 != p), settled := setPut p g.settled } := by
  unfold Group.settle
  dsimp only
  rw [if_neg (by omega), if_pos early]

/-- The position whose turn it is raises the counter past it and past the positions settled above it. -/
theorem Group.settle_turn (turn : g.d = p) (rising : g.settled.Pairwise (· < ·)) (above : ∀ x ∈ g.settled, g.d < x) :
    g.d < (g.settle p).d ∧ (g.settle p).d ∉ g.settled ∧
      (∀ x, g.d < x → x < (g.settle p).d → x ∈ g.settled) ∧
      ∀ x, x ∈ (g.settle p).settled ↔ x ∈ g.settled ∧ (g.settle p).d < x := by
  have counter : (g.settle p).d = (advance (g.d + 1) g.settled).1 := by simp [Group.settle, turn]
  have set : (g.settle p).settled = (advance (g.d + 1) g.settled).2 := by simp [Group.settle, turn]
  rw [counter, set]
  exact advance_spec (g.d + 1) rising above

/-! ## The hold that waits for the counter (R151) -/

theorem State.heldCrane_none_iff : s.heldCrane gid p = none ↔
    ∀ e ∈ s.holds, ¬ (e.2.group = gid ∧ e.2.position = p) := by
  simp [State.heldCrane]

theorem State.releaseHold_none (free : s.heldCrane gid p = none) : s.releaseHold gid p = s := by
  rw [State.releaseHold, free]

theorem State.releaseHold_some (held : s.heldCrane gid p = some k) :
    s.releaseHold gid p = { s with holds := tableDrop k s.holds }.goOn k := by
  rw [State.releaseHold, held]

theorem State.groups_releaseHold (s : State) (gid p : Nat) : (s.releaseHold gid p).groups = s.groups := by
  cases held : s.heldCrane gid p with
  | none => rw [State.releaseHold_none held]
  | some k =>
    rw [State.releaseHold_some held]
    exact State.groups_goOn _ k

/-- The state with position `p` of group `g` settled and no hold released yet. -/
def State.settledAt (s : State) (gid p : Nat) (g : Group) : State :=
  { s with groups := tablePut gid (g.settle p) s.groups, passDue := s.passDue || decide (s.mode.run = .run) }

theorem State.settle_eq (here : s.group gid = some g) (p : Nat) : s.settle gid p =
    if g.d < (g.settle p).d then (s.settledAt gid p g).releaseHold gid (g.settle p).d else s.settledAt gid p g := by
  rw [State.settle, here]
  dsimp only
  rw [State.trigger_eq]
  rfl

/-- Where the counter stays, or no crane is held for its new value, no hold is released. -/
theorem State.settle_unreleased (here : s.group gid = some g)
    (free : (g.settle p).d = g.d ∨ ∀ e ∈ s.holds, ¬ (e.2.group = gid ∧ e.2.position = (g.settle p).d)) :
    s.settle gid p = s.settledAt gid p g := by
  rw [State.settle_eq here]
  split
  · rename_i raised
    exact State.releaseHold_none (s := s.settledAt gid p g)
      (State.heldCrane_none_iff.mpr (free.resolve_left (by omega)))
  · rfl

/-- The crane held for the raised counter loses its hold and goes on. -/
theorem State.settle_releases (here : s.group gid = some g) (raised : g.d < (g.settle p).d)
    (held : s.heldCrane gid (g.settle p).d = some k) :
    s.settle gid p = { s.settledAt gid p g with holds := tableDrop k s.holds }.goOn k := by
  rw [State.settle_eq here, if_pos raised]
  exact State.releaseHold_some (s := s.settledAt gid p g) held

theorem State.group_settledAt (s : State) (gid p : Nat) (g : Group) (n : Nat) :
    (s.settledAt gid p g).group n = if n = gid then some (g.settle p) else s.group n :=
  tableGet_tablePut_if gid n _ _

theorem State.group_settle (here : s.group gid = some g) (p n : Nat) :
    (s.settle gid p).group n = if n = gid then some (g.settle p) else s.group n := by
  have groups : (s.settle gid p).groups = (s.settledAt gid p g).groups := by
    rw [State.settle_eq here]
    split
    · exact State.groups_releaseHold _ gid _
    · rfl
  rw [State.group_congr groups, State.group_settledAt]

/-! ## GROUP_SKIP (R144) -/

theorem State.checkGroupSkip_eq (s : State) (gid p : Nat) : s.checkGroupSkip gid p =
    if s.mode.run = .config then .wrongMode
    else if ¬ (1 ≤ gid ∧ gid ≤ 65535 ∧ 1 ≤ p ∧ p ≤ 255) then .badField
    else s.checkSkip gid p :=
  firstFail_orElse s.notConfig_false_iff (fun _ => nofun) <|
    firstFail_orElse (not_eq_true_iff_not groupOk_positionOk_iff) (fun _ => nofun) rfl

theorem State.checkSkip_none (gone : s.group gid = none) : s.checkSkip gid p = .noGroup := by
  rw [State.checkSkip, gone]

theorem State.checkSkip_some (here : s.group gid = some g) : s.checkSkip gid p =
    if p < g.d then .stalePosition
    else if p ∈ g.settled then .duplicatePosition
    else if tableGet p g.held ≠ none then .inProgress else .ok := by
  rw [State.checkSkip, here]
  dsimp only
  rw [← Result.orElse_ok_right (firstFail _)]
  exact firstFail_orElse decide_eq_true_iff (fun _ => nofun) <|
    firstFail_orElse List.contains_iff_mem (fun _ => nofun) <|
    firstFail_orElse Option.isSome_iff_ne_none (fun _ => nofun) rfl

theorem State.counter_eq (here : s.group gid = some g) : s.counter gid = g.d := by rw [State.counter, here]

/-- Settles O30: the checks in their order, the counter by `settle_turn`, the hold by `settle_releases`. -/
theorem groupsOpenCloseAndSkip : Obligations.GroupsOpenCloseAndSkip := by
  refine ⟨fun tag gid first s takes quiet => ⟨?_, ?_⟩, fun tag gid p s takes quiet => ?_⟩
  · intro refused
    have refuses {c : Prop} {r : Result} (no : r ≠ .ok) (_ : c) (h : s.checkGroupOpen gid first = r) : refused r :=
      exec_refused rfl takes quiet (by rw [runRequest, runGroupOpen, h, State.judged_refused no])
    refine ite_of_eq (s.checkGroupOpen_eq gid first) (refuses nofun) fun _ h => ite_of_eq h (refuses nofun) fun _ h =>
      ite_of_eq h (refuses nofun) fun _ h => ite_of_eq h (refuses nofun) fun _ ok => ?_
    refine ⟨s.openGroup gid first, ?_, fun n => tableGet_tablePut_if gid n _ _, rfl⟩
    rw [exec_taken rfl takes, runRequest, runGroupOpen, State.judged_ok ok]
    exact congrArg _ (State.conclude_replied (s := s.openGroup gid first) quiet ..)
  · intro refused
    have refuses {c : Prop} {r : Result} (no : r ≠ .ok) (_ : c) (h : s.checkGroupClose gid = r) : refused r :=
      exec_refused rfl takes quiet (by rw [runRequest, runGroupClose, h, State.judgedData_refused no])
    refine ite_of_eq (s.checkGroupClose_eq gid) (refuses nofun) fun _ h => ite_of_eq h (refuses nofun) fun _ h => ?_
    split
    · rename_i gone
      exact refuses nofun gone (h.trans (if_pos gone))
    · rename_i g here
      rw [if_neg (by simp [here])] at h
      refine ite_of_iff (State.groupClosing_iff here).symm h (refuses nofun) fun _ ok => ?_
      have still : (s.closeGroup gid).quiet := by rw [State.closeGroup_eq]; exact quiet
      have gone : ((s.closeGroup gid).group gid).isNone = true ↔ g.held = [] := by
        rw [State.group_closeGroup here, if_pos rfl, Group.closed]
        split <;> simp [*]
      refine ⟨s.closeGroup gid, ?_, State.group_closeGroup here, s.closeGroup_eq gid⟩
      rw [exec_taken rfl takes, runRequest, runGroupClose, State.judgedData_ok ok, flagByte_eq]
      simp only [gone]
      exact congrArg _ (State.conclude_replied still ..)
  · intro refused
    have refuses {c : Prop} {r : Result} (no : r ≠ .ok) (_ : c) (h : s.checkGroupSkip gid p = r) : refused r :=
      exec_refused rfl takes quiet (by rw [runRequest, runGroupSkip, h, State.judgedData_refused no])
    refine ite_of_eq (s.checkGroupSkip_eq gid p) (refuses nofun) fun _ h => ite_of_eq h (refuses nofun) fun _ h => ?_
    split
    · rename_i gone
      exact refuses nofun gone (h.trans (State.checkSkip_none gone))
    · rename_i g here
      rw [State.checkSkip_some here] at h
      refine ite_of_eq h (refuses nofun) fun reached h => ite_of_eq h (refuses nofun) fun _ h =>
        ite_of_eq h (refuses nofun) fun free ok => ?_
      intro rising above
      refine ⟨g.settle p, s.settledAt gid p g, s.settle gid p, ?_, g.settle_status p, fun x => ?_, fun early => ?_,
        fun turn => Group.settle_turn turn.symm rising above, s.group_settledAt gid p g, rfl, State.settle_unreleased here,
        fun k raised held => ?_⟩
      · rw [exec_taken rfl takes, runRequest, runGroupSkip, State.judgedData_ok ok,
          State.counter_eq ((State.group_settle here p gid).trans (if_pos rfl))]
      · rw [Group.settle_held]
        by_cases own : x = p
        · subst own
          rw [not_not.mp free]
          exact tableGet_tableDrop x g.held
        · exact tableGet_tableDrop_other own g.held
      · rw [Group.settle_early early]
        exact ⟨rfl, fun x => mem_setPut_iff⟩
      · refine State.settle_releases here ?_ held
        rcases (Nat.le_of_not_lt reached).lt_or_eq with early | turn
        · exact absurd (by rw [Group.settle_early early]) raised
        · exact (Group.settle_turn turn rising above).1

end Sys2Proof.Machine
end

section
/-! SUPPORT. STATION_CLEAR (R140) and the PUT that waits for room (R109, R139). -/

namespace Sys2Proof.Machine

variable {s : State} {n k count : Nat} {t : Station}

/-! ## The PUT that waits for room (R109, R139) -/

/-- No PUT is sent where none waits or the station has no room. -/
theorem State.retryPut_stays (here : s.station n = some t)
    (blocked : s.roomWaiter n = none ∨ t.capacity ≤ t.occ + t.pend) : s.retryPut n = s := by
  rcases blocked with idle | full
  · exact State.retryPut_none idle
  · have noRoom : t.hasRoom = false := decide_eq_false (by omega)
    cases waiter : s.roomWaiter n with
    | none => exact State.retryPut_none waiter
    | some k =>
      rw [State.retryPut, here, waiter]
      exact if_neg (by rw [noRoom]; exact Bool.false_ne_true)

/-- The waiting PUT is sent where the station has room. -/
theorem State.retryPut_sends (here : s.station n = some t) (waiter : s.roomWaiter n = some k)
    (room : t.occ + t.pend < t.capacity) :
    s.retryPut n = (s.updCrane k (fun c => { c with roomWait := false })).goOn k := by
  rw [State.retryPut, here, waiter]
  exact if_pos (decide_eq_true room)

theorem State.unit_retryPut (s : State) (n : Nat) : (s.retryPut n).unit = s.unit := by
  unfold State.retryPut
  split
  · split <;> simp
  · rfl

/-! ## The checks of STATION_CLEAR (R140) -/

theorem State.checkStationClear_eq (s : State) (n count : Nat) : s.checkStationClear n count =
    if s.mode.run = .config then .wrongMode
    else if ¬ (1 ≤ n ∧ n ≤ 16 ∧ count ≤ 255) then .badField
    else if s.station n = none then .notConfigured
    else if s.isInfeed n = true then .badField else .ok := by
  have fields : (decide (1 ≤ n) && decide (n ≤ 16) && decide (count ≤ 255)) = true ↔ 1 ≤ n ∧ n ≤ 16 ∧ count ≤ 255 := by
    simp [and_assoc]
  rw [State.checkStationClear, ← Result.orElse_ok_right (firstFail _)]
  exact firstFail_orElse s.notConfig_false_iff (fun _ => nofun) <|
    firstFail_orElse (not_eq_true_iff_not fields) (fun _ => nofun) <|
    firstFail_orElse Option.isNone_iff_eq_none (fun _ => nofun) <|
    firstFail_orElse Iff.rfl (fun _ => nofun) rfl

theorem State.isInfeed_iff (here : s.station n = some t) : s.isInfeed n = true ↔ t.kind = .infeed := by
  rw [State.isInfeed, here]
  exact beq_iff_eq

/-! ## The effects of STATION_CLEAR (R140) -/

/-- A station from which a clear has taken its pallets. -/
def Station.lessOccupied (count : Nat) (t : Station) : Station := { t with occ := t.occ - count }

/-- The state with the pallets cleared, before the PUT that waits for room is tested. -/
def State.laneCleared (s : State) (n count : Nat) : State :=
  { s with
    stations := tableMod n (Station.lessOccupied count) s.stations
    passDue := s.passDue || decide (s.mode.run = .run) }

theorem State.station_laneCleared (here : s.station n = some t) (count m : Nat) :
    (s.laneCleared n count).station m = if m = n then some (t.lessOccupied count) else s.station m :=
  State.station_changed here (Station.lessOccupied count) m

theorem State.cleared_eq (here : s.station n = some t) (count : Nat) : s.cleared n count = min count t.occ := by
  rw [State.cleared, State.occupancyOf, here]

theorem State.clearStation_none (nothing : s.cleared n count = 0) : s.clearStation n count = s := if_pos nothing

theorem State.clearStation_some (pallets : s.cleared n count ≠ 0) :
    s.clearStation n count = (s.laneCleared n count).retryPut n := by
  rw [State.clearStation, if_neg pallets, State.trigger_eq]
  rfl

theorem State.stationData_eq (here : s.station n = some t) : s.stationData n = beBytes 1 t.occ ++ beBytes 1 t.pend := by
  rw [State.stationData, here]

/-- Settles O31: the checks in their order, the lane by `station_laneCleared`, the waiting PUT by `retryPut_sends`. -/
theorem stationClearEmptiesTheLane : Obligations.StationClearEmptiesTheLane := by
  intro tag n count s takes quiet refused
  have refuses {c : Prop} {r : Result} (no : r ≠ .ok) (_ : c) (h : s.checkStationClear n count = r) : refused r :=
    exec_refused rfl takes quiet (by rw [runRequest, runStationClear, h, State.judgedData_refused no])
  refine ite_of_eq (s.checkStationClear_eq n count) (refuses nofun) fun _ h => ite_of_eq h (refuses nofun) fun _ h => ?_
  split
  · rename_i gone
    exact refuses nofun gone (h.trans (if_pos gone))
  · rename_i t here
    rw [if_neg (by simp [here])] at h
    refine ite_of_iff (State.isInfeed_iff here).symm h (refuses nofun) fun _ ok => ?_
    have taken : exec (.stationClear tag n count) s = .next ((s.clearStation n count).conclude 0x2B tag .ok
        (beBytes 1 (min count t.occ) ++ (s.clearStation n count).stationData n)) := by
      rw [exec_taken rfl takes, runRequest, runStationClear, State.judgedData_ok ok, State.cleared_eq here]
    refine ⟨fun nothing => ?_, fun pallets => ?_⟩
    · have stays : t.occ - count = t.occ := by omega
      rw [State.clearStation_none ((State.cleared_eq here count).trans nothing), State.stationData_eq here,
        State.conclude_replied quiet] at taken
      rw [stays]
      exact taken
    · have lane := State.station_laneCleared here count
      have own := (lane n).trans (if_pos rfl)
      have unit := (s.laneCleared n count).unit_retryPut n
      rw [State.clearStation_some (by rw [State.cleared_eq here]; omega), State.stationData_eq
        ((State.station_congr (congrArg (·.1) unit) n).trans own)] at taken
      exact ⟨s.laneCleared n count, _, taken, lane, rfl, State.retryPut_stays own,
        fun k waiter room => State.retryPut_sends own waiter room, congrArg (·.1) unit, congrArg (·.2.2) unit⟩

end Sys2Proof.Machine
end

section
/-! SUPPORT. The sequence check and the holds (R150, R152), and the leaving of a grouped retrieve (R143, R145, R146,
R151). -/

namespace Sys2Proof.Machine

variable {s w : State} {k n : Nat} {j : Job} {p q : Group}

/-! ## The sequence check (R150) -/

/-- A MOVE with the approach mark ends with the sequence check of its job. -/
theorem State.legDone_approach {g : Leg} (job : s.legJob g = some j) (move : g.kind = .move) (approach : g.approach = true) :
    s.legDone k g = s.sequenceCheck k j := by
  rw [State.legDone, job]
  dsimp only
  rw [move]
  exact if_pos approach

/-- At the position's turn the PUT is let go. -/
theorem State.sequenceCheck_turn (here : s.group j.group = some p) (turn : j.position ≤ p.d) : s.sequenceCheck k j = s := by
  rw [State.sequenceCheck, here]
  exact if_neg (by omega)

/-- The hold of a crane before its job's turn. -/
def State.holdOf (s : State) (j : Job) : Hold :=
  { job := j.num, group := j.group, position := j.position, outfeed := j.station, timer := s.policy.holdTime * 1000 }

/-- Before the position's turn the crane is held. -/
theorem State.sequenceCheck_early (here : s.group j.group = some p) (early : p.d < j.position) :
    s.sequenceCheck k j = { s with
      holds := tablePut k (s.holdOf j) s.holds
      link := s.link.report (.sequenceHold k j.num j.group j.position j.station p.d) } := by
  rw [State.sequenceCheck, here]
  exact if_pos early

theorem State.sequenceCheck_cranes (s : State) (k : Nat) (j : Job) : (s.sequenceCheck k j).cranes = s.cranes := by
  unfold State.sequenceCheck
  split
  · rfl
  · split <;> rfl

/-! ## The expiry of a hold (R152) -/

theorem exec_holdExpiry_none (free : tableGet k s.holds = none) : exec (.holdExpiry k) s = .next s := by
  show execHoldExpiry k s = _
  rw [execHoldExpiry, free]

theorem exec_holdExpiry_some {h : Hold} (held : tableGet k s.holds = some h) :
    exec (.holdExpiry k) s = .next (s.expireHold k h).finish := by
  show execHoldExpiry k s = _
  rw [execHoldExpiry, held]

/-- The expiry of a BUSY crane's hold sends the rest of its plan. -/
theorem State.expireHold_eq (busy : (s.crane k).chan = .busy) (plan : (s.crane k).plan ≠ []) (h : Hold) :
    s.expireHold k h = State.continueCrane { s with
      holds := s.holds.filter (fun e => e.1 != k)
      pool := s.pool.map (fun i => if i.num = h.job then { i with holdReleased := true } else i) } k := by
  obtain ⟨g, rest, legs⟩ := List.exists_cons_of_ne_nil plan
  rw [State.continueCrane_plan (g := g) (rest := rest)]
  · rfl
  · exact busy
  · exact legs

/-! ## The leaving of a grouped retrieve (R47, R143, R145, R146) -/

/-- A group as a settled position leaves it: gone when it is CLOSING and no job holds a position of it (R145). -/
def Group.kept (g : Group) : Option Group := if g.status = .closing ∧ g.held = [] then none else some g

theorem State.removeClosed_eq (s : State) (gid : Nat) : s.removeClosed gid = { s with groups := (s.removeClosed gid).groups } := by
  unfold State.removeClosed
  split
  · rfl
  · split <;> rfl

theorem State.group_removeClosed {gid : Nat} {g : Group} (here : s.group gid = some g) (i : Nat) :
    (s.removeClosed gid).group i = if i = gid then g.kept else s.group i := by
  rw [State.removeClosed, here, Group.kept]
  dsimp only
  split
  · exact tableGet_tableDrop_if gid i _
  · split
    · rename_i own
      rw [own, here]
    · rfl

theorem State.reportMaybe_eq (s : State) (r : Option Report) : s.reportMaybe r = { s with link := (s.reportMaybe r).link } := by
  cases r <;> rfl

theorem State.leaveCore_grouped (found : s.job n = some j) (kind : j.kind = .retrieve) (group : j.group ≠ 0)
    (src : j.srcRes = none) (dst : j.dstRes = none) (o : JobEnd) : s.leaveCore n o =
      (((((s.settle j.group j.position).freeJob n).unlink n).removeClosed j.group).reportMaybe
        (j.endReport o (s.outOfSequence j))).trigger := by
  have grouped : j.grouped = true := (Job.grouped_of_retrieve kind).mpr group
  unfold State.leaveCore
  rw [found]
  dsimp only
  rw [State.freeSource_none found src, State.freeDest_none found dst, if_pos grouped, if_pos grouped,
    if_neg (by simp [kind])]

/-- The group table behind the leaving, `q` being the group with the position settled. -/
theorem State.group_leave (found : s.job n = some j) (kind : j.kind = .retrieve) (group : j.group ≠ 0)
    (src : j.srcRes = none) (dst : j.dstRes = none) (settled : s.settle j.group j.position = w)
    (here : w.group j.group = some q) (o : JobEnd) (i : Nat) :
    (s.leave n o).group i = if i = j.group then q.kept else w.group i := by
  rw [State.leave_host found (by rw [kind]; rfl), State.leaveCore_grouped found kind group src dst, settled,
    State.group_congr (State.trigger_groups _), State.reportMaybe_eq]
  exact State.group_removeClosed (s := (w.freeJob n).unlink n) here i

/-- The rest of the state behind the leaving. -/
theorem State.leave_grouped (found : s.job n = some j) (kind : j.kind = .retrieve) (group : j.group ≠ 0)
    (src : j.srcRes = none) (dst : j.dstRes = none) (settled : s.settle j.group j.position = w) (o : JobEnd) :
    s.leave n o = { w with
      groups := (s.leave n o).groups
      pool := ((w.freeJob n).unlink n).pool
      passDue := w.passDue || decide (s.mode.run = .run)
      link := match j.endReport o (s.outOfSequence j) with
        | some r => w.link.report r
        | none => w.link } := by
  have run : s.mode.run = w.mode.run := by rw [← settled, ((Moves.refl s).settle j.group j.position).run]
  rw [State.leave_host found (by rw [kind]; rfl), State.leaveCore_grouped found kind group src dst, settled,
    State.trigger_eq, State.removeClosed_eq, run]
  cases j.endReport o (s.outOfSequence j) <;> rfl

theorem State.outOfSequence_iff (kind : j.kind = .retrieve) (group : j.group ≠ 0) (here : s.group j.group = some p) :
    s.outOfSequence j = true ↔ j.holdReleased = true ∧ p.d < j.position := by
  rw [State.outOfSequence, (Job.grouped_of_retrieve kind).mpr group, here]
  simp

/-- Settles O45: the sequence check, the expiry of a hold, and the two leavings by `leave_grouped`. -/
theorem holdKeepsTheSequence : Obligations.HoldKeepsTheSequence := by
  refine ⟨fun k id x y load s g rest n j p quiet configured single sent current busy plan move approach job found here => ?_,
    fun k s quiet => ⟨exec_holdExpiry_none, fun h held busy plan => ?_⟩,
    fun n j p late s found kind group here early released src dst => ?_,
    fun n j p o s found kind group here turn rising above src dst => ?_⟩
  · have number := State.crane_number (configured_iff.mpr configured)
    obtain rfl := State.num_of_job found
    have ends := (exec_done configured id x y load).trans (congrArg Host.Outcome.next (State.onDone_current sent current
      (Crane.outstandingLeg_busy (current ▸ sent) busy plan) load))
    obtain ⟨cs, whole⟩ : ∃ cs, s.updCrane k (Crane.endedAt { x := x, y := y } rest) = { s with cranes := cs } :=
      ⟨_, State.updCrane_eq s k _⟩
    have cranes : cs = (s.updCrane k (Crane.endedAt { x := x, y := y } rest)).cranes := by rw [whole]
    rw [State.legEnded_busy single busy plan, whole,
      State.legDone_approach (State.legJob_eq (s := { s with cranes := cs }) job found) move approach] at ends
    have records := (State.sequenceCheck_cranes { s with cranes := cs } k j).trans cranes
    refine ⟨_, ends, State.crane_of_cranes records number, State.crane_of_cranes_other records, fun turn => ?_,
      fun early => ?_⟩
    · rw [State.sequenceCheck_turn (s := { s with cranes := cs }) here turn]
    · rw [State.sequenceCheck_early (s := { s with cranes := cs }) here early]
      exact ⟨fun i => tableGet_tablePut_if k i _ _, rfl⟩
  · rw [exec_holdExpiry_some held, State.expireHold_eq busy plan]
  · have settled : s.settle j.group j.position = s.settledAt j.group j.position p :=
      State.settle_unreleased here (.inl (by rw [Group.settle_early early]))
    have table := State.group_leave found kind group src dst settled
      ((s.group_settledAt j.group j.position p j.group).trans (if_pos rfl)) (.done late)
    have left := State.leave_grouped found kind group src dst settled (.done late)
    have out := (State.outOfSequence_iff kind group here).mpr ⟨released, early⟩
    obtain rfl := State.num_of_job found
    refine ⟨_, rfl, fun i => ?_, left.trans ?_⟩
    · rw [table, Group.kept, Group.settle_early early, s.group_settledAt]
      split <;> rfl
    · rw [out]
      simp only [State.settledAt, Bool.or_assoc, Bool.or_self]
      rfl
  · obtain ⟨raised, fresh, between, rest⟩ := Group.settle_turn turn rising above
    have groups := State.group_settle here j.position
    have table := State.group_leave found kind group src dst rfl ((groups j.group).trans (if_pos rfl)) o
    have left := State.leave_grouped found kind group src dst rfl o
    have out : s.outOfSequence j = false :=
      Bool.eq_false_iff.mpr fun late => by
        have := ((State.outOfSequence_iff kind group here).mp late).2
        omega
    obtain rfl := State.num_of_job found
    refine ⟨p.settle j.position, s.settledAt j.group j.position p, s.settle j.group j.position, _, rfl,
      p.settle_status j.position, p.settle_held j.position, raised, fresh, between, rest,
      s.group_settledAt j.group j.position p, rfl, fun free => State.settle_unreleased here (.inr free),
      fun k h first => State.settle_releases here raised (congrArg (Option.map Prod.fst) first), fun i => ?_,
      left.trans ?_⟩
    · rw [table, Group.kept, groups]
      split <;> rfl
    · rw [out]
      cases o <;> simp only [Job.endReport, kind] <;> rfl

end Sys2Proof.Machine
end

section
/-! SUPPORT. SET_POLICY (R64, R147, R169) and QUERY_POLICY (R170). -/

namespace Sys2Proof.Machine

variable {s : State}

/-! ## The values of SET_POLICY (R169) -/

theorem pairingOf_code (p : Pairing) : pairingOf p.code = some p := by
  cases p <;> rfl

theorem pairingOf_isSome_iff (n : Nat) : (pairingOf n).isSome = true ↔ n ≤ 2 := by
  rcases n with _ | _ | _ | n <;> simp [pairingOf]

theorem policyOk_iff (q : PolicyFields) : policyOk q = true ↔
    q.offset0 ≤ q.offset1 ∧ q.offset1 ≤ q.offset2 ∧ q.offset2 ≤ q.offset3 ∧ q.offset3 ≤ 3600000 ∧ q.pairing ≤ 2 ∧
      5000 ≤ q.marginTens * 10 ∧ q.marginTens * 10 ≤ 600000 ∧ q.parkHold ≤ 600 := by
  simp only [policyOk, Bool.and_eq_true, decide_eq_true_eq, pairingOf_isSome_iff]
  omega

/-- The policy in its adjusted form, read off its values. -/
theorem policyOf_eq {q : PolicyFields} {p : Policy} (offset0 : p.offset0 = q.offset0) (offset1 : p.offset1 = q.offset1)
    (offset2 : p.offset2 = q.offset2) (offset3 : p.offset3 = q.offset3) (aging : p.aging = max 1 q.aging)
    (pairing : p.pairing.code = q.pairing) (minSaving : p.minSaving = min 60000 q.minSaving)
    (window : p.window = min 8 (max 1 q.window)) (holdTime : p.holdTime = min 600 (max 5 q.holdTime))
    (margin : p.margin = q.marginTens * 10) (parkHold : p.parkHold = q.parkHold) : policyOf q = p := by
  cases p
  simp only [policyOf, windowOf, Policy.mk.injEq, ← pairing, pairingOf_code, Option.getD_some]
  simp_all

/-! ## A lower window (R147) -/

theorem State.beyondWindow_iff (s : State) (w : Nat) : s.beyondWindow w = true ↔
    ∃ e ∈ s.groups, ∃ h ∈ e.2.held, ∃ j, s.job h.2 = some j ∧ e.2.d + w ≤ h.1 ∧ j.dispatched = true := by
  have held (d : Nat) (h : Nat × Nat) : (decide (d + w ≤ h.1) && match s.job h.2 with
      | some j => j.dispatched
      | none => false) = true ↔ ∃ j, s.job h.2 = some j ∧ d + w ≤ h.1 ∧ j.dispatched = true := by
    cases s.job h.2 <;> simp
  simp only [State.beyondWindow, List.any_eq_true]
  exact exists_congr fun e => and_congr_right fun _ => exists_congr fun h => and_congr_right fun _ => held e.2.d h

/-! ## The checks and the effects (R64, R169) -/

theorem State.checkPolicy_eq (s : State) (q : PolicyFields) : s.checkPolicy q =
    if ¬ (s.mode.run = .config ∨ s.mode.run = .hold) then .wrongMode
    else if ¬ policyOk q = true then .badField
    else if windowOf q.window < s.policy.window ∧ s.beyondWindow (windowOf q.window) = true then .inProgress else .ok := by
  rw [State.checkPolicy, ← Result.orElse_ok_right (firstFail _)]
  exact firstFail_orElse (not_eq_true_iff_not s.inConfigHold_iff) (fun _ => nofun) <|
    firstFail_orElse (not_eq_true_iff_not Iff.rfl) (fun _ => nofun) <|
    firstFail_orElse (by simp) (fun _ => nofun) rfl

/-- The jobs that a fallen aging threshold promotes (R64). -/
theorem State.definePolicy_eq (s : State) (p : Policy) : s.definePolicy p = { s with
    policy := p
    pool := s.pool.map (fun j =>
      if p.aging < s.policy.aging ∧ p.aging ≤ j.bypass then { j with cls := j.cls - 1, bypass := 0 } else j) } := by
  unfold State.definePolicy State.promoteAt
  split
  · rename_i fallen
    simp only [fallen, true_and]
    rfl
  · rename_i kept
    simp [kept]

/-- SET_POLICY taken: the policy is defined, and the reply carries it. -/
theorem exec_setPolicy (takes : s.takes) (quiet : s.quiet) {q : PolicyFields} (ok : s.checkPolicy q = .ok) (tag : Nat) :
    exec (.setPolicy tag q) s =
      .next ((s.definePolicy (policyOf q)).replied 0x93 tag .ok (policyBytes (policyOf q))) := by
  have policy : (s.definePolicy (policyOf q)).policy = policyOf q := by rw [State.definePolicy_eq]
  rw [exec_taken rfl takes, runRequest, runSetPolicy, State.judgedData_ok ok, policy, State.conclude_replied]
  rw [State.definePolicy_eq]
  exact quiet

/-- Settles O12: both replies are the policy block of the policy in force. -/
theorem queryPolicyShowsThePolicy : Obligations.QueryPolicyShowsThePolicy := by
  intro tag s takes quiet form
  refine ⟨?_, fun q ok => ⟨_, exec_setPolicy takes quiet ok tag, ?_⟩⟩
  · rw [exec_taken rfl takes, runRequest, runQueryPolicy, State.conclude_replied quiet]
    rfl
  · rw [State.definePolicy_eq]
    rfl

/-- Settles O16: the order of the checks by `checkPolicy_eq`, the effects by `definePolicy_eq`. -/
theorem setPolicyAdjustsAndPromotes : Obligations.SetPolicyAdjustsAndPromotes := by
  intro tag q s takes quiet
  have refuses {r : Result} (no : r ≠ .ok) (h : s.checkPolicy q = r) :
      exec (.setPolicy tag q) s = .next (s.replied 0x93 tag r []) :=
    exec_refused rfl takes quiet (by rw [runRequest, runSetPolicy, h, State.judgedData_refused no])
  have check := s.checkPolicy_eq q
  refine ⟨fun run => refuses nofun (check.trans (if_pos ?_)), fun run => ?_⟩
  · rcases run with run | run <;> simp [run]
  · rw [if_neg (not_not.mpr run)] at check
    refine ite_of_iff (c := ¬ ¬ policyOk q = true) ((policyOk_iff q).symm.trans not_not.symm)
      (check.trans (ite_not ..).symm) (fun _ fits =>
        ⟨fun falls beyond => ?_, fun stays p h0 h1 h2 h3 ha hp hs hw ht hm hk => ?_⟩)
      fun _ bad => refuses nofun bad
    · exact refuses nofun (fits.trans (if_pos ⟨falls, (s.beyondWindow_iff _).mpr beyond⟩))
    · have ok : s.checkPolicy q = .ok := fits.trans <| if_neg fun ⟨falls, beyond⟩ => by
        obtain ⟨e, he, h, hh, j, job, far, dispatched⟩ := (s.beyondWindow_iff _).mp beyond
        rcases stays with wide | none
        · exact absurd falls (Nat.not_lt.mpr wide)
        · exact Bool.noConfusion ((none e he h hh j job far).symm.trans dispatched)
      obtain rfl : policyOf q = p := policyOf_eq h0 h1 h2 h3 ha hp hs hw ht hm hk
      rw [exec_setPolicy takes quiet ok, State.definePolicy_eq]

end Sys2Proof.Machine
end

section
/-! SUPPORT. START (R162) and its tests of a twin aisle (R124). -/

namespace Sys2Proof.Machine

variable {s : State} {n i j k : Nat} {a : Aisle}

/-! ## The first entry of a rising list -/

theorem findSome?_first {α β : Type} {key : α → Nat} {l : List α} {f : α → Option β} {x : α} {y : β}
    (rising : (l.map key).Pairwise (· < ·)) (listed : x ∈ l) (here : f x = some y)
    (before : ∀ e ∈ l, key e < key x → f e = none) : l.findSome? f = some y := by
  induction l with
  | nil => cases listed
  | cons e l ih =>
    rw [List.map_cons, List.pairwise_cons] at rising
    obtain ⟨first, rest⟩ := rising
    rcases List.mem_cons.mp listed with rfl | later
    · rw [List.findSome?_cons, here]
    · rw [List.findSome?_cons, before e List.mem_cons_self (first _ (List.mem_map_of_mem later))]
      exact ih rest later fun d hd => before d (List.mem_cons_of_mem _ hd)

theorem find?_first {α : Type} {key : α → Nat} {l : List α} {p : α → Bool} {x : α}
    (rising : (l.map key).Pairwise (· < ·)) (listed : x ∈ l) (here : p x = true)
    (before : ∀ e ∈ l, key e < key x → p e = false) : l.find? p = some x := by
  rw [List.find?_eq_findSome?_guard]
  exact findSome?_first rising listed (Option.guard_eq_some_iff.mpr ⟨rfl, here⟩) fun e he lower =>
    Option.guard_eq_none_iff.mpr (before e he lower)

theorem mem_craneNumbers : k ∈ craneNumbers ↔ 1 ≤ k ∧ k ≤ 12 := by
  simp only [craneNumbers, List.mem_cons, List.not_mem_nil, or_false]
  omega

/-! ## Roles and aisles (R97, R162) -/

/-- The crane is not configured, or its role fits its aisle (R162 code 2). -/
def State.fits (s : State) (k : Nat) : Prop :=
  ∀ g, (s.crane k).cfg = some g → ∃ a, s.aisle g.aisle = some a ∧ (a.twin = true ↔ g.role ≠ .single)

theorem roleFits_iff {r : Role} : roleFits a r = true ↔ (a.twin = true ↔ r ≠ .single) := by
  unfold roleFits
  cases a.twin <;> cases r <;> simp

/-- The test that `roleMismatch` makes of one crane. -/
theorem State.misfit_iff (s : State) (k : Nat) : (match (s.crane k).cfg with
    | none => false
    | some g => match s.aisle g.aisle with
      | none => true
      | some a => !roleFits a g.role) = false ↔ s.fits k := by
  unfold State.fits
  cases (s.crane k).cfg with
  | none => simp
  | some g =>
    simp only [Option.some.injEq, forall_eq']
    cases s.aisle g.aisle with
    | none => simp
    | some a => simp [roleFits_iff]

theorem State.fits_outside (out : ¬ (1 ≤ k ∧ k ≤ 12)) : s.fits k := fun g cfg => by
  rw [s.crane_outside out] at cfg
  cases cfg

theorem State.roleMismatch_none : s.roleMismatch = none ↔ ∀ k, s.fits k := by
  rw [State.roleMismatch, List.find?_eq_none]
  constructor
  · intro none k
    by_cases number : 1 ≤ k ∧ k ≤ 12
    · exact (s.misfit_iff k).mp (Bool.eq_false_iff.mpr (none k (mem_craneNumbers.mpr number)))
    · exact State.fits_outside number
  · exact fun all k _ => Bool.eq_false_iff.mp ((s.misfit_iff k).mpr (all k))

/-- The first crane whose role does not fit its aisle. -/
theorem State.roleMismatch_first (misfit : ¬ s.fits k) (before : ∀ j, j < k → s.fits j) : s.roleMismatch = some k := by
  have number : 1 ≤ k ∧ k ≤ 12 := by
    by_contra out
    exact misfit (State.fits_outside out)
  refine find?_first (key := id) (by decide) (mem_craneNumbers.mpr number) ?_ fun j _ lower =>
    (s.misfit_iff j).mpr (before j lower)
  exact Bool.not_eq_false _ ▸ mt (s.misfit_iff k).mp misfit

theorem State.craneIn_none {r : Role} : s.craneIn n r = none ↔ ∀ k, (s.crane k).hasRole n r = false := by
  rw [State.craneIn, List.find?_eq_none]
  refine ⟨fun none k => Bool.eq_false_iff.mpr fun held => none k (State.listed_of_hasRole held) held, fun none k _ => ?_⟩
  rw [none k]
  exact Bool.false_ne_true

theorem State.craneIn_some {r : Role} (found : s.craneIn n r = some k) : (s.crane k).hasRole n r = true := by
  have first : craneNumbers.find? (fun j => (s.crane j).hasRole n r) = some k := found
  exact List.find?_some (p := fun j => (s.crane j).hasRole n r) first

theorem State.craneIn_eq (unique : s.rolesUnique) {r : Role} (held : (s.crane k).hasRole n r = true) :
    s.craneIn n r = some k := by
  cases found : s.craneIn n r with
  | none => exact absurd held (Bool.eq_false_iff.mp (State.craneIn_none.mp found k))
  | some j => rw [unique j k n r (State.craneIn_some found) held]

/-- A single-crane aisle has its crane (R162 code 3). -/
def State.served (s : State) (n : Nat) (a : Aisle) : Prop :=
  a.twin = false → ∃ k, (s.crane k).hasRole n .single = true

theorem State.unserved_iff (s : State) (n : Nat) (a : Aisle) :
    (!a.twin && (s.craneIn n .single).isNone) = false ↔ s.served n a := by
  unfold State.served
  rw [← Bool.not_eq_true, Bool.and_eq_true, Option.isNone_iff_eq_none, State.craneIn_none]
  simp

theorem State.craneless_none : s.craneless = none ↔ ∀ e ∈ s.aisles, s.served e.1 e.2 := by
  simp only [State.craneless, Option.map_eq_none_iff, List.find?_eq_none, Bool.not_eq_true, State.unserved_iff]

theorem State.craneless_first (rising : tableRising s.aisles) (listed : (n, a) ∈ s.aisles) (unserved : ¬ s.served n a)
    (before : ∀ e ∈ s.aisles, e.1 < n → s.served e.1 e.2) : s.craneless = some n := by
  have first : s.aisles.find? (fun e => !e.2.twin && (s.craneIn e.1 .single).isNone) = some (n, a) :=
    find?_first rising listed (Bool.not_eq_false _ ▸ mt (s.unserved_iff n a).mp unserved) fun e he lower =>
      (s.unserved_iff e.1 e.2).mpr (before e he lower)
  rw [State.craneless, first]
  rfl

/-! ## The tests of a twin aisle (R124) -/

/-- The end positions of cranes `i` and `j` keep the two gaps (R162 code 5). -/
def State.endsClear (s : State) (i j : Nat) : Prop :=
  (s.crane i).endPoint.x + (s.crane i).gap + (s.crane j).gap ≤ (s.crane j).endPoint.x

/-- What crane A may be sent to keeps the two gaps from crane B's end position (R162 code 6). -/
def State.reachClearA (s : State) (n : Nat) (a : Aisle) (i j : Nat) : Prop :=
  (∀ l ∈ a.allLocs n, s.inReach i l = true →
    (a.point l).x + (s.crane i).gap + (s.crane j).gap ≤ (s.crane j).endPoint.x) ∧
  (∀ e ∈ s.stations, e.2.aisle = n → e.2.railEnd = .front →
    e.2.point.x + (s.crane i).gap + (s.crane j).gap ≤ (s.crane j).endPoint.x)

/-- What crane B may be sent to keeps the two gaps from crane A's end position (R162 code 7). -/
def State.reachClearB (s : State) (n : Nat) (a : Aisle) (i j : Nat) : Prop :=
  (∀ l ∈ a.allLocs n, s.inReach j l = true →
    (s.crane i).endPoint.x + (s.crane i).gap + (s.crane j).gap ≤ (a.point l).x) ∧
  (∀ e ∈ s.stations, e.2.aisle = n → e.2.railEnd = .rear →
    (s.crane i).endPoint.x + (s.crane i).gap + (s.crane j).gap ≤ e.2.point.x)

/-- A twin aisle has its two cranes, and they keep clear of each other. -/
def State.paired (s : State) (n : Nat) (a : Aisle) : Prop := a.twin = true →
  ∃ i j, (s.crane i).hasRole n .a = true ∧ (s.crane j).hasRole n .b = true ∧ s.endsClear i j ∧
    s.reachClearA n a i j ∧ s.reachClearB n a i j

theorem State.reachedXs_all (s : State) (k n : Nat) (a : Aisle) (e : RailEnd) (p : Nat → Bool) :
    (s.reachedXs k n a e).all p = true ↔ (∀ l ∈ a.allLocs n, s.inReach k l = true → p (a.point l).x = true) ∧
      ∀ t ∈ s.stations, t.2.aisle = n → t.2.railEnd = e → p t.2.point.x = true := by
  simp only [State.reachedXs, List.all_append, List.all_map, List.all_filter, Bool.and_eq_true, List.all_eq_true,
    Function.comp_apply, Bool.or_eq_true, Bool.not_eq_true', ← Bool.not_eq_true, beq_iff_eq, ← imp_iff_not_or, and_imp]

theorem State.reachClearA_iff : (s.reachedXs i n a .front).all
    (fun x => decide (x + s.gaps i j ≤ (s.crane j).endPoint.x)) = true ↔ s.reachClearA n a i j := by
  simp only [State.reachedXs_all, decide_eq_true_eq]
  simp only [State.reachClearA, State.gaps, Nat.add_assoc]

theorem State.reachClearB_iff : (s.reachedXs j n a .rear).all
    (fun x => decide ((s.crane i).endPoint.x + s.gaps i j ≤ x)) = true ↔ s.reachClearB n a i j := by
  simp only [State.reachedXs_all, decide_eq_true_eq]
  simp only [State.reachClearB, State.gaps, Nat.add_assoc]

theorem State.endsClear_iff :
    decide ((s.crane i).endPoint.x + s.gaps i j ≤ (s.crane j).endPoint.x) = true ↔ s.endsClear i j := by
  rw [decide_eq_true_eq]
  simp only [State.endsClear, State.gaps, Nat.add_assoc]

theorem State.twinFault_lacks (lacks : s.craneIn n .a = none ∨ s.craneIn n .b = none) : s.twinFault n a = some 4 := by
  unfold State.twinFault
  rcases lacks with none | none
  · rw [none]
  · rw [none]
    cases s.craneIn n .a <;> rfl

theorem State.twinFault_eq [Decidable (s.endsClear i j)] [Decidable (s.reachClearA n a i j)]
    [Decidable (s.reachClearB n a i j)] (first : s.craneIn n .a = some i) (second : s.craneIn n .b = some j) :
    s.twinFault n a = if ¬ s.endsClear i j then some 5 else if ¬ s.reachClearA n a i j then some 6
      else if ¬ s.reachClearB n a i j then some 7 else none := by
  unfold State.twinFault
  rw [first, second]
  simp only [Bool.not_eq_true', ← Bool.not_eq_true, State.endsClear_iff, State.reachClearA_iff, State.reachClearB_iff]

/-- What a twin aisle's tests make of its aisle's entry. -/
def State.aisleFault (s : State) (e : Nat × Aisle) : Option (Nat × Nat) :=
  if e.2.twin then (s.twinFault e.1 e.2).map (fun d => (d, e.1)) else none

theorem State.aisleFault_none (unique : s.rolesUnique) (e : Nat × Aisle) :
    s.aisleFault e = none ↔ s.paired e.1 e.2 := by
  classical
  unfold State.aisleFault State.paired
  by_cases twin : e.2.twin = true
  · rw [if_pos twin, Option.map_eq_none_iff]
    constructor
    · intro none _
      cases first : s.craneIn e.1 .a with
      | none => rw [State.twinFault_lacks (.inl first)] at none; cases none
      | some i =>
        cases second : s.craneIn e.1 .b with
        | none => rw [State.twinFault_lacks (.inr second)] at none; cases none
        | some j =>
          rw [State.twinFault_eq first second] at none
          refine ⟨i, j, State.craneIn_some first, State.craneIn_some second, ?_⟩
          by_contra unclear
          split_ifs at none with ends reachA reachB
          exact unclear ⟨ends, reachA, reachB⟩
    · intro pair
      obtain ⟨i, j, holdsA, holdsB, ends, reachA, reachB⟩ := pair twin
      rw [State.twinFault_eq (State.craneIn_eq unique holdsA) (State.craneIn_eq unique holdsB), if_neg (not_not.mpr ends),
        if_neg (not_not.mpr reachA), if_neg (not_not.mpr reachB)]
  · rw [if_neg twin]
    exact ⟨fun _ is => absurd is twin, fun _ => rfl⟩

/-! ## The configuration checks in their order (R162) -/

theorem State.configFault_empty (empty : s.aisles = []) : s.configFault = some (1, 0) := by
  rw [State.configFault, empty]
  rfl

theorem State.configFault_role (defined : s.aisles ≠ []) (role : s.roleMismatch = some k) :
    s.configFault = some (2, k) := by
  rw [State.configFault, if_neg (by simpa using defined), role]

theorem State.configFault_crane (defined : s.aisles ≠ []) (roles : ∀ k, s.fits k) (crane : s.craneless = some n) :
    s.configFault = some (3, n) := by
  rw [State.configFault, if_neg (by simpa using defined), State.roleMismatch_none.mpr roles, crane]

theorem State.configFault_twins (defined : s.aisles ≠ []) (roles : ∀ k, s.fits k)
    (cranes : ∀ e ∈ s.aisles, s.served e.1 e.2) : s.configFault = s.aisles.findSome? s.aisleFault := by
  rw [State.configFault, if_neg (by simpa using defined), State.roleMismatch_none.mpr roles,
    State.craneless_none.mpr cranes]
  rfl

/-- The first twin aisle that fails a test of R124. -/
theorem State.configFault_first (sound : s.aislesSound) (unique : s.rolesUnique) (roles : ∀ k, s.fits k)
    (cranes : ∀ e ∈ s.aisles, s.served e.1 e.2) (listed : (n, a) ∈ s.aisles) (twin : a.twin = true)
    (before : ∀ e ∈ s.aisles, e.1 < n → s.paired e.1 e.2) {d : Nat} (fault : s.twinFault n a = some d) :
    s.configFault = some (d, n) := by
  rw [State.configFault_twins (List.ne_nil_of_mem listed) roles cranes]
  refine findSome?_first sound.1 listed ?_ fun e he lower => (State.aisleFault_none unique e).mpr (before e he lower)
  rw [State.aisleFault, if_pos twin, fault]
  rfl

theorem State.configFault_none (unique : s.rolesUnique) : s.configFault = none ↔ s.aisles ≠ [] ∧ (∀ k, s.fits k) ∧
    (∀ e ∈ s.aisles, s.served e.1 e.2) ∧ ∀ e ∈ s.aisles, s.paired e.1 e.2 := by
  have pairs : s.aisles.findSome? s.aisleFault = none ↔ ∀ e ∈ s.aisles, s.paired e.1 e.2 := by
    simp only [List.findSome?_eq_none_iff, State.aisleFault_none unique]
  constructor
  · intro sound
    have defined : s.aisles ≠ [] := fun empty => by
      rw [State.configFault_empty empty] at sound
      cases sound
    cases role : s.roleMismatch with
    | some k => rw [State.configFault_role defined role] at sound; cases sound
    | none =>
      have roles := State.roleMismatch_none.mp role
      cases crane : s.craneless with
      | some n => rw [State.configFault_crane defined roles crane] at sound; cases sound
      | none =>
        have cranes := State.craneless_none.mp crane
        rw [State.configFault_twins defined roles cranes, pairs] at sound
        exact ⟨defined, roles, cranes, sound⟩
  · rintro ⟨defined, roles, cranes, paired⟩
    exact (State.configFault_twins defined roles cranes).trans (pairs.mpr paired)

/-- Detail code 1 is that of no aisle alone. -/
theorem State.configFault_one : s.configFault = some (1, 0) ↔ s.aisles = [] := by
  refine ⟨fun one => ?_, State.configFault_empty⟩
  by_contra defined
  cases role : s.roleMismatch with
  | some k => rw [State.configFault_role defined role] at one; cases one
  | none =>
    have roles := State.roleMismatch_none.mp role
    cases crane : s.craneless with
    | some n => rw [State.configFault_crane defined roles crane] at one; cases one
    | none =>
      rw [State.configFault_twins defined roles (State.craneless_none.mp crane)] at one
      obtain ⟨e, listed, fault⟩ := List.exists_of_findSome?_eq_some one
      unfold State.aisleFault State.twinFault at fault
      split_ifs at fault
      split at fault
      · dsimp only at fault
        split_ifs at fault <;> cases fault
      · cases fault

/-! ## START (R162) -/

theorem State.enterRun_eq (s : State) : s.enterRun = { s with
    mode := { s.mode with run := .run, active := s.aisles.map Prod.fst }
    passDue := true
    link := s.link.report (.modeChanged .start .run s.mode.speed (s.aisles.map Prod.fst) s.mode.stop) } := by
  rw [State.enterRun, State.trigger_eq]
  simp only [decide_true, Bool.or_true]
  rfl

theorem runStart_config (config : s.mode.run = .config) (tag : Nat) : runStart tag s =
    match s.configFault with
    | some (detail, n) => s.conclude 0x16 tag .configError (beBytes 1 detail ++ beBytes 1 n)
    | none => if s.mode.stop then s.conclude 0x16 tag .stopActive [] else s.enterRun.conclude 0x16 tag .ok [] :=
  if_neg (by simp [State.inConfig, config])

/-- Settles O18: the order of the checks by the lemmas of `configFault`, the entry into RUN by `enterRun_eq`. -/
theorem startChecksThenRuns : Obligations.StartChecksThenRuns := by
  classical
  intro tag s takes quiet unique sound fits served ends reachA reachB paired
  refine ⟨fun run => ?_, fun detail n config fault => ?_, fun config none stop => ?_, fun config none stop => ?_,
    State.configFault_one, State.configFault_none unique, fun k defined misfit before => ?_,
    fun n a roles listed unserved before => ?_, fun n a roles cranes listed twin before => ⟨fun lacks => ?_, ?_⟩⟩
  · exact exec_refused rfl takes quiet (if_pos (by simp [State.inConfig, run]))
  · rw [exec_taken rfl takes, runRequest, runStart_config config, fault]
    exact congrArg _ (State.conclude_replied quiet ..)
  · rw [exec_taken rfl takes, runRequest, runStart_config config, none, stop]
    exact congrArg _ (State.conclude_replied quiet ..)
  · rw [exec_taken rfl takes, runRequest, runStart_config config, none, stop, if_neg Bool.false_ne_true,
      State.enterRun_eq, stop]
    refine congrArg _ (State.conclude_quiet ?_ ..)
    exact quiet
  · exact State.configFault_role defined (State.roleMismatch_first misfit before)
  · exact State.configFault_crane (List.ne_nil_of_mem listed) roles
      (State.craneless_first sound.1 listed unserved before)
  · have lost := lacks.imp State.craneIn_none.mpr State.craneIn_none.mpr
    exact State.configFault_first sound unique roles cranes listed twin before (State.twinFault_lacks lost)
  · intro i j holdsA holdsB
    have fault := State.twinFault_eq (a := a) (State.craneIn_eq unique holdsA) (State.craneIn_eq unique holdsB)
    have first {d : Nat} := State.configFault_first (d := d) sound unique roles cranes listed twin before
    refine ⟨fun unclear => first (fault.trans (if_pos unclear)), fun clear unclear => ?_, fun clear clearA unclear => ?_⟩
    · rw [if_neg (c := ¬ s.endsClear i j) (not_not.mpr clear)] at fault
      exact first (fault.trans (if_pos unclear))
    · rw [if_neg (c := ¬ s.endsClear i j) (not_not.mpr clear),
        if_neg (c := ¬ s.reachClearA n a i j) (not_not.mpr clearA)] at fault
      exact first (fault.trans (if_pos unclear))

end Sys2Proof.Machine
end

section
/-! SUPPORT. SET_MODE (R57, R59, R68, R71, R159). -/

namespace Sys2Proof.Machine

variable {s : State} {k n : Nat} {v : SpeedClass} {r : RunState}

/-! ## The speed class handed to the cranes (R57, R59) -/

/-- A crane's record behind SET_MODE's speed class: pending for a BUSY crane, else applied with all that pends. -/
def Crane.classed (v : SpeedClass) (c : Crane) : Crane :=
  if c.cfg = none then c
  else if c.chan = .busy then { c with pendSpeed := if c.speed = v then none else some v }
  else { c with
    speed := v, pendSpeed := none
    figures := (if c.pendFigures = none then c.figures else c.pendFigures), pendFigures := none
    reach := (if c.pendReach = none then c.reach else c.pendReach), pendReach := none }

/-- Values are applied to the crane as the speed class is handed to it, which is a trigger (R59). -/
def Crane.takesClass (v : SpeedClass) (c : Crane) : Bool := c.configured && c.chan != .busy && (c.staged v).hasPending

theorem Crane.withPending_staged (v : SpeedClass) (c : Crane) : (c.staged v).withPending = { c with
    speed := v, pendSpeed := none
    figures := (if c.pendFigures = none then c.figures else c.pendFigures), pendFigures := none
    reach := (if c.pendReach = none then c.reach else c.pendReach), pendReach := none } := by
  rw [Crane.withPending_eq, Crane.staged]
  by_cases same : c.speed = v <;> simp [same]

theorem Crane.takesClass_iff (v : SpeedClass) (c : Crane) : c.takesClass v = true ↔
    c.cfg ≠ none ∧ c.chan ≠ .busy ∧ (c.speed ≠ v ∨ c.pendFigures ≠ none ∨ c.pendReach ≠ none) := by
  have pending : (c.staged v).hasPending = true ↔ c.speed ≠ v ∨ c.pendFigures ≠ none ∨ c.pendReach ≠ none := by
    rw [Crane.hasPending_iff, Crane.staged]
    by_cases same : c.speed = v <;> simp [same]
  simp only [Crane.takesClass, Crane.configured, Bool.and_eq_true, Option.isSome_iff_ne_none, bne_iff_ne, pending, and_assoc]

/-- The speed class handed to one crane changes its record, and may make a pass due. -/
theorem State.stageSpeed_eq (s : State) (v : SpeedClass) (k : Nat) : State.stageSpeed v s k = { s with
    cranes := (s.updCrane k (Crane.classed v)).cranes
    passDue := s.passDue || (decide (s.mode.run = .run) && (s.crane k).takesClass v) } := by
  have stays (same : (s.crane k).classed v = s.crane k) (idle : (s.crane k).takesClass v = false) : s = { s with
      cranes := (s.updCrane k (Crane.classed v)).cranes
      passDue := s.passDue || (decide (s.mode.run = .run) && (s.crane k).takesClass v) } := by
    rw [State.cranes_updCrane_same same, idle, Bool.and_false, Bool.or_false]
  unfold State.stageSpeed
  cases cfg : (s.crane k).cfg with
  | none =>
    have configured : (s.crane k).configured = false := by rw [Crane.configured, cfg]; rfl
    rw [configured, if_neg Bool.false_ne_true]
    exact stays (if_pos cfg) (by rw [Crane.takesClass, configured]; rfl)
  | some g =>
    have configured : (s.crane k).configured = true := by rw [Crane.configured, cfg]; rfl
    have unset : (s.crane k).cfg ≠ none := by simp [cfg]
    have number := State.crane_number configured
    have own := State.crane_updCrane_self s number (fun c => c.staged v)
    have chan : ((s.updCrane k fun c => c.staged v).crane k).chan = (s.crane k).chan := by rw [own]; rfl
    rw [if_pos configured, State.applyStaged, chan]
    by_cases busy : (s.crane k).chan = .busy
    · have idle : (s.crane k).takesClass v = false := by simp [Crane.takesClass, busy]
      have same : (s.crane k).staged v = (s.crane k).classed v := ((if_neg unset).trans (if_pos busy)).symm
      rw [if_pos busy, State.updCrane_congr (f := fun c => c.staged v) same, State.updCrane_eq, idle, Bool.and_false,
        Bool.or_false]
    · have same : ((s.crane k).staged v).withPending = (s.crane k).classed v :=
        ((if_neg unset).trans ((if_neg busy).trans ((s.crane k).withPending_staged v).symm)).symm
      have takes : (s.crane k).takesClass v = ((s.crane k).staged v).hasPending := by
        simp [Crane.takesClass, configured, busy]
      rw [if_neg busy, State.applyPending_eq, own, State.updCrane_updCrane,
        State.updCrane_congr (f := fun c => (c.staged v).withPending) same, State.updCrane_eq, takes]
      simp only [Bool.decide_and, Bool.decide_eq_true, Bool.and_comm]

theorem State.crane_stageSpeed (s : State) (v : SpeedClass) (k j : Nat) :
    (State.stageSpeed v s k).crane j = if j = k then (s.crane j).classed v else s.crane j := by
  have cranes := congrArg State.cranes (s.stageSpeed_eq v k)
  rw [State.crane_congr (s := s.updCrane k (Crane.classed v)) cranes, State.crane_updCrane]
  by_cases own : j = k
  · subst j
    by_cases number : 1 ≤ k ∧ k ≤ 12
    · simp [number]
    · rw [s.crane_outside number]
      simp [number, Crane.classed, Crane.reset]
  · simp [own]

theorem State.crane_stageSpeeds (v : SpeedClass) {ks : List Nat} (distinct : ks.Nodup) (s : State) (j : Nat) :
    (ks.foldl (State.stageSpeed v) s).crane j = if j ∈ ks then (s.crane j).classed v else s.crane j := by
  induction ks generalizing s with
  | nil => simp
  | cons k ks ih =>
    obtain ⟨fresh, distinct⟩ := List.nodup_cons.mp distinct
    rw [List.foldl_cons, ih distinct, State.crane_stageSpeed]
    by_cases own : j = k
    · subst j
      simp [fresh]
    · simp [own]

theorem State.stageSpeeds_eq (v : SpeedClass) {ks : List Nat} (distinct : ks.Nodup) (s : State) :
    ks.foldl (State.stageSpeed v) s = { s with
      cranes := (ks.foldl (State.stageSpeed v) s).cranes
      passDue := s.passDue || (decide (s.mode.run = .run) && ks.any (fun k => (s.crane k).takesClass v)) } := by
  induction ks generalizing s with
  | nil => simp
  | cons k ks ih =>
    obtain ⟨fresh, distinct⟩ := List.nodup_cons.mp distinct
    have later : ks.any (fun j => ((State.stageSpeed v s k).crane j).takesClass v) =
        ks.any (fun j => (s.crane j).takesClass v) := by
      rw [Bool.eq_iff_iff, List.any_eq_true, List.any_eq_true]
      refine exists_congr fun j => and_congr_right fun listed => ?_
      rw [State.crane_stageSpeed, if_neg (ne_of_mem_of_not_mem listed fresh)]
    rw [List.foldl_cons, ih distinct, later, State.stageSpeed_eq, List.any_cons, Bool.and_or_distrib_left, Bool.or_assoc]

/-- The speed class set and handed to every crane (R57). -/
theorem State.stageAll_eq (s : State) (v : SpeedClass) : ∃ cranes,
    craneNumbers.foldl (State.stageSpeed v) { s with mode := { s.mode with speed := v } } = { s with
      mode := { s.mode with speed := v }
      cranes := cranes
      passDue := s.passDue || (decide (s.mode.run = .run) && craneNumbers.any (fun k => (s.crane k).takesClass v)) } ∧
    ∀ k, State.crane { s with cranes := cranes } k = (s.crane k).classed v := by
  have same (k : Nat) : State.crane { s with mode := { s.mode with speed := v } } k = s.crane k := rfl
  have distinct : craneNumbers.Nodup := by decide
  have staged := State.stageSpeeds_eq v distinct { s with mode := { s.mode with speed := v } }
  have records := State.crane_stageSpeeds v distinct { s with mode := { s.mode with speed := v } }
  simp only [same] at staged records
  generalize craneNumbers.foldl (State.stageSpeed v) { s with mode := { s.mode with speed := v } } = u at staged records
  refine ⟨u.cranes, staged, fun k => (State.crane_congr (s := u) rfl k).trans ((records k).trans ?_)⟩
  by_cases number : k ∈ craneNumbers
  · exact if_pos number
  · rw [if_neg number, s.crane_outside (mt mem_craneNumbers.mpr number)]
    rfl

/-! ## The run state and the active aisle set (R68, R69, R71) -/

theorem State.setRun_eq (s : State) (r : RunState) : s.setRun r = { s with
    mode := { s.mode with run := r }
    passDue := decide (r = .run) && (s.passDue || decide (s.mode.run ≠ .run))
    passRun := (if r = .run then s.passRun else s.passRun.map Pass.stopped) } := by
  unfold State.setRun
  by_cases run : r = .run
  · by_cases already : s.mode.run = .run
    · simp [run, already]
    · simp [run, already, State.trigger_eq]
  · simp [run]

theorem State.setActive_eq (s : State) (l : List Nat) : s.setActive l = { s with
    mode := { s.mode with active := l }
    passDue := s.passDue || decide (s.mode.run = .run ∧ ∃ n ∈ l, n ∉ s.mode.active) } := by
  have joins : l.any (fun n => !s.mode.active.contains n) = true ↔ ∃ n ∈ l, n ∉ s.mode.active := by simp
  unfold State.setActive
  dsimp only
  by_cases gains : ∃ n ∈ l, n ∉ s.mode.active
  · rw [if_pos (joins.mpr gains), State.trigger_eq]
    simp only [gains, and_true]
  · rw [if_neg (mt joins.mp gains)]
    simp only [gains, and_false, decide_false, Bool.or_false]

/-! ## SET_MODE (R159) -/

theorem State.applyMode_eq (s : State) (r : RunState) (v : SpeedClass) (l : List Nat) : ∃ cranes, s.applyMode r v l = { s with
      mode := { s.mode with run := r, speed := v, active := l }
      cranes := cranes
      passDue := (decide (r = .run) && (s.passDue || (decide (s.mode.run = .run) &&
          craneNumbers.any (fun k => (s.crane k).takesClass v)) || decide (s.mode.run ≠ .run))) ||
        decide (r = .run ∧ ∃ n ∈ l, n ∉ s.mode.active)
      passRun := (if r = .run then s.passRun else s.passRun.map Pass.stopped)
      link :=
        if r = s.mode.run ∧ v = s.mode.speed ∧ l = s.mode.active then s.link
        else s.link.report (.modeChanged .setMode r v l s.mode.stop) } ∧
    ∀ k, State.crane { s with cranes := cranes } k = (s.crane k).classed v := by
  obtain ⟨cranes, staged, records⟩ := s.stageAll_eq v
  refine ⟨cranes, ?_, records⟩
  unfold State.applyMode
  dsimp only
  rw [staged, State.setRun_eq, State.setActive_eq]
  by_cases same : r = s.mode.run ∧ v = s.mode.speed ∧ l = s.mode.active
  · have stays : ¬ (r ≠ s.mode.run ∨ v ≠ s.mode.speed ∨ l ≠ s.mode.active) := by simp [same]
    rw [if_pos same, if_neg stays]
  · rw [if_neg same, if_pos ((not_and_or.mp same).imp_right not_and_or.mp)]
    rfl

theorem mem_aislesOf {b : Nat} : n ∈ aislesOf b ↔ 1 ≤ n ∧ n ≤ 8 ∧ b.testBit (n - 1) = true := by
  have listed : n ∈ aisleNumbers ↔ 1 ≤ n ∧ n ≤ 8 := by
    simp only [aisleNumbers, List.mem_cons, List.not_mem_nil, or_false]
    omega
  rw [aislesOf, List.mem_filter, listed, and_assoc]

theorem bit_eq (b : Bool) (i : Nat) : bit b i = b.toNat * 2 ^ i := by
  cases b <;> simp [bit]

/-- The active aisle set byte names the set it was read from (R185, R186). -/
theorem aislesByte_aislesOf {b : Nat} (byte : b < 256) : aislesByte (aislesOf b) = b := by
  have named (n : Nat) (low : 1 ≤ n) (high : n ≤ 8) :
      bit ((aislesOf b).contains n) (n - 1) = b / 2 ^ (n - 1) % 2 * 2 ^ (n - 1) := by
    have bits : (aislesOf b).contains n = b.testBit (n - 1) := by
      rw [Bool.eq_iff_iff, List.contains_iff_mem, mem_aislesOf]
      simp [low, high]
    rw [bits, bit_eq, Nat.toNat_testBit]
  simp only [aislesByte, aisleNumbers, List.map_cons, List.map_nil, List.sum_cons, List.sum_nil]
  rw [named 1, named 2, named 3, named 4, named 5, named 6, named 7, named 8] <;> omega

theorem modeRunOf_isNone_iff (r : Nat) : (modeRunOf r).isNone = true ↔ r ≠ 1 ∧ r ≠ 2 := by
  rcases r with _ | _ | _ | r <;> simp [modeRunOf]

theorem speedOf_isNone_iff (v : Nat) : (speedOf v).isNone = true ↔ 1 < v := by
  rcases v with _ | _ | v <;> simp [speedOf]

theorem modeRunOf_code {n : Nat} (h : modeRunOf n = some r) : r.code = n := by
  rcases n with _ | _ | _ | n <;> simp [modeRunOf] at h <;> subst r <;> rfl

theorem speedOf_code {n : Nat} (h : speedOf n = some v) : v.code = n := by
  rcases n with _ | _ | n <;> simp [speedOf] at h <;> subst v <;> rfl

open Classical in
theorem State.checkMode_eq (s : State) (r v a : Nat) : s.checkMode r v a =
    if s.mode.run = .config ∨ s.mode.run = .safe then .wrongMode
    else if (r ≠ 1 ∧ r ≠ 2) ∨ 1 < v then .badField
    else if ∃ n, 1 ≤ n ∧ n ≤ 8 ∧ a.testBit (n - 1) = true ∧ s.aisle n = none then .notConfigured else .ok := by
  have undefined : (aislesOf a).any (fun n => (s.aisle n).isNone) = true ↔
      ∃ n, 1 ≤ n ∧ n ≤ 8 ∧ a.testBit (n - 1) = true ∧ s.aisle n = none := by
    simp only [List.any_eq_true, mem_aislesOf, Option.isNone_iff_eq_none, and_assoc]
  rw [State.checkMode, ← Result.orElse_ok_right (firstFail _)]
  exact firstFail_orElse s.not_inRunHold_iff (fun _ => nofun) <|
    firstFail_orElse (by rw [Bool.or_eq_true, modeRunOf_isNone_iff, speedOf_isNone_iff]) (fun _ => nofun) <|
    firstFail_orElse undefined (fun _ => nofun) rfl

/-- Settles O32: the order of the checks by `checkMode_eq`, the effects by `applyMode_eq`. -/
theorem setModeSetsTheThreeValues : Obligations.SetModeSetsTheThreeValues := by
  classical
  intro tag r v a s takes quiet byte
  have refuses {e : Result} (no : e ≠ .ok) (h : s.checkMode r v a = e) :
      exec (.setMode tag r v a) s = .next (s.replied 0xB8 tag e []) :=
    exec_refused rfl takes quiet (by rw [runRequest, runSetMode, h, State.judgedData_refused no])
  have check := s.checkMode_eq r v a
  refine ⟨fun run => refuses nofun (check.trans (if_pos run)), fun run bad => ?_, fun new speed run isRun isSpeed => ?_⟩
  all_goals rw [if_neg (by rcases run with run | run <;> simp [run])] at check
  · exact refuses nofun (check.trans (if_pos bad))
  · have values : ¬ ((r ≠ 1 ∧ r ≠ 2) ∨ 1 < v) := by
      rw [← modeRunOf_isNone_iff, ← speedOf_isNone_iff, isRun, isSpeed]
      simp
    rw [if_neg values] at check
    refine ⟨fun missing => refuses nofun (check.trans (if_pos missing)), fun defined => ?_⟩
    have ok : s.checkMode r v a = .ok :=
      check.trans (if_neg fun ⟨n, low, high, named, missing⟩ => defined n low high named missing)
    obtain ⟨cranes, applied, records⟩ := s.applyMode_eq new speed (aislesOf a)
    refine ⟨s.applyMode new speed (aislesOf a), aislesOf a, ?_, fun n => mem_aislesOf, fun k => ?_, ?_, ?_⟩
    · have data : (s.applyMode new speed (aislesOf a)).modeData = beBytes 1 r ++ beBytes 1 v ++ beBytes 1 a := by
        rw [State.modeData, applied]
        dsimp only
        rw [modeRunOf_code isRun, speedOf_code isSpeed, aislesByte_aislesOf byte]
      rw [exec_taken rfl takes, runRequest, runSetMode, State.judgedData_ok ok, isRun, isSpeed, Option.getD_some,
        Option.getD_some, data]
    · exact (State.crane_congr (congrArg State.cranes applied) k).trans (records k)
    · have taken : craneNumbers.any (fun k => (s.crane k).takesClass speed) = true ↔
          ∃ k, (s.crane k).takesClass speed = true := by
        rw [List.any_eq_true]
        refine exists_congr fun k => ⟨And.right, fun any => ⟨mem_craneNumbers.mpr ?_, any⟩⟩
        by_contra out
        rw [s.crane_outside out] at any
        exact absurd any (by cases speed <;> decide)
      rw [applied]
      simp only [Bool.or_eq_true, Bool.and_eq_true, decide_eq_true_eq, taken, Crane.takesClass_iff]
      rcases run with run | run
      · simp only [run, true_and, ne_eq, not_true_eq_false, or_false, reduceCtorEq, false_or, ← and_or_left, or_assoc]
        rw [or_comm (a := ∃ n ∈ aislesOf a, _)]
      · simp only [run, reduceCtorEq, ne_eq, not_false_eq_true, or_true, true_or, and_true]
        tauto
    · rw [applied]
      rfl

end Sys2Proof.Machine
end

section
/-! SUPPORT. What SAFE entry leaves of mode control (R164): in SAFE no crane is commanded (entry 9), so neither a broken
plan nor a re-examination writes it. `Calm` keeps the run state alone. -/

namespace Sys2Proof.Machine

/-- Mode control stands at the values `m`, and the run state is SAFE. -/
def InSafe (m : Mode) (s : State) : Prop := s.mode = m ∧ m.run = .safe

namespace InSafe

variable {m : Mode} {s t : State}

theorem same (h : InSafe m s) (mode : t.mode = s.mode) : InSafe m t := ⟨mode.trans h.1, h.2⟩

theorem ite {c : Prop} [Decidable c] (h : InSafe m s) (g : InSafe m t) : InSafe m (if c then s else t) := by
  split
  · exact h
  · exact g

theorem foldl {α : Type} {f : State → α → State} (hf : ∀ u a, InSafe m u → InSafe m (f u a)) (h : InSafe m s)
    (l : List α) : InSafe m (l.foldl f s) := by
  induction l generalizing s with
  | nil => exact h
  | cons a l ih => exact ih (hf s a h)

/-! ## Cranes and stations -/

theorem idle (h : InSafe m s) : ¬ s.commands = true :=
  State.not_commands (.inr (by rw [h.1, h.2]))

theorem goOn (h : InSafe m s) (k : Nat) : InSafe m (s.goOn k) := by
  rw [State.goOn_stays]
  · exact h
  · intro may
    exact h.idle (State.commands_iff.mpr (State.mayGoOn_iff.mp may).1)

theorem trigger (h : InSafe m s) : InSafe m s.trigger := h.same s.trigger_mode

theorem updCrane (h : InSafe m s) (k : Nat) (f : Crane → Crane) : InSafe m (s.updCrane k f) := h.same (s.updCrane_mode k f)

theorem retryPut (h : InSafe m s) (n : Nat) : InSafe m (s.retryPut n) := by
  unfold State.retryPut
  split
  · exact ite ((h.updCrane _ _).goOn _) h
  · exact h

theorem lowerPend (h : InSafe m s) (n : Nat) : InSafe m (s.lowerPend n) :=
  retryPut (trigger (s := s.updStation n _) h) n

theorem applyPending (h : InSafe m s) (k : Nat) : InSafe m (s.applyPending k) := by
  rw [State.applyPending_eq]
  exact h

/-! ## Jobs and groups -/

theorem freeSource (h : InSafe m s) (n : Nat) : InSafe m (s.freeSource n) := by
  unfold State.freeSource
  repeat' split
  all_goals exact h

theorem freeDest (h : InSafe m s) (n : Nat) : InSafe m (s.freeDest n) := by
  unfold State.freeDest
  split
  · exact h
  · split
    · exact h
    · dsimp only
      split
      · exact lowerPend (s := s.updJob n _) h _
      · exact trigger (s := (s.updJob n _).occupy _ _ _) h
      · exact h

theorem releaseHold (h : InSafe m s) (gid d : Nat) : InSafe m (s.releaseHold gid d) := by
  unfold State.releaseHold
  split
  · exact h
  · exact goOn (s := { s with holds := tableDrop _ s.holds }) h _

theorem settle (h : InSafe m s) (gid p : Nat) : InSafe m (s.settle gid p) := by
  unfold State.settle
  split
  · exact h
  · rename_i g _
    have settled := trigger (s := { s with groups := tablePut gid (g.settle p) s.groups }) h
    exact ite (settled.releaseHold _ _) settled

theorem removeClosed (h : InSafe m s) (gid : Nat) : InSafe m (s.removeClosed gid) := by
  unfold State.removeClosed
  split
  · exact h
  · exact ite h h

theorem readyHead (h : InSafe m s) (q : List Nat) : InSafe m (s.readyHead q) := by
  cases q with
  | nil => exact h
  | cons n q => exact trigger (s := s.updJob n _) h

theorem leaveQueue (h : InSafe m s) (st n : Nat) : InSafe m (s.leaveQueue st n) := by
  unfold State.leaveQueue
  split
  · exact h
  · dsimp only
    exact ite (ite (readyHead (s := s.updStation st _) h _) h) h

theorem reportMaybe (h : InSafe m s) (r : Option Report) : InSafe m (s.reportMaybe r) := by
  cases r <;> exact h

theorem leaveCore (h : InSafe m s) (n : Nat) (o : JobEnd) : InSafe m (s.leaveCore n o) := by
  unfold State.leaveCore
  split
  · exact h
  · rename_i j _
    have given := (h.freeSource n).freeDest n
    have settled := ite (c := j.grouped = true) (given.settle j.group j.position) given
    have freed : InSafe m ((State.freeJob _ n).unlink n) := settled
    have left := ite (c := j.kind = .store) (freed.leaveQueue j.station n) freed
    have closed := ite (c := j.grouped = true) (left.removeClosed j.group) left
    exact (closed.reportMaybe _).trigger

theorem evaluateFront (h : InSafe m s) (j : Job) (l : Loc) : InSafe m (s.evaluateFront j l) := by
  unfold State.evaluateFront
  dsimp only
  split
  · exact trigger (s := (s.reserveSource _ l _).updJob _ _) h
  · refine ite h (ite ?_ h)
    exact trigger (s := State.reserveSource _ _ _ _) h
  all_goals exact h

theorem evaluate (h : InSafe m s) (n : Nat) : InSafe m (s.evaluate n) := by
  unfold State.evaluate
  split
  · exact h
  · split
    · exact h
    · unfold State.evaluateAt
      split
      · exact h
      · refine ite (h.leaveCore _ _) (ite h (ite h (ite (h.evaluateFront _ _) ?_)))
        exact trigger (s := (s.reserveSource _ _ _).updJob _ _) h

theorem reevaluate (h : InSafe m s) (n : Nat) : InSafe m (s.reevaluate n) := by
  unfold State.reevaluate
  split
  · exact ite (h.evaluate n) h
  · exact h

theorem reexamine (h : InSafe m s) : InSafe m s.reexamine := by
  have rounds (n : Nat) : ∀ {u : State}, InSafe m u → InSafe m (State.reexamineRun n u) := by
    induction n with
    | zero => exact fun hu => hu
    | succ n ih =>
      intro u hu
      unfold State.reexamineRun
      exact ite hu (ih (foldl (s := u.clearWork) (fun v n hv => hv.reevaluate n) hu _))
  exact rounds _ h

theorem leave (h : InSafe m s) (n : Nat) (o : JobEnd) : InSafe m (s.leave n o) := by
  unfold State.leave
  split
  · exact h
  · refine ite (h.leaveCore n o) ?_
    exact foldl (fun u i hu => evaluate (s := u.updJob i _) hu i) (h.leaveCore n o) _

theorem returnReady (h : InSafe m s) (n : Nat) : InSafe m (s.returnReady n) := by
  unfold State.returnReady
  split
  · exact h
  · exact trigger (s := State.updJob _ _ _) (ite (h.freeDest n) h)

/-! ## The channels -/

theorem breakJob (h : InSafe m s) (k n : Nat) (leg : Option LegKind) : InSafe m (s.breakJob k n leg none) := by
  have interrupted (p : Nat) : InSafe m ((s.leave n (.failed .interrupted)).unresolve k p) :=
    (h.leave n _).updCrane k _
  unfold State.breakJob
  split
  · exact h
  · split
    · exact h.returnReady n
    · cases leg
      · exact interrupted _
      · exact h
    · cases leg
      · exact interrupted _
      · exact h
    all_goals exact h

theorem haltCrane (h : InSafe m s) (k : Nat) : InSafe m (s.haltCrane k none) := by
  unfold State.haltCrane
  split
  · unfold State.breakPlan
    dsimp only
    refine (foldl (fun u n hu => hu.breakJob k n _) ?_ _).applyPending k
    exact h.updCrane k Crane.broken
  · exact h.updCrane k _
  all_goals exact h

theorem enter_eq (h : InSafe m s) (k : Nat) (st : ChanState) (r : ChanReason) : s.enter k st r = s.chanTo k st r := by
  have entered : InSafe m (s.chanTo k st r) := h.same (by rw [State.chanTo_eq])
  refine State.railRun_still fun op _ => ?_
  cases op <;> exact if_neg entered.idle

theorem safeCrane (h : InSafe m s) (k : Nat) : InSafe m (s.safeCrane k) := by
  unfold State.safeCrane
  dsimp only
  refine ite ?_ h
  have stopped := ite (c := (s.crane k).chan = .busy ∨ (s.crane k).curLeg ≠ 0) (s := s.stopCrane k) h h
  have flagged := (stopped.haltCrane k).updCrane k (fun c => { c with stopHalted := true })
  rw [flagged.enter_eq, State.chanTo_eq]
  exact flagged

end InSafe

end Sys2Proof.Machine
end

section
/-! SUPPORT. The stop input and SAFE entry (R120, R161, R163, R164, R172). -/

namespace Sys2Proof.Machine

variable {s t : State} {k : Nat}

/-! ## One channel at SAFE entry (R120) -/

theorem State.safeCrane_stays (out : (s.crane k).cfg = none ∨ (s.crane k).chan.inService = false) : s.safeCrane k = s := by
  refine if_neg fun both => ?_
  obtain ⟨configured, serves⟩ := (Bool.and_eq_true _ _).mp both
  rcases out with none | idle
  · rw [Crane.configured, none] at configured
    cases configured
  · exact Bool.false_ne_true (idle.symm.trans serves)

/-- The state behind the STOP of SAFE entry: to a BUSY crane, and for an outstanding leg. -/
def State.safeStop (s : State) (k : Nat) : State :=
  if (s.crane k).chan = .busy ∨ (s.crane k).curLeg ≠ 0 then
    { s with portOut := s.portOut ++ [(k, [0x02, BitVec.ofNat 8 k])] }
  else s

theorem State.crane_safeStop (s : State) (k j : Nat) : (s.safeStop k).crane j = s.crane j := by
  unfold State.safeStop
  split <;> rfl

theorem State.safeStop_eq (s : State) (k : Nat) :
    (if (s.crane k).chan = .busy ∨ (s.crane k).curLeg ≠ 0 then s.stopCrane k else s) = s.safeStop k := by
  unfold State.safeStop
  rw [State.stopCrane, State.portSend, stopTelegram_eq]

theorem State.mode_safeStop (s : State) (k : Nat) : (s.safeStop k).mode = s.mode := by
  unfold State.safeStop
  split <;> rfl

/-- The state behind the halt of SAFE entry: the plan of a BUSY crane broken, a park leg dropped. -/
def State.safeHalt (s : State) (k : Nat) : State := (s.safeStop k).haltCrane k none

theorem State.safeHalt_eq (s : State) (k : Nat) : s.safeHalt k = match (s.crane k).chan with
    | .busy => (s.safeStop k).breakPlan k none
    | .parking => (s.safeStop k).updCrane k Crane.unparked
    | _ => s.safeStop k := by
  rw [State.safeHalt, State.haltCrane, s.crane_safeStop]
  cases (s.crane k).chan <;> rfl

/-- A channel in service goes to LISTEN and is marked stop-halted; in SAFE nothing else follows (entry 9). -/
theorem State.safeCrane_eq (run : s.mode.run = .safe) (configured : (s.crane k).cfg ≠ none)
    (serves : (s.crane k).chan.inService = true) : s.safeCrane k = { s.safeHalt k with
      cranes := ((s.safeHalt k).updCrane k (fun c => { c with chan := .listen, stopHalted := true })).cranes
      readyOrder := (s.safeHalt k).readyOrder.filter (fun j => j != k)
      passRun := (s.safeHalt k).passWithout k
      link := (s.safeHalt k).link.report (.craneState k .listen .stop ((s.safeHalt k).crane k).pos) } := by
  have stopped : InSafe s.mode (s.safeStop k) := ⟨s.mode_safeStop k, run⟩
  have halted : InSafe s.mode (s.safeHalt k) := stopped.haltCrane k
  have flagged := halted.updCrane k (fun c => { c with stopHalted := true })
  have serving : ((s.crane k).configured && (s.crane k).chan.inService) = true := by
    rw [serves, Bool.and_true, Crane.configured, Option.isSome_iff_ne_none]
    exact configured
  have enters : s.safeCrane k =
      ((s.safeHalt k).updCrane k (fun c => { c with stopHalted := true })).enter k .listen .stop := by
    rw [State.safeCrane, if_pos serving]
    dsimp only
    rw [State.safeStop_eq]
    rfl
  have pos : (((s.safeHalt k).updCrane k (fun c => { c with stopHalted := true })).crane k).pos =
      ((s.safeHalt k).crane k).pos := State.crane_updCrane_part Crane.pos _ k k fun _ => rfl
  have safe : ¬ (s.safeHalt k).mode.run = .run := by
    rw [halted.1, run]
    decide
  rw [enters, flagged.enter_eq, State.chanTo_eq, pos, State.updCrane_updCrane, State.updCrane_eq (s.safeHalt k)]
  simp only [safe, false_and, decide_false, Bool.or_false]
  rfl

/-! ## All channels at SAFE entry (R164) -/

theorem State.safeCranes_stay {ks : List Nat}
    (out : ∀ k ∈ ks, (s.crane k).cfg = none ∨ (s.crane k).chan.inService = false) : ks.foldl State.safeCrane s = s := by
  induction ks with
  | nil => rfl
  | cons k ks ih =>
    obtain ⟨first, rest⟩ := List.forall_mem_cons.mp out
    rw [List.foldl_cons, State.safeCrane_stays first, ih rest]

/-- SAFE entry ends with its report, whose values are those in force before it but for the run state (R161). -/
theorem State.enterSafe_finish {u : State} (stop : s.mode.stop = true)
    (halts : craneNumbers.foldl State.safeCrane
      { s with mode := { s.mode with run := .safe }, passDue := false, passRun := none } = t)
    (ends : State.reexamine { t with mode := { t.mode with
      snapshot := some (s.inServiceCranes.map (fun k => (k, (t.crane k).load))) } } = u) :
    s.enterSafe.finish =
      { u with link := u.link.report (.modeChanged .stop .safe s.mode.speed s.mode.active true) } := by
  have begun : InSafe { s.mode with run := .safe }
      { s with mode := { s.mode with run := .safe }, passDue := false, passRun := none } := ⟨rfl, rfl⟩
  have halted : InSafe { s.mode with run := .safe } t := halts ▸ begun.foldl (fun v k hv => hv.safeCrane k) craneNumbers
  have noted : InSafe { s.mode with
      run := .safe, snapshot := some (s.inServiceCranes.map (fun k => (k, (t.crane k).load))) } u := by
    rw [← ends]
    refine InSafe.reexamine ⟨?_, rfl⟩
    dsimp only
    rw [halted.1]
  have entered : s.enterSafe = u.reportMode .stop := by
    unfold State.enterSafe
    dsimp only
    rw [halts, ends]
  have quiet : (u.reportMode .stop).quiet := ends ▸ State.quiet_reexamine _
  have values : u.reportMode .stop = u.report (.modeChanged .stop .safe s.mode.speed s.mode.active s.mode.stop) := by
    rw [State.reportMode, noted.1]
  rw [entered, State.finish, State.reexamine_quiet quiet, values, stop]
  rfl

/-! ## The stop input (R163, R172) -/

theorem exec_stopInput_quiet {b : Bool} (quiet : s.quiet) (h : s.settleStop.stopInput b = t) (same : t.work = s.work) :
    exec (.stopInputChange b) s = .next t := by
  have still : t.quiet := same.trans quiet
  show Host.Outcome.next (s.settleStop.stopInput b).finish = _
  rw [h, State.finish, State.reexamine_quiet still]

theorem State.stopInput_same {b : Bool} (same : s.mode.stop = b) : s.stopInput b = s := if_pos same

theorem State.stopInput_config {b : Bool} (run : s.mode.run = .config) :
    s.stopInput b = { s with mode := { s.mode with stop := b } } := by
  by_cases same : s.mode.stop = b
  · rw [State.stopInput_same same, ← same]
  · rw [State.stopInput, if_neg same]
    dsimp only
    rw [run]

/-- In SAFE a release starts a resume check, and an assertion abandons it. -/
theorem State.stopInput_safe {b : Bool} (run : s.mode.run = .safe) (change : s.mode.stop ≠ b) :
    s.stopInput b = { s with mode := { s.mode with stop := b, check := if b = true then none else some s.newCheck } } := by
  rw [State.stopInput, if_neg change]
  dsimp only
  rw [run]
  cases b <;> rfl

theorem State.stopInput_asserted (run : s.mode.run = .run ∨ s.mode.run = .hold) (change : s.mode.stop ≠ true) :
    s.stopInput true = State.enterSafe { s with mode := { s.mode with stop := true } } := by
  rw [State.stopInput, if_neg change]
  dsimp only
  rcases run with run | run <;> rw [run]

theorem State.stopInput_released (run : s.mode.run = .run ∨ s.mode.run = .hold) (change : s.mode.stop ≠ false) :
    s.stopInput false = { s with mode := { s.mode with stop := false } } := by
  rw [State.stopInput, if_neg change]
  dsimp only
  rcases run with run | run <;> rw [run]

/-- Settles O33: the change by run state from `stopInput_changed`, each channel by `safeCrane_eq`. -/
theorem stopInputActsByRunState : Obligations.StopInputActsByRunState := by
  intro b s quiet settled
  refine ⟨?_, ?_, fun change run => ?_, fun change asserted run => ?_, fun k run k1 k12 => ⟨State.safeCrane_stays, ?_⟩⟩
  · simp only [exec, execStopInputSettled, execStopInputChange]
    split <;> rfl
  · intro still
    refine exec_stopInput_quiet quiet ?_ rfl
    rcases still with same | config
    · rw [State.stopInput_same (s := s.settleStop) same]
      simp only [settled, ← same]
      rfl
    · rw [State.stopInput_config (s := s.settleStop) config]
      rfl
  · refine exec_stopInput_quiet quiet ?_ rfl
    rw [State.stopInput_safe (s := s.settleStop) run change]
    rfl
  · subst asserted
    intro stopped safe t u
    have entered : s.settleStop.stopInput true = settled.enterSafe :=
      State.stopInput_asserted (s := s.settleStop) run change
    have ends := State.enterSafe_finish (s := settled) (t := t) (u := u) rfl rfl rfl
    refine ⟨congrArg Host.Outcome.next ((congrArg State.finish entered).trans ends),
      fun idle => State.safeCranes_stay fun k listed => ?_⟩
    have out : ¬ ((s.crane k).configured && (s.crane k).chan.inService) = true := List.filter_eq_nil_iff.mp idle k listed
    rw [Bool.and_eq_true, not_and_or] at out
    show (s.crane k).cfg = none ∨ (s.crane k).chan.inService = false
    exact out.imp (fun unset => by simpa [Crane.configured] using unset) (fun out => by simpa using out)
  · intro configured serves sent halted
    have same : s.safeHalt k = halted := s.safeHalt_eq k
    have whole := same ▸ State.safeCrane_eq run configured serves
    have cranes := congrArg State.cranes whole
    refine ⟨State.crane_of_cranes cranes ⟨k1, k12⟩, State.crane_of_cranes_other cranes, ?_⟩
    rw [cranes]
    exact whole

end Sys2Proof.Machine
end

section
/-! SUPPORT. The end of the resume check (R165, R166). -/

namespace Sys2Proof.Machine

variable {s t u : State} {c : Check} {k : Nat} {r : CheckResult}

/-! ## The result of a stop-halted channel (R166) -/

theorem tableGet_eq_find? {α : Type} (k : Nat) (l : Assoc α) : tableGet k l = (l.find? (fun e => e.1 == k)).map Prod.snd := by
  induction l with
  | nil => rfl
  | cons e l ih =>
    by_cases here : e.1 = k
    · simp [tableGet, here]
    · simp [tableGet, here, ih]

theorem Mode.snapLoad_eq (m : Mode) (k : Nat) :
    m.snapLoad k = ((m.snapshot.getD []).find? (fun e => e.1 == k)).bind Prod.snd := by
  unfold Mode.snapLoad
  cases m.snapshot with
  | none => rfl
  | some l =>
    dsimp only [Option.getD_some]
    rw [tableGet_eq_find?]
    cases l.find? (fun e => e.1 == k) <;> rfl

theorem State.resultOf_eq (s : State) (c : Check) (k : Nat) : s.resultOf c k =
    if (s.crane k).chan = .fault then .fault
    else if (s.crane k).chan = .manual ∨ (c.marks k).manual = true then .manual
    else if (c.marks k).powerUp = true then .powerUp
    else if (c.marks k).auto = false then .silent
    else if (s.crane k).load = ((s.mode.snapshot.getD []).find? (fun e => e.1 == k)).bind Prod.snd then .ready
    else .loadChanged := by
  rw [State.resultOf, checkResult, Mode.snapLoad_eq]
  simp only [Bool.not_eq_true', beq_iff_eq]

theorem State.resultOf_congr (mode : t.mode = s.mode) (crane : t.crane k = s.crane k) : t.resultOf c k = s.resultOf c k := by
  rw [State.resultOf, mode, crane, State.resultOf]

/-- A channel whose result is SILENT is in none of the states that earlier rows name. -/
theorem State.resultOf_silent (silent : s.resultOf c k = .silent) :
    (s.crane k).chan ≠ .fault ∧ (s.crane k).chan ≠ .manual := by
  rw [State.resultOf_eq] at silent
  split_ifs at silent with fault manual
  exact ⟨fault, fun chan => manual (.inl chan)⟩

/-! ## What a result makes of its channel (R166) -/

/-- The channel's record behind its result, the stop-halted flag apart. -/
def Crane.resulted (r : CheckResult) (d : Crane) : Crane :=
  match r with
  | .ready | .loadChanged =>
    { d with chan := .ready, powerReturn := false, stopHalted := false, lastFault := none, bad := 0 }
  | .silent => { d with chan := .fault, lastFault := some .silent }
  | .manual | .powerUp | .fault => d

/-- The report of the channel state that a result brings, if it brings one. -/
def CheckResult.entry (r : CheckResult) (k : Nat) (pos : Option Point) : Option Report :=
  match r with
  | .ready | .loadChanged => some (.craneState k .ready .resumeCheck pos)
  | .silent => some (.craneState k .fault (.fault .silent) pos)
  | .manual | .powerUp | .fault => none

/-- The result brings the channel into READY. -/
def CheckResult.resumes (r : CheckResult) : Bool := decide (r = .ready ∨ r = .loadChanged)

/-- In SAFE a result changes the channel's record, its places in ready order and pass, and makes its report. -/
theorem State.applyResult_eq (run : s.mode.run = .safe)
    (silent : r = .silent → (s.crane k).chan = .listen ∧ (s.crane k).curLeg = 0) : ∃ pass, s.applyResult k r = { s with
      cranes := (s.updCrane k (Crane.resulted r)).cranes
      readyOrder := s.readyOrder.filter (fun j => decide (j ≠ k ∨ r.entry k (s.crane k).pos = none)) ++
        if r.resumes then [k] else []
      passRun := pass
      link := (r.entry k (s.crane k).pos).toList.foldl Link.report s.link } := by
  have safe : InSafe s.mode s := ⟨rfl, run⟩
  have entered (st : ChanState) (why : ChanReason) : s.enter k st why = { s with
      cranes := (s.updCrane k (fun d => d.entering st why)).cranes
      readyOrder := readyAfter s.readyOrder k st
      passRun := s.passWithout k
      link := s.link.report (.craneState k st why (s.crane k).pos) } := by
    rw [safe.enter_eq, State.chanTo_eq, run]
    simp
  have order : s.readyOrder.filter (fun j => j != k) = s.readyOrder.filter (fun j => decide (j ≠ k ∨ False)) :=
    List.filter_congr fun j _ => by simp [bne, Bool.beq_eq_decide_eq]
  have unchanged : ∃ pass, s = { s with
      cranes := (s.updCrane k (fun d => d)).cranes
      readyOrder := s.readyOrder.filter (fun j => decide (j ≠ k ∨ True)) ++ []
      passRun := pass, link := s.link } := by
    refine ⟨s.passRun, ?_⟩
    rw [← State.cranes_unchanged]
    simp
  cases r with
  | ready | loadChanged =>
    refine ⟨s.passWithout k, (entered .ready .resumeCheck).trans ?_⟩
    rw [readyAfter, if_pos rfl, order]
    simp [CheckResult.entry, CheckResult.resumes]
    rfl
  | silent =>
    obtain ⟨listen, current⟩ := silent rfl
    refine ⟨s.passWithout k, ?_⟩
    have new : ¬ ((s.crane k).chan = .fault ∧ (s.crane k).lastFault = some .silent) := by simp [listen]
    have still : (s.faultStop k .silent).haltCrane k none = s := by
      have unsent : s.faultStop k .silent = s := by simp [State.faultStop, current]
      rw [unsent, State.haltCrane, listen]
    rw [State.applyResult, State.enterFault_eq new, still, entered, readyAfter, if_neg (by decide), order]
    simp [CheckResult.entry, CheckResult.resumes]
    rfl
  | manual | powerUp | fault =>
    obtain ⟨pass, same⟩ := unchanged
    refine ⟨pass, same.trans ?_⟩
    simp [CheckResult.entry, CheckResult.resumes]
    rfl

/-! ## The visits of the stop-halted channels (R166) -/

/-- The report that the result of channel `k` brings. -/
def State.checkEntry (s : State) (c : Check) (k : Nat) : Option Report := (s.resultOf c k).entry k (s.crane k).pos

/-- The record of channel `k` behind its result. -/
def State.checked (s : State) (c : Check) (k : Nat) : Crane := (s.crane k).resulted (s.resultOf c k)

/-- The hypothesis of R165 on a stop-halted channel: it runs nothing. -/
def State.haltedSound (s : State) (k : Nat) : Prop := (s.crane k).stopHalted = true →
  (s.crane k).curLeg = 0 ∧ ((s.crane k).chan = .listen ∨ (s.crane k).chan = .manual ∨ (s.crane k).chan = .fault)

theorem State.number_of_stopHalted (halted : (s.crane k).stopHalted = true) : 1 ≤ k ∧ k ≤ 12 := by
  by_contra out
  rw [s.crane_outside out] at halted
  exact Bool.false_ne_true halted

/-- State `u` behind the results of the channels `halted`: the ready order, the reports, and the records and the running
pass as given. -/
def State.visited (s : State) (c : Check) (halted : List Nat) (u : State) (cranes : Vector Crane 12) (pass : Option Pass) :
    State :=
  { u with
    cranes := cranes
    readyOrder := u.readyOrder.filter (fun j => decide (j ∉ halted ∨ s.checkEntry c j = none)) ++
      halted.filter (fun k => (s.resultOf c k).resumes)
    passRun := pass
    link := (halted.filterMap (s.checkEntry c)).foldl Link.report u.link }

theorem State.visited_nil (s : State) (c : Check) (u : State) : s.visited c [] u u.cranes u.passRun = u := by
  simp [State.visited]

/-- One channel's result before those of the others. -/
theorem State.visited_cons {halted : List Nat} (fresh : k ∉ halted) (cranes first : Vector Crane 12) (pass p : Option Pass) :
    s.visited c halted { u with
      cranes := first
      readyOrder := u.readyOrder.filter (fun j => decide (j ≠ k ∨ s.checkEntry c k = none)) ++
        if (s.resultOf c k).resumes then [k] else []
      passRun := p
      link := (s.checkEntry c k).toList.foldl Link.report u.link } cranes pass =
    s.visited c (k :: halted) u cranes pass := by
  have kept : (u.readyOrder.filter (fun j => decide (j ≠ k ∨ s.checkEntry c k = none))).filter
      (fun j => decide (j ∉ halted ∨ s.checkEntry c j = none)) =
      u.readyOrder.filter (fun j => decide (j ∉ k :: halted ∨ s.checkEntry c j = none)) := by
    rw [List.filter_filter]
    refine List.filter_congr fun j _ => ?_
    by_cases own : j = k
    · subst j
      simp [fresh]
    · simp [own]
  have joined : (if (s.resultOf c k).resumes then [k] else []).filter
      (fun j => decide (j ∉ halted ∨ s.checkEntry c j = none)) ++ halted.filter (fun k => (s.resultOf c k).resumes) =
      (k :: halted).filter (fun k => (s.resultOf c k).resumes) := by
    cases resumes : (s.resultOf c k).resumes <;> simp [fresh, resumes]
  have reports : (halted.filterMap (s.checkEntry c)).foldl Link.report
      ((s.checkEntry c k).toList.foldl Link.report u.link) =
      ((k :: halted).filterMap (s.checkEntry c)).foldl Link.report u.link := by
    cases entry : s.checkEntry c k <;> simp [entry]
  simp only [State.visited, List.filter_append, List.append_assoc, kept, joined, reports]

/-- The visits of the channels `ks` from a state `u` that agrees with `s` on them. -/
theorem State.checkVisits_eq (c : Check) (run : s.mode.run = .safe) (sound : ∀ k, s.haltedSound k) {ks : List Nat}
    (distinct : ks.Nodup) (mode : u.mode = s.mode) (same : ∀ k ∈ ks, u.crane k = s.crane k)
    (l : List (Nat × CheckResult)) {halted : List Nat} (flags : ks.filter (fun k => (s.crane k).stopHalted) = halted) :
    ∃ cranes pass, ks.foldl (checkVisit c) (u, l) =
        (s.visited c halted u cranes pass, l ++ halted.map (fun k => (k, s.resultOf c k))) ∧
      ∀ j, (s.visited c halted u cranes pass).crane j = if j ∈ halted then s.checked c j else u.crane j := by
  induction ks generalizing u l halted with
  | nil =>
    subst flags
    refine ⟨u.cranes, u.passRun, ?_, fun j => (if_neg List.not_mem_nil).symm⟩
    rw [List.filter_nil, s.visited_nil c u, List.map_nil, List.append_nil]
    rfl
  | cons k ks ih =>
    obtain ⟨fresh, distinct⟩ := List.nodup_cons.mp distinct
    obtain ⟨here, rest⟩ := List.forall_mem_cons.mp same
    by_cases flagged : (s.crane k).stopHalted = true
    · rw [List.filter_cons, if_pos flagged] at flags
      subst flags
      have number := State.number_of_stopHalted flagged
      have unlisted : k ∉ ks.filter (fun k => (s.crane k).stopHalted) := fun listed => fresh (List.mem_filter.mp listed).1
      have silent (is : s.resultOf c k = .silent) : (u.crane k).chan = .listen ∧ (u.crane k).curLeg = 0 := by
        obtain ⟨current, chan⟩ := sound k flagged
        obtain ⟨fault, manual⟩ := State.resultOf_silent is
        rw [here]
        exact ⟨chan.resolve_right (not_or.mpr ⟨manual, fault⟩), current⟩
      obtain ⟨p, applied⟩ := State.applyResult_eq (s := u) (mode ▸ run) silent
      have first : checkVisit c (u, l) k = (u.applyResult k (s.resultOf c k), l ++ [(k, s.resultOf c k)]) := by
        rw [checkVisit, if_pos (by rw [here]; exact flagged)]
        dsimp only
        rw [State.resultOf_congr mode here]
      rw [here] at applied
      have others : ∀ j ∈ ks, (u.applyResult k (s.resultOf c k)).crane j = s.crane j := fun j listed => by
        rw [applied]
        exact (State.crane_of_cranes_other (s := u) rfl j (ne_of_mem_of_not_mem listed fresh)).trans (rest j listed)
      have own : (u.applyResult k (s.resultOf c k)).crane k = s.checked c k := by
        rw [applied]
        exact (State.crane_of_cranes (s := u) rfl number).trans (by rw [here]; rfl)
      have apart (j : Nat) (other : j ≠ k) : (u.applyResult k (s.resultOf c k)).crane j = u.crane j := by
        rw [applied]
        exact State.crane_of_cranes_other (s := u) rfl j other
      obtain ⟨cranes, pass, folded, records⟩ := ih distinct (by rw [applied]; exact mode) others
        (l ++ [(k, s.resultOf c k)]) rfl
      refine ⟨cranes, pass, ?_, fun j => ?_⟩
      · rw [List.foldl_cons, first, folded, applied]
        refine Prod.ext (State.visited_cons unlisted cranes _ pass p) ?_
        simp
      · refine (State.crane_congr rfl j).trans ((records j).trans ?_)
        by_cases mine : j = k
        · subst j
          rw [if_neg unlisted, own, if_pos List.mem_cons_self]
        · rw [apart j mine]
          simp [mine]
    · have passed : checkVisit c (u, l) k = (u, l) := if_neg (by rw [here]; exact flagged)
      rw [List.filter_cons, if_neg flagged] at flags
      rw [List.foldl_cons, passed]
      exact ih distinct mode rest l flags

/-! ## The end of the resume check (R166) -/

theorem State.crane_clearHalted (s : State) (k : Nat) : s.clearHalted.crane k = { s.crane k with stopHalted := false } := by
  by_cases number : 1 ≤ k ∧ k ≤ 12
  · exact State.crane_map s _ number
  · rw [State.crane_outside _ number, State.crane_outside s number]
    rfl

theorem State.endCheck_eq (c : Check) (run : s.mode.run = .safe) (sound : ∀ k, s.haltedSound k) {halted : List Nat}
    (flags : craneNumbers.filter (fun k => (s.crane k).stopHalted) = halted) :
    (∀ k, (s.endCheck c).crane k =
      { (if (s.crane k).stopHalted = true then s.checked c k else s.crane k) with stopHalted := false }) ∧
    s.endCheck c = { s with
      cranes := (s.endCheck c).cranes
      readyOrder := s.readyOrder.filter (fun j => decide (j ∉ halted ∨ s.checkEntry c j = none)) ++
        halted.filter (fun k => (s.resultOf c k).resumes)
      passDue := false, passRun := none
      mode := { s.mode with run := .hold, check := none, snapshot := none }
      link := (((halted.filterMap (s.checkEntry c)).foldl Link.report s.link).report
          (.resumeCheck (halted.map (fun k => (k, s.resultOf c k))))).report
        (.modeChanged .resumeCheck .hold s.mode.speed s.mode.active s.mode.stop) } := by
  obtain ⟨cranes, pass, folded, records⟩ :=
    State.checkVisits_eq c run sound (u := s) (by decide) rfl (fun _ _ => rfl) [] flags
  have ended : s.endCheck c = State.reportMode (State.report { (s.visited c halted s cranes pass).clearHalted with
      mode := { s.mode with run := .hold, check := none, snapshot := none }, passDue := false, passRun := none }
      (.resumeCheck (halted.map (fun k => (k, s.resultOf c k))))) .resumeCheck := by
    unfold State.endCheck
    rw [folded]
    rfl
  have listed (k : Nat) : k ∈ halted ↔ (s.crane k).stopHalted = true := by
    rw [← flags, List.mem_filter]
    exact ⟨And.right, fun flagged => ⟨mem_craneNumbers.mpr (State.number_of_stopHalted flagged), flagged⟩⟩
  refine ⟨fun k => ?_, ?_⟩
  · rw [ended]
    refine (State.crane_congr (s := (s.visited c halted s cranes pass).clearHalted) rfl k).trans ?_
    rw [State.crane_clearHalted, records]
    simp only [listed]
  · rw [ended]
    rfl

/-- Settles O34: the visits in ascending crane number by `checkVisits_eq`. -/
theorem resumeCheckEndsInHold : Obligations.ResumeCheckEndsInHold := by
  intro s quiet
  refine ⟨fun none => ?_, ?_⟩
  · simp only [exec, execResumeCheckExpiry, none]
  · intro c check run sound result halted resumed entered
    have result_eq : result = s.resultOf c := funext fun k => (s.resultOf_eq c k).symm
    have entered_eq : entered = s.checkEntry c := funext fun k => by
      simp only [entered, result_eq, State.checkEntry]
      cases s.resultOf c k <;> rfl
    have resumed_eq : resumed = halted.filter (fun k => (s.resultOf c k).resumes) := by
      simp only [resumed, result_eq]
      rfl
    obtain ⟨records, whole⟩ := State.endCheck_eq c run sound (halted := halted) rfl
    have still : (s.endCheck c).quiet := by
      rw [whole]
      exact quiet
    refine ⟨s.endCheck c, ?_, fun k => ?_, ?_⟩
    · simp only [exec, execResumeCheckExpiry, check]
      rw [State.finish, State.reexamine_quiet still]
    · rw [records, result_eq]
      cases flag : (s.crane k).stopHalted with
      | false =>
        rw [if_neg Bool.false_ne_true, if_pos rfl, ← flag]
      | true =>
        rw [if_pos rfl, if_neg Bool.noConfusion, State.checked]
        cases s.resultOf c k <;> rfl
    · rw [result_eq, entered_eq, resumed_eq]
      exact whole

end Sys2Proof.Machine
end

section
/-! SUPPORT. RESTART (R167) and POWER_ON (R168). -/

namespace Sys2Proof.Machine

variable {s : State} {k : Nat}

/-! ## What RESTART makes of each block (R22, R121, R155) -/

theorem State.loc_restarted (s : State) (l : Loc) : s.restarted.loc l = (s.loc l).restarted := by
  rw [State.loc, State.restarted_locs, tableGet_map, State.loc]
  cases tableGet (locKey l) s.locs <;> rfl

theorem Crane.restarted_eq (c : Crane) : c.restarted = { c with
    chan := (if c.chan = .offline then .offline else if c.chan = .parked then .parked else .listen)
    speed := c.pendSpeed.getD c.speed, pendSpeed := none
    figures := (if c.pendFigures = none then c.figures else c.pendFigures), pendFigures := none
    reach := (if c.pendReach = none then c.reach else c.pendReach), pendReach := none
    stopHalted := false, pendingPark := false, plan := [], cycle := none, estimate := 0, parkLeg := none
    curLeg := 0, legEst := 0, takenTimer := none, legTimer := none, parkHold := none, bad := 0
    roomWait := false, request := none, rx := .searching, load := c.load.map (fun l => { l with resolved := false }) } := by
  have chan : c.chan.restarted =
      (if c.chan = .offline then .offline else if c.chan = .parked then .parked else .listen) := by
    cases c.chan <;> rfl
  rw [Crane.restarted, chan, Crane.withPending_eq]

/-- The telegrams that stop the cranes `ks`: the BUSY ones, and those with a park leg outstanding. -/
theorem State.portOut_restartStops (s : State) (ks : List Nat) : (ks.foldl State.restartStop s).portOut = s.portOut ++
    (ks.filter (fun k => decide ((s.crane k).chan = .busy ∨ ((s.crane k).chan = .parking ∧ (s.crane k).curLeg ≠ 0)))).map
      (fun k => (k, [0x02, BitVec.ofNat 8 k])) := by
  induction ks generalizing s with
  | nil => exact (List.append_nil _).symm
  | cons k ks ih =>
    have same (j : Nat) : (s.restartStop k).crane j = s.crane j := by
      unfold State.restartStop
      split <;> rfl
    rw [List.foldl_cons, ih]
    simp only [same]
    unfold State.restartStop
    split
    · rename_i stops
      rw [List.filter_cons, if_pos (decide_eq_true stops), State.stopCrane, State.portSend, stopTelegram_eq]
      simp only [List.map_cons, List.append_assoc, List.singleton_append]
    · rename_i runs
      rw [List.filter_cons, if_neg (mt of_decide_eq_true runs)]

theorem State.restarted_eq (s : State) : s.restarted = { s with
    locs := s.locs.map (fun e => (e.1, e.2.restarted)), pool := [], admNext := 1, intNext := 2147483648
    stations := s.stations.map (fun e => (e.1, { e.2 with pend := 0, queue := [] })), groups := [], holds := []
    cranes := s.cranes.map Crane.restarted, readyOrder := [], passDue := false, passRun := none
    mode := { s.mode with run := s.mode.restartedRun, check := none, snapshot := none }
    link := s.link.restarted
    work := { pairs := [], allBusy := false }
    portOut := s.portOut ++ (craneNumbers.filter (fun k => decide ((s.crane k).chan = .busy ∨
      ((s.crane k).chan = .parking ∧ (s.crane k).curLeg ≠ 0)))).map (fun k => (k, [0x02, BitVec.ofNat 8 k])) } := by
  rw [State.restarted, State.restartStops_eq, State.portOut_restartStops]

/-- RESTART's reply behind the telegram that is being sent, with both flags clear (R177, R181). -/
theorem Link.answer_restarted (l : Link) (code tag : Nat) (r : Result) (d : List Byte) : l.restarted.answer code tag r d =
    { l with
      rx := .searching, ring := [], overrun := false, lost := 0
      out := (if l.begun = true then l.out.take 1 else []) ++ [.reply code tag r false false d]
      begun := l.begun || l.hostReady } := by
  rw [Link.answer_eq]
  rfl

/-- Settles O35: block by block from `restarted_eq`, the reply by `answer_restarted`. -/
theorem restartClearsTheWork : Obligations.RestartClearsTheWork := by
  intro tag s takes after
  have run : s.mode.restartedRun = after := rfl
  have data : beBytes 1 s.mode.restartedRun.code = [BitVec.ofNat 8 after.code] := by
    rw [run]
    simp [beBytes]
  have quiet : s.restarted.quiet := rfl
  refine ⟨s.restarted.answer 0xBF tag .ok [BitVec.ofNat 8 after.code], ?_, fun l => ?_, fun n => ?_, fun k k1 k12 => ?_, ?_⟩
  · rw [exec_taken rfl takes, runRequest, runRestart, State.conclude_quiet quiet, data]
  · exact (State.loc_congr (State.answer_locs s.restarted _ _ _ _) l).trans (s.loc_restarted l)
  · rw [State.station_congr (State.answer_stations s.restarted _ _ _ _) n, State.station, State.restarted_eq]
    exact tableGet_map (fun e : Station => { e with pend := 0, queue := [] }) n s.stations
  · have cranes : (s.restarted.answer 0xBF tag .ok [BitVec.ofNat 8 after.code]).cranes =
        ({ s with cranes := s.cranes.map Crane.restarted } : State).cranes := by
      rw [State.answer_cranes, State.restarted_cranes]
    rw [State.crane_congr cranes k, State.crane_map s _ ⟨k1, k12⟩, Crane.restarted_eq]
  · simp only [State.answer, State.restarted_eq, Link.answer_restarted, run]

/-! ## POWER_ON (R168) -/

/-- A crane's record at reset, inside and outside the crane numbers. -/
theorem State.crane_reset (k : Nat) : State.reset.crane k = Crane.reset := by
  by_cases number : 1 ≤ k ∧ k ≤ 12
  · simp [State.crane, number, State.reset]
  · exact State.crane_outside _ number

theorem State.reset_railSafe : State.reset.railSafe := by
  have unheld (k n : Nat) (r : Role) : (State.reset.crane k).hasRole n r = false := by
    rw [State.crane_reset]
    rfl
  refine ⟨fun i j n r held => ?_, fun k _ => ?_, fun i j n v w _ held => ?_⟩
  · rw [unheld] at held
    cases held
  · rw [State.crane_reset]
    rfl
  · rw [unheld] at held
    cases held

/-- Settles O52: the invariants of the empty tables, and those of the cranes by `crane_reset`. -/
theorem powerOnResetsEveryBlock : Obligations.PowerOnResetsEveryBlock := by
  refine ⟨fun s => rfl, rfl, rfl, rfl, rfl, rfl, rfl, rfl, rfl, rfl, rfl, rfl, fun k _ _ => ?_, rfl, rfl, rfl, rfl, rfl, rfl,
    rfl, rfl, rfl, rfl, ?locs, by decide, ⟨by decide, trivial⟩, ?pool, State.reset_railSafe, ?aisles, ?numbers, ?groups,
    rfl, rfl, rfl, ?pass, ?check⟩
  · rw [State.crane_reset]
    simp only [Crane.reset, and_self]
  case locs => exact ⟨List.Pairwise.nil, fun _ listed => absurd listed List.not_mem_nil⟩
  case pool =>
    exact ⟨Nat.zero_le _, Nat.zero_le _, List.Pairwise.nil, fun _ listed => absurd listed List.not_mem_nil,
      by norm_num [State.reset]⟩
  case aisles => exact ⟨List.Pairwise.nil, fun _ listed => absurd listed List.not_mem_nil⟩
  case numbers =>
    exact ⟨List.nodup_nil, fun _ listed => absurd listed List.not_mem_nil, le_rfl, by norm_num [State.reset]⟩
  case groups => exact fun _ listed => absurd listed List.not_mem_nil
  case pass => exact ⟨nofun, nofun⟩
  case check => exact fun running => absurd rfl running

end Sys2Proof.Machine
end

section
/-! SUPPORT. The commands that change the run state (R157). -/

namespace Sys2Proof.Machine

variable {s t : State}

theorem State.conclude_run (s : State) (code tag : Nat) (r : Result) (d : List Byte) :
    (s.conclude code tag r d).mode.run = s.mode.run := (Calm.plain s code tag r d).1

theorem State.finish_run (s : State) : s.finish.mode.run = s.mode.run := (Calm.refl s).reexamine.1

/-- A request that has changed the run state was taken at once. -/
theorem exec_request_ran {i : Instr} (hi : i.isRequest = true) (he : exec i s = .next t)
    (moved : t.mode.run ≠ s.mode.run) : t = runRequest i s := by
  rw [exec_request i hi] at he
  obtain rfl := Host.Outcome.next.inj he
  unfold State.present at moved ⊢
  split
  · rfl
  · rename_i waits
    rw [if_neg waits] at moved
    exact absurd rfl moved

/-! ## The requests that set the run state (R159, R162, R167) -/

theorem runStart_run {tag : Nat} (moved : (runStart tag s).mode.run ≠ s.mode.run) :
    s.mode.run = .config ∧ (runStart tag s).mode.run = .run := by
  have config : s.mode.run = .config := by
    by_contra run
    have refused : runStart tag s = s.conclude 0x16 tag .wrongMode [] := if_pos (by simp [State.inConfig, run])
    rw [refused, State.conclude_run] at moved
    exact moved rfl
  refine ⟨config, ?_⟩
  rw [runStart_config config] at moved ⊢
  split at moved
  · exact absurd (s.conclude_run ..) moved
  · split at moved
    · exact absurd (s.conclude_run ..) moved
    · rename_i sound stop
      rw [if_neg stop, State.conclude_run, State.enterRun_eq]

theorem modeRunOf_cases (n : Nat) : (modeRunOf n).getD .hold = .run ∨ (modeRunOf n).getD .hold = .hold := by
  rcases n with _ | _ | _ | n <;> simp [modeRunOf]

theorem runSetMode_run {tag r v a : Nat} (moved : (runSetMode tag r v a s).mode.run ≠ s.mode.run) :
    (s.mode.run = .run ∧ (runSetMode tag r v a s).mode.run = .hold) ∨
      (s.mode.run = .hold ∧ (runSetMode tag r v a s).mode.run = .run) := by
  by_cases ok : s.checkMode r v a = .ok
  · have commanded : s.mode.run = .run ∨ s.mode.run = .hold := by
      classical
      rw [State.checkMode_eq] at ok
      have taken : ¬ (s.mode.run = .config ∨ s.mode.run = .safe) := fun refused => by
        rw [if_pos refused] at ok
        cases ok
      cases run : s.mode.run with
      | run => exact .inl rfl
      | hold => exact .inr rfl
      | config => exact absurd (.inl run) taken
      | safe => exact absurd (.inr run) taken
    have set : (runSetMode tag r v a s).mode.run = (modeRunOf r).getD .hold := by
      obtain ⟨cranes, applied, -⟩ := s.applyMode_eq ((modeRunOf r).getD .hold) ((speedOf v).getD .normal) (aislesOf a)
      rw [runSetMode, State.judgedData_ok ok, State.conclude_run, applied]
    rw [set] at moved ⊢
    rcases commanded with run | run <;> rcases modeRunOf_cases r with new | new <;> simp [run, new] at moved ⊢
  · rw [runSetMode, State.judgedData_refused ok, State.conclude_run] at moved
    exact absurd rfl moved

theorem runRestart_run {tag : Nat} (moved : (runRestart tag s).mode.run ≠ s.mode.run) :
    (s.mode.run = .run ∨ (s.mode.run = .safe ∧ s.mode.stop = false)) ∧ (runRestart tag s).mode.run = .hold := by
  have set : (runRestart tag s).mode.run = s.mode.restartedRun := by
    rw [runRestart, State.conclude_run, State.restarted_eq]
  rw [set] at moved ⊢
  unfold Mode.restartedRun at moved ⊢
  cases run : s.mode.run with
  | config | hold => simp [run] at moved
  | run => exact ⟨.inl rfl, rfl⟩
  | safe => cases stop : s.mode.stop <;> simp [run, stop] at moved ⊢

/-! ## The stop input and the resume check (R163, R166) -/

theorem State.enterSafe_run (s : State) : s.enterSafe.mode.run = .safe := by
  have begun : InSafe { s.mode with run := .safe }
      { s with mode := { s.mode with run := .safe }, passDue := false, passRun := none } := ⟨rfl, rfl⟩
  have halted := begun.foldl (fun v k hv => hv.safeCrane k) craneNumbers
  unfold State.enterSafe
  dsimp only
  generalize craneNumbers.foldl State.safeCrane
    { s with mode := { s.mode with run := .safe }, passDue := false, passRun := none } = u at halted ⊢
  have safe : u.mode.run = .safe := by rw [halted.1]
  exact ((Calm.refl u).setSnapshot _).reexamine.1.trans safe

theorem State.stopInput_run {b : Bool} (moved : (s.stopInput b).mode.run ≠ s.mode.run) :
    b = true ∧ (s.mode.run = .run ∨ s.mode.run = .hold) ∧ (s.stopInput b).mode.run = .safe := by
  by_cases same : s.mode.stop = b
  · rw [State.stopInput_same same] at moved
    exact absurd rfl moved
  cases run : s.mode.run with
  | config =>
    rw [State.stopInput_config run] at moved
    exact absurd rfl moved
  | safe =>
    rw [State.stopInput_safe run same] at moved
    exact absurd rfl moved
  | run | hold =>
    cases b with
    | true =>
      rw [State.stopInput_asserted (by simp [run]) same]
      exact ⟨rfl, by simp, State.enterSafe_run _⟩
    | false =>
      rw [State.stopInput_released (by simp [run]) same] at moved
      exact absurd rfl moved

theorem execStopInputChange_run {b : Bool} (he : exec (.stopInputChange b) s = .next t)
    (moved : t.mode.run ≠ s.mode.run) :
    b = true ∧ (s.mode.run = .run ∨ s.mode.run = .hold) ∧ t.mode.run = .safe := by
  obtain rfl := Host.Outcome.next.inj he
  rw [State.finish_run] at moved ⊢
  exact State.stopInput_run (s := s.settleStop) moved

theorem State.endCheck_run (s : State) (c : Check) : (s.endCheck c).mode.run = .hold := by
  unfold State.endCheck
  generalize craneNumbers.foldl (checkVisit c) (s, []) = visited
  rfl

/-- Settles O55: a command that may not set the run state is calm, and each of the others by its own lemma. -/
theorem onlyModeCommandsChangeTheRunState : Obligations.OnlyModeCommandsChangeTheRunState := by
  intro i s t sound he moved
  by_cases plain : i.setsRun = false
  · exact absurd (exec_calm plain he).1 moved
  cases i
  case powerOn =>
    obtain rfl := Host.Outcome.next.inj he
    rfl
  case start tag =>
    obtain rfl := exec_request_ran rfl he moved
    exact runStart_run moved
  case setMode tag r v a =>
    obtain rfl := exec_request_ran rfl he moved
    exact runSetMode_run moved
  case restart tag =>
    obtain rfl := exec_request_ran rfl he moved
    exact runRestart_run moved
  case stopInputChange b => exact execStopInputChange_run he moved
  case stopInputSettled b =>
    simp only [exec, execStopInputSettled] at he
    by_cases settled : s.mode.settled = true
    · rw [if_pos settled] at he
      obtain rfl := Host.Outcome.next.inj he
      exact absurd rfl moved
    · rw [if_neg settled] at he
      exact execStopInputChange_run he moved
  case resumeCheckExpiry =>
    simp only [exec, execResumeCheckExpiry] at he
    cases check : s.mode.check with
    | none =>
      rw [check] at he
      obtain rfl := Host.Outcome.next.inj he
      exact absurd rfl moved
    | some c =>
      rw [check] at he
      obtain rfl := Host.Outcome.next.inj he
      exact ⟨sound (by simp [check]), nofun, (State.finish_run _).trans (s.endCheck_run c)⟩
  all_goals exact absurd rfl plain

end Sys2Proof.Machine
end

section
/-! SUPPORT. A request's bytes read back field by field (R173, R184, R185), and a request that waits (R175, R176). -/

namespace Sys2Proof.Machine

/-! ## Groups of fields at the end of a body (R184) -/

theorem readLoc_bytes_end {q : LocFields} (h : q.wf = true) : readLoc q.bytes = (q, []) := by
  simpa using readLoc_bytes h []

theorem readReach_bytes_end {q : ReachFields} (h : q.wf = true) : readReach q.bytes = (q, []) := by
  simpa using readReach_bytes h []

theorem readFigures_bytes_end {q : FigureFields} (h : q.wf = true) : readFigures q.bytes = (q, []) := by
  simpa using readFigures_bytes h []

/-! ## The fields of each request (R185) -/

theorem readAisle_bytes {q : AisleFields} (h : q.wf = true) : readAisle q.bytes = q := by
  simp only [AisleFields.wf, Bool.and_eq_true, decide_eq_true_eq] at h
  simp [readAisle, AisleFields.bytes, readBe_beBytes, readBe_beBytes_end, h]

theorem readCrane_bytes {q : CraneFields} (h : q.wf = true) : readCrane q.bytes = q := by
  simp only [CraneFields.wf, Bool.and_eq_true, decide_eq_true_eq] at h
  simp [readCrane, CraneFields.bytes, readBe_beBytes, readReach_bytes, readFigures_bytes_end, h]

theorem readStation_bytes {q : StationFields} (h : q.wf = true) : readStation q.bytes = q := by
  simp only [StationFields.wf, Bool.and_eq_true, decide_eq_true_eq] at h
  simp [readStation, StationFields.bytes, readBe_beBytes, readBe_beBytes_end, h]

theorem readPolicy_bytes {q : PolicyFields} (h : q.wf = true) : readPolicy q.bytes = q := by
  simp only [PolicyFields.wf, Bool.and_eq_true, decide_eq_true_eq] at h
  simp [readPolicy, PolicyFields.bytes, readBe_beBytes, readBe_beBytes_end, h]

theorem readStore_bytes {q : StoreFields} (h : q.wf = true) : readStore q.bytes = q := by
  simp only [StoreFields.wf, Bool.and_eq_true, decide_eq_true_eq] at h
  simp [readStore, StoreFields.bytes, readBe_beBytes, readBe_beBytes_end, readLoc_bytes, readFilter_bytes, h]

theorem readRetrieve_bytes {q : RetrieveFields} (h : q.wf = true) : readRetrieve q.bytes = q := by
  simp only [RetrieveFields.wf, Bool.and_eq_true, decide_eq_true_eq] at h
  simp [readRetrieve, RetrieveFields.bytes, readBe_beBytes, readBe_beBytes_end, readLoc_bytes, h]

theorem readRecover_bytes {q : RecoverFields} (h : q.wf = true) : readRecover q.bytes = q := by
  simp only [RecoverFields.wf, Bool.and_eq_true, decide_eq_true_eq] at h
  simp [readRecover, RecoverFields.bytes, readBe_beBytes, readBe_beBytes_end, readLoc_bytes, h]

theorem readSetLoc_bytes {q : SetLocFields} (h : q.wf = true) : readSetLoc q.bytes = q := by
  simp only [SetLocFields.wf, Bool.and_eq_true, decide_eq_true_eq] at h
  simp [readSetLoc, SetLocFields.bytes, readBe_beBytes, readBe_beBytes_end, readLoc_bytes, h]

theorem readOriginator_bytes {originator aisle mask preset : Nat} (ho : originator < 256) (ha : aisle < 256)
    (hm : mask < 256) (hp : preset < 256) (tag : Nat) :
    readOriginator tag (beBytes 1 originator ++ (beBytes 1 aisle ++ (beBytes 1 mask ++ beBytes 1 preset))) =
      .setOriginator tag originator aisle mask preset := by
  simp [readOriginator, readBe_beBytes, readBe_beBytes_end, ho, ha, hm, hp]

theorem readSetAttr_bytes {originator attrs : Nat} {l : LocFields} (ho : originator < 256) (hl : l.wf = true)
    (ha : attrs < 256) (tag : Nat) :
    readSetAttr tag (beBytes 1 originator ++ (l.bytes ++ beBytes 1 attrs)) = .setAttr tag originator l attrs := by
  simp [readSetAttr, readBe_beBytes, readBe_beBytes_end, readLoc_bytes, ho, hl, ha]

theorem readMark_bytes {originator levels : Nat} {c : ColFields} (ho : originator < 256) (hc : c.wf = true)
    (hl : levels < 4294967296) (tag : Nat) :
    readMark tag (beBytes 1 originator ++ (c.bytes ++ beBytes 4 levels)) = .mark tag originator c levels := by
  simp [readMark, readBe_beBytes, readBe_beBytes_end, readCol_bytes, ho, hc, hl]

theorem readSetMode_bytes {run speed active : Nat} (hr : run < 256) (hv : speed < 256) (ha : active < 256) (tag : Nat) :
    readSetMode tag (beBytes 1 run ++ (beBytes 1 speed ++ beBytes 1 active)) = .setMode tag run speed active := by
  simp [readSetMode, readBe_beBytes, readBe_beBytes_end, hr, hv, ha]

/-- The level entries are read one behind the other. -/
theorem readLevels_bytes {entries : List LevelFields} (h : ∀ e ∈ entries, e.wf = true) :
    readLevels entries.length (levelBytes entries) = entries := by
  induction entries with
  | nil => rfl
  | cons e rest ih =>
    obtain ⟨he, hrest⟩ := List.forall_mem_cons.mp h
    simp only [LevelFields.wf, Bool.and_eq_true, decide_eq_true_eq] at he
    simp [readLevels, levelBytes, readBe_beBytes, he, ih hrest]

/-- The number of level entries is read off the length of the body. -/
theorem readLoadMap_bytes {column : ColFields} {entries : List LevelFields} (hc : column.wf = true)
    (he : ∀ e ∈ entries, e.wf = true) (tag : Nat) :
    readLoadMap tag (column.bytes ++ levelBytes entries) = .loadMap tag column entries := by
  simp [readLoadMap, readCol_bytes hc, readLevels_bytes he]

/-! ## A request read back whole -/

/-- A body of the one length that its code requires (R185). -/
theorem decodeRequest_exactly {code tag n : Nat} {fields : List Byte} {i j : Instr} (hc : code < 256) (ht : tag < 65536)
    (row : decodeFields code tag fields = exactly n code tag fields j) (length : fields.length = n) (read : j = i) :
    decodeRequest (beBytes 1 code ++ (beBytes 2 tag ++ fields)) = .command i := by
  rw [decodeRequest_bytes hc ht, row, exactly, if_pos length, read]

/-- A code outside the table of R185 keeps its fields as they came (R176). -/
theorem decodeFields_unknown {code : Nat} (unknown : requestCodes.contains code = false) (tag : Nat) (fields : List Byte) :
    decodeFields code tag fields = .command (.unknownCode tag code fields) := by
  simp only [requestCodes, List.contains_eq_mem, List.mem_cons, List.not_mem_nil, or_false, decide_eq_false_iff_not,
    not_or] at unknown
  simp [decodeFields, unknown]

/-- Settles O4: each code's length is that of the request's fields, and its fields are read back one by one. -/
theorem requestBytesReadBack : Obligations.RequestBytesReadBack := by
  intro i request wf
  cases i <;> simp only [Instr.isRequest, Bool.false_eq_true] at request
  all_goals simp only [Instr.wf, Bool.and_eq_true, decide_eq_true_eq] at wf
  case identify | queryPolicy | start | restart => exact decodeRequest_exactly (by decide) wf rfl rfl rfl
  case status | queryJob | queryCrane | queryGroup | cancel | groupClose =>
    exact decodeRequest_exactly (by decide) wf.1 rfl (beBytes_length ..) (by rw [readBe_beBytes_end wf.2])
  case queryLoc tag l =>
    exact decodeRequest_exactly (by decide) wf.1 rfl l.bytes_length (by rw [readLoc_bytes_end wf.2])
  case setAisle tag q =>
    exact decodeRequest_exactly (by decide) wf.1 rfl q.bytes_length (by rw [readAisle_bytes wf.2])
  case setCrane tag q =>
    exact decodeRequest_exactly (by decide) wf.1 rfl q.bytes_length (by rw [readCrane_bytes wf.2])
  case setStation tag q =>
    exact decodeRequest_exactly (by decide) wf.1 rfl q.bytes_length (by rw [readStation_bytes wf.2])
  case setPolicy tag q =>
    exact decodeRequest_exactly (by decide) wf.1 rfl q.bytes_length (by rw [readPolicy_bytes wf.2])
  case store tag q =>
    exact decodeRequest_exactly (by decide) wf.1 rfl q.bytes_length (by rw [readStore_bytes wf.2])
  case retrieve tag q =>
    exact decodeRequest_exactly (by decide) wf.1 rfl q.bytes_length (by rw [readRetrieve_bytes wf.2])
  case recover tag q =>
    exact decodeRequest_exactly (by decide) wf.1 rfl q.bytes_length (by rw [readRecover_bytes wf.2])
  case setLoc tag q =>
    exact decodeRequest_exactly (by decide) wf.1 rfl q.bytes_length (by rw [readSetLoc_bytes wf.2])
  case groupOpen | groupSkip =>
    refine decodeRequest_exactly (n := 3) (by decide) wf.1.1 rfl (by simp) ?_
    simp [readBe_beBytes, readBe_beBytes_end, wf]
  case stationClear =>
    refine decodeRequest_exactly (n := 2) (by decide) wf.1.1 rfl (by simp) ?_
    simp [readBe_beBytes, readBe_beBytes_end, wf]
  case setOriginator =>
    obtain ⟨⟨⟨⟨ht, ho⟩, ha⟩, hm⟩, hp⟩ := wf
    exact decodeRequest_exactly (n := 4) (by decide) ht rfl (by simp) (readOriginator_bytes ho ha hm hp _)
  case setAttr =>
    obtain ⟨⟨⟨ht, ho⟩, hl⟩, ha⟩ := wf
    exact decodeRequest_exactly (n := 7) (by decide) ht rfl (by simp) (readSetAttr_bytes ho hl ha _)
  case mark =>
    obtain ⟨⟨⟨ht, ho⟩, hc⟩, hl⟩ := wf
    exact decodeRequest_exactly (n := 9) (by decide) ht rfl (by simp) (readMark_bytes ho hc hl _)
  case setMode =>
    obtain ⟨⟨⟨ht, hr⟩, hv⟩, ha⟩ := wf
    exact decodeRequest_exactly (n := 3) (by decide) ht rfl (by simp) (readSetMode_bytes hr hv ha _)
  case loadMap tag column entries =>
    obtain ⟨⟨⟨ht, hc⟩, few⟩, he⟩ := wf
    refine (decodeRequest_bytes (by decide) ht _).trans ?_
    rw [decodeFields_loadMap, readLoadMap_bytes hc (List.all_eq_true.mp he), if_pos]
    simp only [List.length_append, ColFields.bytes_length, levelBytes_length]
    omega
  case unknownCode tag code fields =>
    obtain ⟨⟨⟨ht, hc⟩, unknown⟩, -⟩ := wf
    exact (decodeRequest_bytes hc ht _).trans (decodeFields_unknown (by simpa using unknown) tag fields)
  case craneCtlResume | craneCtlPark | craneCtlProfile | craneCtlReach =>
    refine (decodeRequest_bytes (by decide) (by simp only [wf]) _).trans ?_
    rw [decodeFields_craneCtl, decodeCraneCtl]
    simp [readBe_beBytes, readBe_beBytes_end, readFigures_bytes_end, readReach_bytes_end, wf]

/-! ## A request command (R175, R176; entry 3) -/

/-- A request joins the ring, or is lost, where others wait or a reply is queued. -/
theorem State.present_waits {s : State} (waits : s.link.ring ≠ [] ∨ s.link.replyQueued = true) (i : Instr)
    (run : State → State) : s.present i run = { s with link := s.link.arrive (encodeRequest i) } := by
  refine if_neg fun free => ?_
  simp only [State.canTake, Bool.and_eq_true, List.isEmpty_iff, Bool.not_eq_true'] at free
  rcases waits with ring | queued
  · exact ring free.1
  · exact Bool.noConfusion (queued.symm.trans free.2)

theorem Link.arrive_eq (l : Link) (body : List Byte) : l.arrive body =
    if (l.ring.map (fun (b : List Byte) => b.length + 2)).sum + l.rx.setAside + (body.length + 2) ≤ 2048 then
      { l with ring := l.ring ++ [body] }
    else { l with overrun := true } := by
  simp only [Link.arrive, Link.roomFor_iff, Link.ringBytes]

/-- Settles O6: the body taken is read back as the request (O4); one that finds another waiting arrives in the ring. -/
theorem requestTakenAtOnceOrWaits : Obligations.RequestTakenAtOnceOrWaits := by
  refine ⟨fun i s request wf takes => ?_, fun i s request waits => ?_⟩
  · rw [exec_taken request takes, runBody, requestBytesReadBack i request wf]
  · rw [exec_request i request, State.present_waits waits, Link.arrive_eq]

end Sys2Proof.Machine
end

section
/-! SUPPORT. The idle step: the link unit takes the oldest waiting request, or a millisecond passes (R176; entry 2). -/

namespace Sys2Proof.Machine

variable {s : State}

/-! ## What an idle step does -/

theorem State.dispatches_none (idle : s.passRun = none) (none_due : ¬ (s.passDue = true ∧ s.mode.run = .run)) :
    s.dispatches = false := by
  simpa [State.dispatches, idle] using none_due

/-- With no command, and no pass running or due, the link unit or the clock has the step. -/
theorem step_undispatched (empty : s.pending = []) (resting : s.dispatches = false) : step s =
    .next (if !s.link.ring.isEmpty && s.canTake then s.takeRequest else s.tick) := by
  unfold step State.idle
  rw [empty, resting]
  rfl

theorem State.canTake_iff (s : State) : s.canTake = true ↔ ∀ t ∈ s.link.out, t.isReply = false := by
  simp [State.canTake, Link.replyQueued]

/-- The oldest waiting request leaves the ring and is handled (R176). -/
theorem State.takeRequest_cons {body : List Byte} {rest : List (List Byte)} (ring : s.link.ring = body :: rest) :
    s.takeRequest = runBody body { s with link := { s.link with ring := rest } } := by
  unfold State.takeRequest
  rw [ring]

/-! ## A millisecond -/

/-- The timers of one crane (R94, R102, R118). -/
theorem State.crane_tick {k : Nat} (number : 1 ≤ k ∧ k ≤ 12) : s.tick.crane k = (s.crane k).tick :=
  (State.crane_congr (s := { s with cranes := s.cranes.map Crane.tick }) rfl k).trans (s.crane_map Crane.tick number)

/-- Settles O2: the two arms of an undispatched step, and the fields of a tick. -/
theorem idleStepTakesOldestRequestOrTicks : Obligations.IdleStepTakesOldestRequestOrTicks := by
  refine ⟨fun s empty idle none_due => ?_, fun s => ⟨fun k low high => s.crane_tick ⟨low, high⟩, rfl⟩⟩
  rw [step_undispatched empty (State.dispatches_none idle none_due)]
  refine ⟨fun body rest ring no_reply => ?_, fun ring => ?_, fun t queued reply => ?_⟩
  · have takes : (!s.link.ring.isEmpty && s.canTake) = true := by simp [ring, s.canTake_iff.mpr no_reply]
    rw [if_pos takes, State.takeRequest_cons ring]
  · have keeps : ¬ (!s.link.ring.isEmpty && s.canTake) = true := by simp [ring]
    rw [if_neg keeps]
  · have keeps : ¬ (!s.link.ring.isEmpty && s.canTake) = true := fun free =>
      Bool.noConfusion ((s.canTake_iff.mp (Bool.and_eq_true_iff.mp free).2 t queued).symm.trans reply)
    rw [if_neg keeps]

end Sys2Proof.Machine
end

section
/-! SUPPORT. The output queue: the host-ready line, the end of a sending, replies and reports (R171, R177 to R179). -/

namespace Sys2Proof.Machine

variable {s : State} {l : Link}

/-! ## The end of a sending (R178, R179) -/

/-- REPORTS_LOST joins a queue with two free places. -/
theorem Link.reportLost_made (h : 0 < l.lost ∧ l.out.length ≤ 126) :
    l.reportLost = { l with out := l.out ++ [.report (.reportsLost l.lost)], lost := 0 } :=
  if_pos ⟨h.1, Nat.add_le_add_right h.2 2⟩

theorem Link.reportLost_kept (h : ¬ (0 < l.lost ∧ l.out.length ≤ 126)) : l.reportLost = l :=
  if_neg fun ⟨lost, room⟩ => h ⟨lost, Nat.le_of_add_le_add_right room⟩

theorem Link.sent_eq {t : Telegram} {rest : List Telegram} (out : l.out = t :: rest) : l.sent =
    if 0 < l.lost ∧ rest.length ≤ 126 then
      { l with out := rest ++ [.report (.reportsLost l.lost)], lost := 0, begun := l.hostReady }
    else { l with out := rest, begun := l.hostReady && !rest.isEmpty } := by
  rw [Link.sent, out, List.tail_cons, Link.start_eq]
  split
  · rw [Link.reportLost_made ‹_›]
    simp
  · rw [Link.reportLost_kept ‹_›]
    simp

theorem reportsLost_body (n : Nat) : (Telegram.report (.reportsLost n)).body = 0xCA :: (beBytes 2 0 ++ beBytes 2 n) := rfl

/-- Settles O8: the line and the sending each end with the test of the head. -/
theorem hostReadyAndSentTelegrams : Obligations.HostReadyAndSentTelegrams := by
  refine ⟨fun ready s => ?_, fun t rest s begun out => ?_, reportsLost_body⟩
  · rw [exec, execHostReadyChange, Link.start_eq]
  · rw [exec, execTelegramSent, if_pos begun, Link.sent_eq out, out]
    rfl

/-! ## Replies and reports (R177, R178) -/

/-- Where no waiting retrieve is concerned, the end of an event only forgets what was touched (R38). -/
theorem State.reexamine_unconcerned (h : ∀ j ∈ s.pool, s.work.concerns j = false) : s.reexamine = s.clearWork := by
  refine State.reexamineRun_of_none ?_ _
  rw [State.concerned, List.filter_eq_nil_iff.mpr fun j mem => by simp [h j mem], List.map_nil]

theorem Link.report_eq (l : Link) (r : Report) : l.report r =
    if (l.out.filter (fun t => !t.isReply)).length < 127 then
      { l with out := l.out ++ [.report r], begun := l.begun || l.hostReady }
    else { l with lost := countUp l.lost } := by
  rw [Link.report, Link.enqueue_eq, Link.reports]

/-- Settles O9: a request that concerns no job ends with its reply; a report is queued or counted. -/
theorem repliesAndReportsJoinTheQueue : Obligations.RepliesAndReportsJoinTheQueue := by
  refine ⟨fun code tag r data s unconcerned => ?_, fun r s => ?_⟩
  · rw [State.conclude, State.reexamine_unconcerned unconcerned, State.answer, Link.answer_eq]
    rfl
  · rw [State.report, Link.report_eq]
    rfl

end Sys2Proof.Machine
end

section
/-! SUPPORT. IDENTIFY (R183) and STATUS (R182, R186). -/

namespace Sys2Proof.Machine

variable {s : State}

/-! ## IDENTIFY (R183) -/

theorem beBytes_one (v : Nat) : beBytes 1 v = [BitVec.ofNat 8 v] := by simp [beBytes]

theorem revision_range : 1 ≤ revision ∧ revision ≤ 255 := by
  have := Config.revisionChoice.isLt
  unfold revision
  omega

theorem identifyData_eq : identifyData = [0xD0, 0x12, BitVec.ofNat 8 revision] := by
  rw [identifyData, beBytes_one]
  rfl

/-- Settles O10: the free revision number is R183's, whatever the release fixes (entry 13). -/
theorem identifyNamesThePart : Obligations.IdentifyNamesThePart := by
  refine ⟨revision, revision_range.1, revision_range.2, fun tag s takes quiet => ?_⟩
  rw [exec_taken rfl takes, runRequest, runIdentify, State.conclude_replied quiet, identifyData_eq]

/-! ## STATUS (R182) -/

theorem State.clearErrors_eq (s : State) (clear : Nat) :
    s.clearErrors clear = { s with link := { s.link with errors := if clear = 1 then 0 else s.link.errors } } := by
  unfold State.clearErrors
  split <;> rfl

/-- The status byte of a crane: configured above, the channel state below (R186). -/
theorem craneStatusByte_eq (c : Crane) :
    craneStatusByte c.configured c.chan.code = (if c.cfg = none then 0 else 128) + c.chan.code := by
  unfold craneStatusByte Crane.configured
  cases c.cfg <;> rfl

/-- The status block in R186's order, the counts of jobs by state as one run of items. -/
theorem State.statusBlock_eq (s : State) : s.statusBlock =
    beBytes 1 s.mode.run.code ++ beBytes 1 s.mode.speed.code ++ beBytes 1 (aislesByte s.mode.active) ++
      beBytes 1 (if s.mode.stop then 1 else 0) ++ beBytes 2 s.mode.remaining ++
      [1, 2, 3, 4, 5, 6].flatMap (fun c => beBytes 2 (s.jobsIn c)) ++
      beBytes 2 (s.pool.filter (fun j => j.kind == .store || j.kind == .retrieve)).length ++
      beBytes 1 (s.pool.filter (fun j => j.kind == .relocate || j.kind == .recover)).length ++
      beBytes 2 s.link.ring.length ++ beBytes 2 s.link.ringBytes ++ beBytes 1 s.link.out.length ++
      beBytes 2 s.link.errors ++ beBytes 2 s.link.lost ++
      craneNumbers.flatMap (fun k =>
        beBytes 1 ((if (s.crane k).cfg = none then 0 else 128) + (s.crane k).chan.code)) := by
  -- The equation of `statusBlock` would be found by evaluating its bytes.
  delta State.statusBlock
  simp only [flagByte_eq, State.hostJobs_eq, State.internalJobs_eq, craneStatusByte_eq,
    List.flatMap_cons, List.flatMap_nil, List.append_assoc, List.append_nil]

/-- Settles O11: a clear field above 1 is refused, else the reply is the status block read before the count is cleared. -/
theorem statusReadsTheController : Obligations.StatusReadsTheController := by
  intro tag clear s takes quiet
  refine ⟨fun above => ?_, fun asked => ?_⟩
  · refine exec_refused rfl takes quiet (c := 0x02) ?_
    exact if_neg (Nat.not_le.mpr above)
  · rw [exec_taken rfl takes, runRequest, runStatus, if_pos asked, State.clearErrors_eq,
      State.conclude_replied (by exact quiet), State.statusBlock_eq]
    rfl

end Sys2Proof.Machine
end
